-- ==== Sys2Proof/Word.lean ====
section
/-! DEFINITION. The byte of the links and the plainest helpers over fixed collections. Every quantity
of the manual is an exact integer (00_scope.md, Units and Arithmetic), so it is a Nat or an Int; only
what travels on a link is bits. -/

namespace Sys2Proof

/-- One byte on a link (R206). -/
abbrev Byte := BitVec 8

/-- The collection of length `n` whose members are the first members of `l`, with `d` where `l` has
fewer. -/
def vectorOf {α : Type} (n : Nat) (l : List α) (d : α) : Vector α n :=
  Vector.ofFn fun i => l.getD i.val d

/-- A collection with every member changed by `f`, which also sees the member's number. -/
def updateEach {α β : Type} {n : Nat} (v : Vector α n) (f : Fin n → α → β) : Vector β n :=
  Vector.ofFn fun i => f i v[i]

/-- The numbers of the members of `v` of which `p` holds, ascending. -/
def membersWhere {α : Type} {n : Nat} (v : Vector α n) (p : α → Bool) : List (Fin n) :=
  (List.finRange n).filter fun i => p v[i]

/-- How many members of `v` `p` holds of. -/
def countWhere {α : Type} {n : Nat} (v : Vector α n) (p : α → Bool) : Nat :=
  v.toList.countP p

end Sys2Proof
end

