-- ==== Sys2Proof/Config.lean ====
section
/-! DEFINITION. The two records that configure a machine (machine constants R2, ground profile R6),
the fixed figures of the manual, and the free values it leaves to an implementation. -/

namespace Sys2Proof

/-- One entry of the ring type table: the offset from the key sector and the count of sectors (R1, R2). -/
structure TypeEntry where
  offset : Nat
  count  : Nat
  deriving DecidableEq, Repr, Inhabited

/-- The machine constants record, in the order of its table (R2). -/
structure Constants where
  excavationArea : Nat
  tailVoidArea   : Nat
  ringWidth      : Nat
  strokeMax      : Nat
  heights        : Vector Int 5
  lineSectors    : Vector Nat 6
  ratedTorque    : Nat
  ringTypes      : Vector (Vector TypeEntry 7) 8
  deriving DecidableEq, Repr

/-- What the rules compute with while no constants record is stored. No rule reads a figure of the
record then (R5); see assumption 29. -/
def Constants.none : Constants :=
  { excavationArea := 0, tailVoidArea := 0, ringWidth := 0, strokeMax := 0
    heights := Vector.replicate 5 0, lineSectors := Vector.replicate 6 0, ratedTorque := 0
    ringTypes := Vector.replicate 8 (Vector.replicate 7 { offset := 0, count := 0 }) }

/-- The stack-full policy of a profile (R6, R58). -/
inductive StackPolicy where
  | refuse
  | halt
  deriving DecidableEq, Repr

/-- A ground profile, in the order of its table (R6). -/
structure Profile where
  density           : Nat
  unitWeight        : Nat
  faceTarget        : Nat
  startBand         : Nat
  kp                : Nat
  ki                : Nat
  kf                : Nat
  screwMax          : Nat
  standstillCeiling : Nat
  incrementLength   : Nat
  fillFactor        : Nat
  shares            : Vector Nat 6
  pressureLimits    : Vector Nat 6
  maxDose           : Nat
  carryCap          : Nat
  debtWarn          : Nat
  debtStop          : Nat
  groutCeiling      : Nat
  maxAdvance        : Nat
  thrustCeiling     : Nat
  torqueFraction    : Nat
  breakout          : Nat
  jamTime           : Nat
  rockSpeed         : Nat
  rockTime          : Nat
  rockAttempts      : Nat
  penetrationLimit  : Nat
  shareWindow       : Nat
  shareTime         : Nat
  minMotors         : Nat
  releaseBuild      : Nat
  releaseContinuous : Nat
  continuousAllowed : Bool
  stackPolicy       : StackPolicy
  releaseTime       : Nat
  retractTime       : Nat
  buildClearance    : Nat
  strokeReserve     : Nat
  stopMargin        : Nat
  spoilLag          : Nat
  surplus           : Nat
  deficit           : Nat
  minExpected       : Nat
  deriving DecidableEq, Repr

/-- The default of every field of a profile (R6). -/
def Profile.default : Profile :=
  { density := 1950, unitWeight := 180, faceTarget := 280, startBand := 30
    kp := 2500, ki := 40, kf := 400, screwMax := 220, standstillCeiling := 30
    incrementLength := 250, fillFactor := 1150
    shares := #v[150, 150, 200, 200, 150, 150]
    pressureLimits := Vector.replicate 6 420
    maxDose := 8000, carryCap := 40000, debtWarn := 150000, debtStop := 300000
    groutCeiling := 20, maxAdvance := 60, thrustCeiling := 32000
    torqueFraction := 850, breakout := 950, jamTime := 2000
    rockSpeed := 5, rockTime := 6000, rockAttempts := 3
    penetrationLimit := 120, shareWindow := 200, shareTime := 3000, minMotors := 6
    releaseBuild := 4, releaseContinuous := 3, continuousAllowed := true
    stackPolicy := .refuse, releaseTime := 1200000, retractTime := 30000
    buildClearance := 500, strokeReserve := 6000, stopMargin := 200
    spoilLag := 3, surplus := 80, deficit := 150, minExpected := 5000 }

namespace Config

/-- The value at which cycle totals, cumulative totals and injected totals saturate (R33, R35, R94). -/
def totalMax : Nat := 2 ^ 48 - 1

/-- The largest delta that counts, the largest residue and the largest report advance (R19, R16). -/
def deltaLimit : Nat := 500

/-- The last increment number before the numbering starts again at 1 (R25). -/
def lastIncrement : Nat := 2 ^ 32 - 1

/-- How long after the newest closure the advance speed runs out (R31). -/
def speedTimeout : Nat := 60000

/-- How long an estimate stands without a report (R121). -/
def estimateTimeout : Nat := 1000

/-- How long a link stays ACTIVE without a valid frame (R202). -/
def silenceTimeout : Nat := 1000

/-- How long the bytes of a frame may take from its start marker (R197). -/
def frameTimeout : Nat := 20

/-- The interval of the ramp steps (R142). -/
def rampInterval : Nat := 500

/-- The largest belt difference that is accepted (R129). -/
def beltLimit : Nat := 50000

/-- The time a PLAN ERASE takes (R186). -/
def eraseTime : Nat := 2000

/-- The time each row of a write takes (R188). -/
def rowTime : Nat := 4

/-- The number of rows of the plan store (R184). -/
def planRows : Nat := 2048

/-- The last ring there is (R13, R184). -/
def lastRing : Nat := 65535

/-- DESIGN CHOICE, free value (assumption 30): which of several events that fall together is taken
first. The manual says "either may be taken first" (R121, R148, R152, R153, R156, R202) and gives no
order; nothing constrains this number. -/
opaque pick : Nat → Nat

/-- DESIGN CHOICE, free value (assumption 17): the first ring that the last command record names after a plan
request whose body cannot be read. R185 says that the record takes the command's arguments, and nothing says
what they are then. -/
opaque unreadFirst : List Byte → BitVec 16

/-- DESIGN CHOICE, free value (assumption 17): the number of rows in that record. -/
opaque unreadRows : List Byte → BitVec 8

/-- DESIGN CHOICE, free value (assumption 29): the sector that READ of the grout unit gives a line while no
constants record is stored. R116 has READ give it, and nothing says what it is then. -/
opaque unsetSector : Fin 6 → BitVec 4

/-- DESIGN CHOICE, free value (assumption 29): the height that READ of the chamber unit gives a transducer while no
constants record is stored (R136). -/
opaque unsetHeight : Fin 5 → BitVec 16

end Config

end Sys2Proof
end

