-- ==== Sys2Proof/Syntax.lean ====
section
/-! DEFINITION. The commands of the block: one constructor for each row of spec/opcode_table.json. -/

namespace Sys2Proof

/-- The five ports, each fixed to the role of one controller (R196). -/
inductive Port where
  | drive
  | erector
  | grout
  | spoil
  | cabin
  deriving DecidableEq, Repr

/-- The stored records that fail the part's check at a power-on (R14, R194). The manual does not say
how the check is made; which records fail it is told to POWER_ON by its sender (assumption 6). -/
structure StoredFailures where
  constants  : Bool := false
  profiles   : List (Fin 4) := []
  active     : Bool := false
  lastClosed : Bool := false
  rows       : List Nat := []
  base       : Bool := false
  cursor     : Bool := false
  written    : Bool := false
  last       : Bool := false
  deriving DecidableEq, Repr

/-- The commands. A request command names the port whose request list's head is taken; its arguments
are the bytes of that frame (R198, R199, R206). -/
inductive Instr where
  /-- Supply is applied (R14, R180). -/
  | powerOn (failed : StoredFailures)
  /-- One assertion of the reset input, `ms` whole milliseconds long (R204, R207). -/
  | resetInput (ms : Nat)
  /-- One assertion of the revolution index input, `ms` whole milliseconds long (R150, R207). -/
  | revolutionIndexPulse (ms : Nat)
  /-- Bytes arrive on a link, one or many (R197). -/
  | frameReceive (port : Port) (bytes : List Byte)
  /-- The 20 ms of a frame have run out on a link (R197). -/
  | frameTimeout (port : Port)
  /-- A link has carried no valid frame for 1,000 ms (R202). -/
  | linkSilenceExpiry (port : Port)
  /-- STROKE REPORT (R17). -/
  | strokeReport (port : Port)
  /-- DRIVE REPORT (R139). -/
  | driveReport (port : Port)
  /-- RETRACT DONE (R51). -/
  | retractDone (port : Port)
  /-- EXTEND DONE (R52). -/
  | extendDone (port : Port)
  /-- GROUP FAULT (R55). -/
  | groupFault (port : Port)
  /-- GROUP STATE (R56). -/
  | groupState (port : Port)
  /-- CLAIM ADVANCE (R164). -/
  | claimAdvance (port : Port)
  /-- DROP ADVANCE (R166). -/
  | dropAdvance (port : Port)
  /-- CUTTER START (R141). -/
  | cutterStart (port : Port)
  /-- CUTTER SPEED (R144). -/
  | cutterSpeed (port : Port)
  /-- CUTTER STOP (R145). -/
  | cutterStop (port : Port)
  /-- CUTTER ROCK (R155). -/
  | cutterRock (port : Port)
  /-- MOTOR READMIT (R149). -/
  | motorReadmit (port : Port)
  /-- CLAIM BUILD (R165). -/
  | claimBuild (port : Port)
  /-- DROP BUILD (R166). -/
  | dropBuild (port : Port)
  /-- RING ARM (R71). -/
  | ringArm (port : Port)
  /-- SEGMENT OPEN (R75). -/
  | segmentOpen (port : Port)
  /-- SEGMENT PLACED (R79). -/
  | segmentPlaced (port : Port)
  /-- SEGMENT CLOSE (R80). -/
  | segmentClose (port : Port)
  /-- RING ABORT (R87). -/
  | ringAbort (port : Port)
  /-- DOSE TAKE (R101). -/
  | doseTake (port : Port)
  /-- DOSE CLOSE (R102). -/
  | doseClose (port : Port)
  /-- LINE STATE (R106). -/
  | lineState (port : Port)
  /-- SPOIL REPORT (R118). -/
  | spoilReport (port : Port)
  /-- CONSTANTS WRITE (R3). -/
  | constantsWrite (port : Port)
  /-- PROFILE WRITE (R7). -/
  | profileWrite (port : Port)
  /-- PROFILE SELECT (R8). -/
  | profileSelect (port : Port)
  /-- PLAN ERASE (R186). -/
  | planErase (port : Port)
  /-- PLAN BLANK CHECK (R192). -/
  | planBlankCheck (port : Port)
  /-- PLAN WRITE (R188). -/
  | planWrite (port : Port)
  /-- PLAN WRITE NEXT (R190). -/
  | planWriteNext (port : Port)
  /-- PLAN VERIFY (R191). -/
  | planVerify (port : Port)
  /-- PLAN STATUS (R192). -/
  | planStatus (port : Port)
  /-- CONDITION ACK (R179). -/
  | conditionAck (port : Port)
  /-- FLAGS CLEAR (R59). -/
  | flagsClear (port : Port)
  /-- HALT (R169). -/
  | halt (port : Port)
  /-- HALT CLEAR (R170). -/
  | haltClear (port : Port)
  /-- WARM RESET (R204). -/
  | warmReset (port : Port)
  /-- READ (R201). -/
  | read (port : Port)
  /-- A frame that is no request of the catalogue (R199, step 1). -/
  | unknownRequest (port : Port)
  /-- The retract time limit of a group has run out (R60). -/
  | retractTimerExpiry (group : Fin 16)
  /-- The release time limit of an open position has run out (R61). -/
  | releaseTimerExpiry (position : Fin 7)
  /-- 60,000 ms have passed since the newest closure (R31). -/
  | advanceSpeedExpiry
  /-- 1,000 ms have passed since the newest SPOIL REPORT (R121). -/
  | estimateLossExpiry
  /-- The next 500 ms of the ramp timer have passed (R142). -/
  | rampStep
  /-- A motor has been out of share for the share time (R148). -/
  | deviationTimerExpiry (motor : Fin 8)
  /-- The index watch has run for its limit (R152). -/
  | indexWatchExpiry
  /-- The jam timer has run for the jam time (R153). -/
  | jamTimerExpiry
  /-- The rock timer has run for the rock time in the REVERSE phase (R156). -/
  | reversePhaseExpiry
  /-- The rock timer has run for the rock time in the FORWARD phase (R156). -/
  | forwardPhaseExpiry
  /-- The operation end of an erase is reached (R187). -/
  | eraseCompletion
  /-- A row of a write in progress is complete (R189). -/
  | rowCompletion
  /-- Supply is lost (R194, R207). -/
  | supplyLoss
  deriving DecidableEq, Repr

end Sys2Proof
end

