-- ==== Sys2Proof/Decode.lean ====
section
/-! DEFINITION. The commands that words spell: no row of spec/opcode_table.json gives bits, so no word
spells one. What a link's bytes spell is Machine/Wire.lean and Machine/Operands.lean. -/

namespace Sys2Proof

/-- The command a word of the table spells: none, since no row has bits. -/
def decodeTableWord (_nbits _w : Nat) : Option Instr := none

end Sys2Proof
end

