-- ==== Sys2Proof/Machine/State.lean ====
section
/-! DEFINITION. The records of the ten blocks (the tables of R16, R33, R42, R45, R68, R94, R95, R117,
R137, R139, R163, R171 to R177, R184, R196), the frames the part sends, and the machine's state.
Plain data throughout. -/

namespace Sys2Proof.Machine

/-! ## Names -/

/-- The machine mode (R5, R167, R169), in the order in which R167 names the modes (assumption 13). -/
inductive Mode where
  | uncommissioned
  | halted
  | standstill
  | advance
  | build
  | continuous
  deriving DecidableEq, Repr

/-- A claim's state (R163). -/
inductive Claim where
  | absent
  | held
  | pending
  deriving DecidableEq, Repr

/-- The cause a MODE CHANGE carries (R168). -/
inductive ModeCause where
  | claim
  | drop
  | grant
  | profile
  | halt
  | haltClear
  | commissioned
  | warmReset
  deriving DecidableEq, Repr

/-- The states of a thrust cylinder group (R42, R43). -/
inductive GroupState where
  | thrust
  | retracting
  | released
  | returning
  | lockedOut
  | uncertain
  deriving DecidableEq, Repr

/-- The class of a group's most recent stroke (R18, R20, R42). -/
inductive StrokeValidity where
  | valid
  | invalid
  | suspect
  deriving DecidableEq, Repr

/-- The state of a release stack entry: OPENING, OPEN, PLACED (R46). -/
inductive EntryState where
  | opening
  | opened
  | placed
  deriving DecidableEq, Repr

/-- The state of the ring record (R69). -/
inductive RingState where
  | idle
  | armed
  | building
  | closing
  | aborting
  deriving DecidableEq, Repr

/-- The cause a RING STATE carries (R74). -/
inductive RingCause where
  | arm
  | firstOpen
  | keySet
  | closed
  | abort
  | ringFailed
  | abortComplete
  deriving DecidableEq, Repr

/-- The service state of a grout line (R94). -/
inductive Service where
  | inService
  | blocked
  | outOfService
  deriving DecidableEq, Repr

/-- The capacity class of a grout line (R94). -/
inductive Capacity where
  | full
  | half
  | quarter
  deriving DecidableEq, Repr

/-- The outcome of a dose (R95). -/
inductive DoseOutcome where
  | full
  | pressureLimit
  | fault
  deriving DecidableEq, Repr

/-- The status of the pressure estimate (R117). -/
inductive EstimateStatus where
  | good
  | degraded
  | lost
  deriving DecidableEq, Repr

/-- The position of the discharge gate (R117). -/
inductive Gate where
  | opened
  | closed
  deriving DecidableEq, Repr

/-- A balance verdict (R33, R131). -/
inductive Verdict where
  | over
  | under
  | balanced
  | undetermined
  deriving DecidableEq, Repr

/-- The run state of the cutterhead (R137). -/
inductive RunState where
  | stopped
  | starting
  | running
  | stopping
  | jammed
  | rocking
  | tripped
  deriving DecidableEq, Repr

/-- The half of a rocking attempt (R137, R156). -/
inductive RockPhase where
  | reverse
  | forward
  deriving DecidableEq, Repr

/-- The run direction, looking toward the face (R137). -/
inductive Direction where
  | clockwise
  | anticlockwise
  deriving DecidableEq, Repr

/-- Why a motor is out (R139). -/
inductive Removal where
  | notReady
  | share
  deriving DecidableEq, Repr

/-- A motor's membership, with the removal that is present only while OUT (R139). -/
inductive Membership where
  | isIn
  | out (why : Removal)
  deriving DecidableEq, Repr

/-- The status of the plan store (R184). -/
inductive PlanStatus where
  | idle
  | erasing
  | writing
  deriving DecidableEq, Repr

/-- The commands a last command record can name (R184). -/
inductive PlanCommand where
  | erase
  | write
  | writeNext
  deriving DecidableEq, Repr

/-- A class of condition (R177). STACK_FULL's class is absent while undetermined. -/
inductive CondClass where
  | info
  | limit
  | halt
  deriving DecidableEq, Repr

/-- The 27 condition names, in the order of the summary table (R177). -/
inductive CondName where
  | powerOn
  | overExcavation
  | underExcavation
  | pressureDegraded
  | pressureLost
  | groutDeficit
  | groutStop
  | groutBacklog
  | releaseOvertime
  | stackFull
  | stackUnderflow
  | strokeEnd
  | cutterJam
  | cutterTrip
  | motorsLow
  | indexLost
  | penetrationHigh
  | spoilCounter
  | ringFailed
  | planMissing
  | operatorHalt
  | strokeSuspect
  | groupSlow
  | groupFault
  | groupUncertain
  | motorShare
  | linkSilent
  deriving DecidableEq, Repr

/-- The result codes of responses (R199). -/
inductive Code where
  | done
  | role
  | format
  | range
  | state
  | busy
  | limit
  | order
  | stackFull
  | stackEmpty
  | sequence
  | noPlan
  | notBlank
  | locked
  | active
  | stale
  deriving DecidableEq, Repr

/-! ## Records of the blocks -/

/-- A frame that has arrived whole: its kind, tag and body (R197, R206). -/
structure Frame where
  kind : Byte
  tag  : Byte
  body : List Byte
  deriving DecidableEq, Repr

/-- A link record (R196). `rx` is the receiver's part of R197: the bytes from the oldest start marker
still under search, each with its arrival time (assumption 5). -/
structure LinkRec where
  active    : Bool
  ever      : Bool
  lastFrame : Option Nat
  requests  : List Frame
  rx        : List (Byte × Nat)
  deriving DecidableEq, Repr

/-- The constant and profile store (chapter 1). -/
structure Store where
  constants      : Option Constants
  profiles       : Vector Profile 4
  active         : Fin 4
  pendingProfile : Option (Fin 4)
  lastClosed     : Nat
  deriving DecidableEq, Repr

/-- A group's previous stroke with its eligible mark (R16). -/
structure PrevStroke where
  stroke   : Nat
  eligible : Bool
  deriving DecidableEq, Repr

/-- An increment record (R25). -/
structure IncrementRec where
  number   : Nat
  time     : Nat
  length   : Nat
  volume   : Nat
  tailVoid : Nat
  grout    : Nat
  mass     : Nat
  mode     : Mode
  deriving DecidableEq, Repr

/-- The totals of a cycle (R33). -/
structure Cycle where
  advance    : Nat
  increments : Nat
  volume     : Nat
  tailVoid   : Nat
  required   : Nat
  injected   : Nat
  expected   : Nat
  measured   : Nat
  verdict    : Option Verdict
  lagged     : Option Nat
  deriving DecidableEq, Repr

/-- A cycle at its start (R33, R34). -/
def Cycle.start : Cycle :=
  { advance := 0, increments := 0, volume := 0, tailVoid := 0, required := 0, injected := 0
    expected := 0, measured := 0, verdict := none, lagged := none }

/-- A cycle record: a closed cycle and the ring that closed it (R34). -/
structure CycleRec where
  ring  : Nat
  cycle : Cycle
  deriving DecidableEq, Repr

/-- A cumulative total with its saturated mark (R16, R35). -/
structure Total where
  value     : Nat
  saturated : Bool
  deriving DecidableEq, Repr

/-- The five cumulative totals (R16, R35). -/
structure Totals where
  advance  : Total
  volume   : Total
  tailVoid : Total
  required : Total
  injected : Total
  deriving DecidableEq, Repr

/-- The advance account (R16, R36). -/
structure Account where
  prev          : Vector (Option PrevStroke) 16
  accumulator   : Nat
  residue       : Nat
  remVolume     : Nat
  remTail       : Nat
  remGrout      : Nat
  remMass       : Nat
  counter       : Nat
  increments    : List IncrementRec
  cycles        : List CycleRec
  cycle         : Cycle
  totals        : Totals
  speedBase     : Option Nat
  instantLength : Nat
  speed         : Nat
  thrustMean    : Option Nat
  deriving DecidableEq, Repr

/-- A group record (R42). `slow` is the level of GROUP_SLOW for the group (R60, assumption 22). -/
structure GroupRec where
  state      : GroupState
  holdCount  : Nat
  lastStroke : Nat
  validity   : StrokeValidity
  stateTime  : Nat
  transition : Nat
  slow       : Bool
  deriving DecidableEq, Repr

/-- A release stack entry (R45). -/
structure StackEntry where
  position : Fin 7
  cover    : List (Fin 16)
  state    : EntryState
  openedAt : Nat
  overtime : Bool
  deriving DecidableEq, Repr

/-- The release stack and its sticky flags (R45, R54, R58). The head of `entries` is the top. -/
structure ReleaseStack where
  entries   : List StackEntry
  full      : Bool
  fullClass : Option CondClass
  underflow : Bool
  deriving DecidableEq, Repr

/-- A WRITTEN plan row (R184). -/
structure PlanRow where
  ringType  : Nat
  keySector : Nat
  start     : Nat
  fill      : Option Nat
  profile   : Option Nat
  deriving DecidableEq, Repr

/-- The ring record (R68). `failed` is the level of RING_FAILED (R84). -/
structure RingRec where
  number  : Nat
  state   : RingState
  row     : Option PlanRow
  covers  : Option (Vector (List (Fin 16)) 7)
  queue   : List (Fin 7)
  setList : List (Fin 7)
  skips   : Vector Nat 7
  failed  : Bool
  deriving DecidableEq, Repr

/-- What became of the newest plan command (R184). -/
inductive PlanResult where
  | inProgress
  | done
  | interrupted
  | refused (code : Code)
  deriving DecidableEq, Repr

/-- The last command record (R184). -/
structure LastCommand where
  command : PlanCommand
  first   : Nat
  rows    : Nat
  written : Nat
  result  : PlanResult
  deriving DecidableEq, Repr

/-- The rest of a write in progress: the rows not yet stored, the ring of the next one and the time at
which it is complete (R189). -/
structure WriteJob where
  rows     : List PlanRow
  nextRing : Nat
  nextDue  : Nat
  deriving DecidableEq, Repr

/-- The ring plan store (R184). `rows` lists the WRITTEN rows by row number, rising; an unlisted row is
BLANK. `running` is the record of the command in progress, which a loss of supply shows INTERRUPTED (R194) also
where a refusal has replaced the last command record since (R185, assumption 17). -/
structure PlanStore where
  rows    : List (Nat × PlanRow)
  base    : Nat
  cursor  : Nat
  written : Nat
  status  : PlanStatus
  opEnd   : Option Nat
  last    : Option LastCommand
  running : Option LastCommand
  job     : Option WriteJob
  deriving DecidableEq, Repr

/-- What a posted descriptor orders (R95, R99). -/
structure Dose where
  sequence  : Nat
  increment : Nat
  target    : Nat
  limit     : Nat
  deriving DecidableEq, Repr

/-- The state of a descriptor that is not FREE, with the result it holds once CLOSED (R95). -/
inductive DoseState where
  | posted
  | taken
  | closed (actual peak : Nat) (outcome : DoseOutcome)
  deriving DecidableEq, Repr

/-- A descriptor that is not FREE (R95). -/
structure Descriptor where
  dose  : Dose
  state : DoseState
  deriving DecidableEq, Repr

/-- A line record (R94). `descriptors` holds the descriptors that are not FREE, in sequence order; the
line's other descriptors, up to its four, are FREE and hold nothing (assumption 24). -/
structure Line where
  service      : Service
  capacity     : Capacity
  carry        : Int
  nextSequence : Nat
  injected     : Nat
  descriptors  : List Descriptor
  deriving DecidableEq, Repr

/-- The grout unit (R94). `judged` says that the debt has been evaluated since power-on: R111 gives the
moments, and R114 the levels before the first of them (assumption 22). -/
structure Grout where
  lines  : Vector Line 6
  pool   : Int
  judged : Bool
  deriving DecidableEq, Repr

/-- A transducer record (R117). -/
structure Transducer where
  raw      : Nat
  valid    : Bool
  referred : Option Int
  deriving DecidableEq, Repr

/-- A belt difference and whether it was accepted (R117, R129). -/
structure BeltDifference where
  amount   : Nat
  accepted : Bool
  deriving DecidableEq, Repr

/-- The chamber and spoil unit (R117). `spoilCounter` is the level of SPOIL_COUNTER (R130). -/
structure Chamber where
  transducers  : Vector Transducer 5
  estimate     : Int
  status       : EstimateStatus
  lastReport   : Option Nat
  validCount   : Nat
  integrator   : Nat
  setpoint     : Nat
  snapshot     : Option Nat
  gateAllowed  : Bool
  screwActual  : Nat
  gate         : Gate
  beltRef      : Option Nat
  lastBelt     : Option BeltDifference
  spoilCounter : Bool
  deriving DecidableEq, Repr

/-- A motor record (R139). -/
structure Motor where
  ready      : Bool
  membership : Membership
  inShare    : Bool
  torque     : Nat
  deviation  : Option Nat
  deriving DecidableEq, Repr

/-- A revolution record (R150). -/
structure RevolutionRec where
  time        : Nat
  period      : Nat
  penetration : Nat
  above       : Bool
  factor      : Nat
  deriving DecidableEq, Repr

/-- The cutterhead unit (R137). `rampSteps` counts the ramp steps made since the ramp timer's start
(assumption 22); `indexLost` and `penetrationHigh` are the levels of their conditions (R151, R152). -/
structure Cutter where
  run             : RunState
  phase           : Option RockPhase
  direction       : Direction
  requested       : Nat
  reference       : Nat
  ramp            : Option Nat
  rampSteps       : Nat
  measured        : Nat
  firstPending    : Bool
  motors          : Vector Motor 8
  torqueCeiling   : Nat
  jam             : Option Nat
  rock            : Option Nat
  attempts        : Nat
  indexRef        : Option Nat
  revAdvance      : Nat
  watch           : Option Nat
  revolutions     : List RevolutionRec
  governor        : Nat
  indexLost       : Bool
  penetrationHigh : Bool
  deriving DecidableEq, Repr

/-- The claims, the mode and what follows the mode (R163, R167, R169). `cause` is the cause the newest
MODE CHANGE carries (assumption 11). -/
structure ModeUnit where
  advance      : Claim
  build        : Claim
  mode         : Mode
  haltOutput   : Bool
  operatorHalt : Bool
  cause        : ModeCause
  deriving DecidableEq, Repr

/-- An entry's identity in the condition table: its condition and its subject (R177). -/
abbrev CondKey := CondName × Option Nat

/-- The advance permit (R171). -/
structure AdvancePermit where
  allowed  : Bool
  ceiling  : Nat
  thrust   : Nat
  limiting : List CondKey
  speed    : Nat
  deriving DecidableEq, Repr

/-- The cutter permit (R172). -/
structure CutterPermit where
  runAllowed    : Bool
  reference     : Nat
  direction     : Direction
  torqueCeiling : Nat
  deriving DecidableEq, Repr

/-- The build permit (R174); the open entries bottom to top. -/
structure BuildPermit where
  allowed : Bool
  entries : List (Fin 7 × EntryState)
  deriving DecidableEq, Repr

/-- The grout permit (R175). -/
structure GroutPermit where
  allowed : Bool
  limits  : Vector Nat 6
  deriving DecidableEq, Repr

/-- The permit records kept by the permit unit; the screw permit is the chamber's own (R173). -/
structure Permits where
  advance : AdvancePermit
  cutter  : CutterPermit
  build   : BuildPermit
  grout   : GroutPermit
  deriving DecidableEq, Repr

/-- An entry of the condition table (R177). -/
structure CondEntry where
  name      : CondName
  subject   : Option Nat
  cls       : Option CondClass
  active    : Bool
  latched   : Bool
  changedAt : Nat
  deriving DecidableEq, Repr

/-! ## What the part sends -/

/-- A field of a body, by the number of bytes it takes and whether it is signed (R206). -/
inductive Field where
  | u8 (v : Nat)
  | u16 (v : Nat)
  | u32 (v : Nat)
  | u64 (v : Nat)
  | i16 (v : Int)
  | i64 (v : Int)
  deriving DecidableEq, Repr

/-- One descriptor in a DOSE POSTED notice (R100). -/
structure PostedItem where
  line     : Fin 6
  sector   : Nat
  sequence : Nat
  target   : Nat
  limit    : Nat
  deriving DecidableEq, Repr

/-- The twelve notices of the catalogue, in its order (10.8, R200). -/
inductive Notice where
  /-- R50 -/
  | retractOrder (items : List (Fin 16 × Nat)) (cause : Option (Fin 7))
  /-- R50, R53 -/
  | extendOrder (items : List (Fin 16 × Nat)) (cause : Option (Fin 7))
  /-- R171 -/
  | advancePermit (p : AdvancePermit)
  /-- R172 -/
  | cutterPermit (p : CutterPermit)
  /-- R46 -/
  | segmentGranted (position : Fin 7) (cover : List (Fin 16)) (depth : Nat)
  /-- R174 -/
  | buildPermit (p : BuildPermit)
  /-- R74 -/
  | ringState (number : Nat) (state : RingState) (cause : RingCause) (queue setList : List (Fin 7))
  /-- R100 -/
  | dosePosted (increment required : Nat) (items : List PostedItem) (carries : Vector Int 6) (pool debt : Int)
  /-- R175 -/
  | groutPermit (p : GroutPermit)
  /-- R128 -/
  | screwSetpoint (setpoint : Nat) (gateAllowed : Bool) (estimate : Int) (status : EstimateStatus) (target : Nat)
  /-- R178 -/
  | conditionChange (entries : List CondEntry)
  /-- R168 -/
  | modeChange (mode before : Mode) (advance build : Claim) (cause : ModeCause)
  deriving DecidableEq, Repr

/-- A frame the part sends: a response or a notice (R199, R200). -/
inductive Message where
  | response (tag : Byte) (request : Byte) (code : Code) (fields : List Field)
  | notice (n : Notice)
  deriving DecidableEq, Repr

/-- A message and the port it is sent on. -/
structure Sent where
  port    : Port
  message : Message
  deriving DecidableEq, Repr

/-- What waits for the answer to the frame that made a link ACTIVE: how many answers are still to be sent
on the link up to that one, whether the orders of R66 follow it, and the link's own notices of the
activation, which R178 places after the answer (assumption 28). -/
structure Held where
  after   : Nat
  orders  : Bool
  notices : List Sent
  deriving DecidableEq, Repr

/-! ## The state -/

/-- The state of the part. `sent`, `choices`, `held` and `pending` are the model's own (assumptions 1, 28,
30): what the newest step sent, the counter of the free order, what waits on each link for the answer to
the frame that made it ACTIVE, and the commands waiting, first in, first out. -/
structure State where
  powered      : Bool
  now          : Nat
  links        : Vector LinkRec 5
  held         : Vector (Option Held) 5
  store        : Store
  account      : Account
  groups       : Vector GroupRec 16
  stack        : ReleaseStack
  ring         : RingRec
  plan         : PlanStore
  grout        : Grout
  chamber      : Chamber
  cutter       : Cutter
  modes        : ModeUnit
  permits      : Permits
  conds        : List CondEntry
  sent         : List Sent
  choices      : Nat
  pending      : List Instr
  deriving DecidableEq, Repr

/-- No command stops the part with a fault: every failure the manual describes is a response with a
result code, a condition or the HALTED mode, and the part goes on. There is therefore no constructor. -/
inductive Fault where
  deriving DecidableEq, Repr

/-- Why the model gives a command no meaning. -/
inductive Refusal where
  /-- Raised by Dispatch's refused arms alone, for a row the model gives no meaning yet. Safe: the
  model stops where the part would go on. No arm is refused now. -/
  | notModelled (mnemonic : String)
  deriving DecidableEq, Repr

/-! ## After a power-on -/

/-- A link at power-on (R196). -/
def LinkRec.initial : LinkRec :=
  { active := false, ever := false, lastFrame := none, requests := [], rx := [] }

/-- The stored records of a new part (R5, R6, R13; the active index: assumption 8). -/
def Store.initial : Store :=
  { constants := none, profiles := Vector.replicate 4 Profile.default, active := 0
    pendingProfile := none, lastClosed := 0 }

/-- A cumulative total at power-on (R38). -/
def Total.zero : Total := { value := 0, saturated := false }

/-- The advance account at power-on (R38). -/
def Account.initial : Account :=
  { prev := Vector.replicate 16 none, accumulator := 0, residue := 0
    remVolume := 0, remTail := 0, remGrout := 0, remMass := 0
    counter := 0, increments := [], cycles := [], cycle := Cycle.start
    totals := { advance := .zero, volume := .zero, tailVoid := .zero, required := .zero, injected := .zero }
    speedBase := none, instantLength := 0, speed := 0, thrustMean := none }

/-- A group at power-on, the power-on time being count 0 (R38, R64). -/
def GroupRec.initial : GroupRec :=
  { state := .uncertain, holdCount := 0, lastStroke := 0, validity := .invalid, stateTime := 0
    transition := 0, slow := false }

/-- The release stack at power-on (R64, R180). -/
def ReleaseStack.initial : ReleaseStack :=
  { entries := [], full := false, fullClass := none, underflow := false }

/-- The ring record at power-on, with the ring number given (R13, R90). -/
def RingRec.initial (number : Nat) : RingRec :=
  { number, state := .idle, row := none, covers := none, queue := [], setList := []
    skips := Vector.replicate 7 0, failed := false }

/-- The plan store of a new part (R194). -/
def PlanStore.initial : PlanStore :=
  { rows := [], base := 1, cursor := 1, written := 0, status := .idle, opEnd := none, last := none
    running := none, job := none }

/-- A grout line at power-on (R114). -/
def Line.initial : Line :=
  { service := .inService, capacity := .full, carry := 0, nextSequence := 0, injected := 0
    descriptors := [] }

/-- The grout unit at power-on (R114). -/
def Grout.initial : Grout := { lines := Vector.replicate 6 Line.initial, pool := 0, judged := false }

/-- The chamber and spoil unit at power-on (R133). -/
def Chamber.initial : Chamber :=
  { transducers := Vector.replicate 5 { raw := 0, valid := false, referred := none }
    estimate := 0, status := .lost, lastReport := none, validCount := 0, integrator := 0
    setpoint := 0, snapshot := none, gateAllowed := false, screwActual := 0, gate := .closed
    beltRef := none, lastBelt := none, spoilCounter := false }

/-- A motor at power-on (R159). -/
def Motor.initial : Motor :=
  { ready := false, membership := .out .notReady, inShare := true, torque := 0, deviation := none }

/-- The cutterhead unit at power-on (R159). -/
def Cutter.initial : Cutter :=
  { run := .stopped, phase := none, direction := .clockwise, requested := 0, reference := 0
    ramp := none, rampSteps := 0, measured := 0, firstPending := true
    motors := Vector.replicate 8 Motor.initial, torqueCeiling := 0, jam := none, rock := none
    attempts := 0, indexRef := none, revAdvance := 0, watch := none, revolutions := []
    governor := 1000, indexLost := false, penetrationHigh := false }

/-- The mode unit at power-on, with the mode given (R180). -/
def ModeUnit.initial (mode : Mode) : ModeUnit :=
  { advance := .absent, build := .absent, mode, haltOutput := false, operatorHalt := false
    cause := .warmReset }

/-- The sixteen entries of a condition with a group as subject, as they stand at a power-on. -/
def initialGroupEntries (name : CondName) (cls : CondClass) (active : Bool) : List CondEntry :=
  (List.range 16).map fun g =>
    { name, subject := some g, cls := some cls, active, latched := false, changedAt := 0 }

/-- An entry without subject as it stands at a power-on. -/
def initialEntry (name : CondName) (cls : Option CondClass) (active : Bool) : CondEntry :=
  { name, subject := none, cls, active, latched := false, changedAt := 0 }

/-- The condition table after the power-on of a new part (R177, R180): PRESSURE_LOST (R133),
MOTORS_LOW (R159), PLAN_MISSING (R193) and GROUP_UNCERTAIN for every group (R64) are active, nothing
is latched but POWER_ON. -/
def initialConds : List CondEntry :=
  [ { initialEntry .powerOn (some .info) false with latched := true },
    initialEntry .overExcavation (some .limit) false, initialEntry .underExcavation (some .limit) false,
    initialEntry .pressureDegraded (some .info) false, initialEntry .pressureLost (some .limit) true,
    initialEntry .groutDeficit (some .limit) false, initialEntry .groutStop (some .limit) false,
    initialEntry .groutBacklog (some .info) false, initialEntry .releaseOvertime (some .limit) false,
    initialEntry .stackFull none false, initialEntry .stackUnderflow (some .info) false,
    initialEntry .strokeEnd (some .limit) false, initialEntry .cutterJam (some .limit) false,
    initialEntry .cutterTrip (some .limit) false, initialEntry .motorsLow (some .limit) true,
    initialEntry .indexLost (some .info) false, initialEntry .penetrationHigh (some .info) false,
    initialEntry .spoilCounter (some .info) false, initialEntry .ringFailed (some .info) false,
    initialEntry .planMissing (some .info) true, initialEntry .operatorHalt (some .halt) false ]
  ++ initialGroupEntries .strokeSuspect .info false ++ initialGroupEntries .groupSlow .info false
  ++ initialGroupEntries .groupFault .limit false ++ initialGroupEntries .groupUncertain .limit true
  ++ (List.range 8).map (fun m =>
      { name := .motorShare, subject := some m, cls := some .info, active := false, latched := false, changedAt := 0 })
  ++ (List.range 5).map (fun p =>
      { name := .linkSilent, subject := some p, cls := some (if p = 0 then .halt else .info), active := false, latched := false, changedAt := 0 })

/-- The permits after the power-on of a new part (R5, R180): every one is withheld. -/
def initialPermits : Permits :=
  { advance :=
      { allowed := false, ceiling := 0, thrust := 0
        limiting := [(.pressureLost, none), (.motorsLow, none)]
          ++ (List.range 16).map (fun g => (.groupUncertain, some g))
        speed := 0 }
    cutter := { runAllowed := false, reference := 0, direction := .clockwise, torqueCeiling := 0 }
    build := { allowed := false, entries := [] }
    grout := { allowed := false, limits := Profile.default.pressureLimits } }

/-- The machine right after the power-on of a new part: no constants are stored, so it is
UNCOMMISSIONED (R5, R14, R180); no command waits (assumption 8). -/
def State.reset : State :=
  { powered := true, now := 0
    links := Vector.replicate 5 LinkRec.initial, held := Vector.replicate 5 none
    store := Store.initial, account := Account.initial
    groups := Vector.replicate 16 GroupRec.initial, stack := ReleaseStack.initial
    ring := RingRec.initial 1, plan := PlanStore.initial, grout := Grout.initial
    chamber := Chamber.initial, cutter := Cutter.initial
    modes := ModeUnit.initial .uncommissioned, permits := initialPermits, conds := initialConds
    sent := [], choices := 0, pending := [] }

end Sys2Proof.Machine
end

