-- ==== Sys2Proof/Machine/Arith.lean ====
section
/-! DEFINITION. The arithmetic of the manual (00_scope.md, Arithmetic): rounding, clamping, saturation
and the largest remainder distribution of R97. -/

namespace Sys2Proof.Machine

/-- `a / k` rounded to nearest, ties away from zero (00, Arithmetic). -/
def roundAway (a : Int) (k : Nat) : Int :=
  if a < 0 then -((2 * -a + k) / (2 * k)) else (2 * a + k) / (2 * k)

/-- `a / k` rounded half up: a value exactly halfway goes to the larger integer (00, Arithmetic). -/
def roundHalfUp (a : Int) (k : Nat) : Int := (2 * a + k) / (2 * k)

/-- `a` clamped to `0 … hi`, as a natural number (00, Arithmetic). -/
def clampNat (a : Int) (hi : Nat) : Nat := min a.toNat hi

/-- An addition that saturates at 2⁴⁸ − 1 (R33, R94, R105). -/
def satAdd (a b : Nat) : Nat := min (a + b) Config.totalMax

/-- An addition to a cumulative total: one that would carry it above 2⁴⁸ − 1 leaves it there and sets
its saturated mark (R35). -/
def Total.add (t : Total) (n : Nat) : Total :=
  if Config.totalMax < t.value + n then { value := Config.totalMax, saturated := true }
  else { t with value := t.value + n }

/-- A collection that keeps its newest `cap` members: `x` joins at the end, and the oldest is dropped
first when the collection is full (R25, R34, R150). -/
def pushCapped {α : Type} (cap : Nat) (l : List α) (x : α) : List α :=
  if l.length < cap then l ++ [x] else (l.drop (l.length + 1 - cap)) ++ [x]

/-- The sum of six amounts. -/
def sumNat (v : Vector Nat 6) : Nat := v.toList.sum

/-- The sum of six signed amounts. -/
def sumInt (v : Vector Int 6) : Int := v.toList.sum

/-- The rounded-down part of recipient `i`: M × share / S (R97). -/
def basePart (shares : Vector Nat 6) (m : Nat) (i : Fin 6) : Nat := m * shares[i] / sumNat shares

/-- The remainder of recipient `i`'s division (R97). -/
def remPart (shares : Vector Nat 6) (m : Nat) (i : Fin 6) : Nat := m * shares[i] % sumNat shares

/-- How many recipients come before `i` when the mL left over are handed out: those with a larger
remainder, and among equal remainders those with a lower number (R97). -/
def rankOf (shares : Vector Nat 6) (m : Nat) (i : Fin 6) : Nat :=
  (List.finRange 6).countP fun j =>
    0 < shares[j] && (remPart shares m i < remPart shares m j
      || (remPart shares m i == remPart shares m j && j < i))

/-- The mL left over after every recipient has its rounded-down part (R97). -/
def leftOver (shares : Vector Nat 6) (m : Nat) : Nat :=
  m - ((List.finRange 6).map (basePart shares m)).sum

/-- The largest remainder distribution of `m` over shares; a share of 0 is no recipient (R97). -/
def portions (shares : Vector Nat 6) (m : Nat) : Vector Nat 6 :=
  Vector.ofFn fun i =>
    if shares[i] = 0 then 0
    else basePart shares m i + (if rankOf shares m i < leftOver shares m then 1 else 0)

/-- The portions of a signed amount: those of its magnitude with its sign (R97). -/
def signedPortions (shares : Vector Nat 6) (a : Int) : Vector Int 6 :=
  updateEach (portions shares a.natAbs) fun _ p => if a < 0 then -(p : Int) else p

end Sys2Proof.Machine
end

