-- ==== Sys2Proof/Machine/Wire.lean ====
section
/-! DEFINITION. What travels on a link, to the byte: the codes of enumerated fields, the fields of each
notice, the frame with its CRC-16, and the receiver's search for frames (R197, R200, R206). -/

namespace Sys2Proof.Machine

/-! ## Ports -/

/-- A port's number (R196). -/
def portIndex : Port → Fin 5
  | .drive => 0
  | .erector => 1
  | .grout => 2
  | .spoil => 3
  | .cabin => 4

/-- The five ports in the order of their numbers (R196). -/
def allPorts : List Port := [.drive, .erector, .grout, .spoil, .cabin]

/-! ## Codes of enumerated fields

Values are numbered from 0 in the order in which the rule that defines the field lists them (R206;
assumption 13 where the rule gives no single list). -/

def Mode.code : Mode → Nat
  | .uncommissioned => 0 | .halted => 1 | .standstill => 2 | .advance => 3 | .build => 4 | .continuous => 5

def Claim.code : Claim → Nat
  | .absent => 0 | .held => 1 | .pending => 2

def ModeCause.code : ModeCause → Nat
  | .claim => 0 | .drop => 1 | .grant => 2 | .profile => 3 | .halt => 4 | .haltClear => 5
  | .commissioned => 6 | .warmReset => 7

def GroupState.code : GroupState → Nat
  | .thrust => 0 | .retracting => 1 | .released => 2 | .returning => 3 | .lockedOut => 4 | .uncertain => 5

def StrokeValidity.code : StrokeValidity → Nat
  | .valid => 0 | .invalid => 1 | .suspect => 2

def EntryState.code : EntryState → Nat
  | .opening => 0 | .opened => 1 | .placed => 2

def RingState.code : RingState → Nat
  | .idle => 0 | .armed => 1 | .building => 2 | .closing => 3 | .aborting => 4

def RingCause.code : RingCause → Nat
  | .arm => 0 | .firstOpen => 1 | .keySet => 2 | .closed => 3 | .abort => 4 | .ringFailed => 5
  | .abortComplete => 6

def Service.code : Service → Nat
  | .inService => 0 | .blocked => 1 | .outOfService => 2

def Capacity.code : Capacity → Nat
  | .full => 0 | .half => 1 | .quarter => 2

def DoseOutcome.code : DoseOutcome → Nat
  | .full => 0 | .pressureLimit => 1 | .fault => 2

def EstimateStatus.code : EstimateStatus → Nat
  | .good => 0 | .degraded => 1 | .lost => 2

def Gate.code : Gate → Nat
  | .opened => 0 | .closed => 1

def Verdict.code : Verdict → Nat
  | .over => 0 | .under => 1 | .balanced => 2 | .undetermined => 3

def RunState.code : RunState → Nat
  | .stopped => 0 | .starting => 1 | .running => 2 | .stopping => 3 | .jammed => 4 | .rocking => 5
  | .tripped => 6

def RockPhase.code : RockPhase → Nat
  | .reverse => 0 | .forward => 1

def Direction.code : Direction → Nat
  | .clockwise => 0 | .anticlockwise => 1

def Removal.code : Removal → Nat
  | .notReady => 0 | .share => 1

def PlanStatus.code : PlanStatus → Nat
  | .idle => 0 | .erasing => 1 | .writing => 2

def PlanCommand.code : PlanCommand → Nat
  | .erase => 0 | .write => 1 | .writeNext => 2

/-- INFO, LIMIT, HALT, undetermined (R177). -/
def condClassCode : Option CondClass → Nat
  | some .info => 0 | some .limit => 1 | some .halt => 2 | none => 3

/-- The result codes (R199). -/
def Code.code : Code → Nat
  | .done => 0 | .role => 1 | .format => 2 | .range => 3 | .state => 4 | .busy => 5 | .limit => 6
  | .order => 7 | .stackFull => 8 | .stackEmpty => 9 | .sequence => 10 | .noPlan => 11
  | .notBlank => 12 | .locked => 13 | .active => 14 | .stale => 15

/-- IN_PROGRESS, DONE, INTERRUPTED, then the refusal codes (R184, assumption 13). -/
def PlanResult.code : PlanResult → Nat
  | .inProgress => 0 | .done => 1 | .interrupted => 2 | .refused c => 2 + c.code

/-- The condition names in table order (R177). -/
def allCondNames : List CondName :=
  [.powerOn, .overExcavation, .underExcavation, .pressureDegraded, .pressureLost, .groutDeficit,
   .groutStop, .groutBacklog, .releaseOvertime, .stackFull, .stackUnderflow, .strokeEnd, .cutterJam,
   .cutterTrip, .motorsLow, .indexLost, .penetrationHigh, .spoilCounter, .ringFailed, .planMissing,
   .operatorHalt, .strokeSuspect, .groupSlow, .groupFault, .groupUncertain, .motorShare, .linkSilent]

/-- A condition identity's code: its row in the summary table (R177, R206). -/
def CondName.code (n : CondName) : Nat := allCondNames.idxOf n

/-- A subject's code, 255 when absent (R206). -/
def subjectCode (s : Option Nat) : Nat := s.getD 255

/-! ## Fields -/

/-- A yes/no field (R206). -/
def yesNo (b : Bool) : Field := .u8 (if b then 1 else 0)

/-- An optional field: its presence byte, then the field, or zeros of the same width (R206). -/
def optU8 (v : Option Nat) : List Field := [yesNo v.isSome, .u8 (v.getD 0)]

def optU16 (v : Option Nat) : List Field := [yesNo v.isSome, .u16 (v.getD 0)]

def optU32 (v : Option Nat) : List Field := [yesNo v.isSome, .u32 (v.getD 0)]

def optU64 (v : Option Nat) : List Field := [yesNo v.isSome, .u64 (v.getD 0)]

def optI16 (v : Option Int) : List Field := [yesNo v.isSome, .i16 (v.getD 0)]

/-- A list of varying length: one byte for the number of its items, then the items (R206). -/
def listFields {α : Type} (f : α → List Field) (l : List α) : List Field :=
  .u8 l.length :: l.flatMap f

/-- A list of groups. -/
def groupList (l : List (Fin 16)) : List Field := listFields (fun g => [.u8 g.val]) l

/-- A list of positions. -/
def positionList (l : List (Fin 7)) : List Field := listFields (fun p => [.u8 p.val]) l

/-- A condition entry named by its identity and subject (assumption 12). -/
def keyFields (k : CondKey) : List Field := [.u8 k.1.code, .u8 (subjectCode k.2)]

/-- A condition entry whole (R177, R178). -/
def condFields (e : CondEntry) : List Field :=
  [.u8 e.name.code, .u8 (subjectCode e.subject), .u8 (condClassCode e.cls), yesNo e.active,
   yesNo e.latched, .u64 e.changedAt]

/-- An item of an order (R50). -/
def orderFields (i : Fin 16 × Nat) : List Field := [.u8 i.1.val, .u8 i.2]

/-- The fields of the advance permit (R171). -/
def AdvancePermit.fields (p : AdvancePermit) : List Field :=
  [yesNo p.allowed, .u8 p.ceiling, .u16 p.thrust] ++ listFields keyFields p.limiting ++ [.u16 p.speed]

/-- The fields of the cutter permit (R172). -/
def CutterPermit.fields (p : CutterPermit) : List Field :=
  [yesNo p.runAllowed, .u8 p.reference, .u8 p.direction.code, .u16 p.torqueCeiling]

/-- The fields of the build permit (R174). -/
def BuildPermit.fields (p : BuildPermit) : List Field :=
  yesNo p.allowed :: listFields (fun e => [.u8 e.1.val, .u8 e.2.code]) p.entries

/-- The fields of the grout permit (R175). -/
def GroutPermit.fields (p : GroutPermit) : List Field :=
  yesNo p.allowed :: p.limits.toList.map .u16

/-- A notice's identifier: its row in the catalogue (10.8, R200). -/
def Notice.identifier : Notice → Nat
  | .retractOrder _ _ => 1 | .extendOrder _ _ => 2 | .advancePermit _ => 3 | .cutterPermit _ => 4
  | .segmentGranted _ _ _ => 5 | .buildPermit _ => 6 | .ringState _ _ _ _ _ => 7
  | .dosePosted _ _ _ _ _ _ => 8 | .groutPermit _ => 9 | .screwSetpoint _ _ _ _ _ => 10
  | .conditionChange _ => 11 | .modeChange _ _ _ _ _ => 12

/-- The fields of a notice, in the order in which its rule names them (R206). -/
def Notice.fields : Notice → List Field
  | .retractOrder items cause => listFields orderFields items ++ optU8 (cause.map (·.val))
  | .extendOrder items cause => listFields orderFields items ++ optU8 (cause.map (·.val))
  | .advancePermit p => p.fields
  | .cutterPermit p => p.fields
  | .segmentGranted position cover depth => [.u8 position.val] ++ groupList cover ++ [.u8 depth]
  | .buildPermit p => p.fields
  | .ringState number state cause queue setList =>
    [.u16 number, .u8 state.code, .u8 cause.code] ++ positionList queue ++ positionList setList
  | .dosePosted increment required items carries pool debt =>
    [.u32 increment, .u64 required]
      ++ listFields (fun i => [.u8 i.line.val, .u8 i.sector, .u8 i.sequence, .u16 i.target, .u16 i.limit]) items
      ++ carries.toList.map .i64 ++ [.i64 pool, .i64 debt]
  | .groutPermit p => p.fields
  | .screwSetpoint setpoint gateAllowed estimate status target =>
    [.u16 setpoint, yesNo gateAllowed, .i16 estimate, .u8 status.code, .u16 target]
  | .conditionChange entries => listFields condFields entries
  | .modeChange mode before advance build cause =>
    [.u8 mode.code, .u8 before.code, .u8 advance.code, .u8 build.code, .u8 cause.code]

/-! ## Bytes -/

/-- The `n` bytes of `v`, most significant first (R206). -/
def bigEndian : Nat → Nat → List Byte
  | 0, _ => []
  | n + 1, v => BitVec.ofNat 8 (v / 256 ^ n) :: bigEndian n v

/-- The two's complement of `v` in `n` bytes (R206). -/
def twosComplement (n : Nat) (v : Int) : Nat := (v % (256 ^ n : Nat)).toNat

/-- The bytes of a field (R206). -/
def Field.bytes : Field → List Byte
  | .u8 v => bigEndian 1 v
  | .u16 v => bigEndian 2 v
  | .u32 v => bigEndian 4 v
  | .u64 v => bigEndian 8 v
  | .i16 v => bigEndian 2 (twosComplement 2 v)
  | .i64 v => bigEndian 8 (twosComplement 8 v)

/-- The start marker (R206). -/
def startMarker : Byte := 0xC3

/-- One bit of the CRC-16's register: polynomial x¹⁶ + x¹² + x⁵ + 1 (R206). -/
def crcBit (r : BitVec 16) : BitVec 16 :=
  if r.getLsbD 15 then (r <<< 1) ^^^ 0x1021 else r <<< 1

/-- One byte into the CRC-16's register, most significant bit first (R206). -/
def crcByte (r : BitVec 16) (b : Byte) : BitVec 16 :=
  (List.range 8).foldl (fun q _ => crcBit q) (r ^^^ (b.setWidth 16 <<< 8))

/-- The CRC-16 of a run of bytes; the register starts at all ones (R206). -/
def crc16 (bytes : List Byte) : BitVec 16 := bytes.foldl crcByte 0xFFFF

/-- The kinds of frame (R206). -/
def kindRequest : Byte := 1

def kindResponse : Byte := 2

def kindNotice : Byte := 3

/-- A frame's bytes on the line (R206). -/
def Frame.bytes (f : Frame) : List Byte :=
  let covered := bigEndian 2 f.body.length ++ [f.kind, f.tag] ++ f.body
  startMarker :: (covered ++ bigEndian 2 (crc16 covered).toNat)

/-- The frame a message goes out in: a response echoes the identifier and carries the result code
(R199, R206); a notice has tag 0 and begins with its identifier (R200). -/
def Message.frame : Message → Frame
  | .response tag request code fields =>
    { kind := kindResponse, tag, body := request :: BitVec.ofNat 8 code.code :: fields.flatMap Field.bytes }
  | .notice n =>
    { kind := kindNotice, tag := 0, body := BitVec.ofNat 8 n.identifier :: n.fields.flatMap Field.bytes }

/-! ## The receiver (R197) -/

/-- A byte with the timebase count at which it arrived. -/
abbrev TimedByte := Byte × Nat

/-- What the bytes after a start marker are so far (R197). -/
inductive Found where
  /-- not all of the frame's bytes are there and its 20 ms run on -/
  | wait
  /-- the frame is discarded: its length, its time or its CRC-16 is wrong -/
  | discard
  /-- a valid frame, the time its last byte arrived, and the bytes after it -/
  | valid (f : Frame) (time : Nat) (after : List TimedByte)

/-- The frame whose kind, tag, body and CRC-16 are `bytes`, its two length bytes being `high` and `low`;
`none` when the CRC-16 differs (R197, R206). -/
def checkedFrame (high low : Byte) (length : Nat) (bytes : List Byte) : Option Frame :=
  match bytes with
  | kind :: tag :: rest =>
    let body := rest.take length
    if (rest.drop length) = bigEndian 2 (crc16 (high :: low :: kind :: tag :: body)).toNat then
      some { kind, tag, body }
    else none
  | _ => none

/-- What stands after a start marker that arrived at `start`, at timebase count `now` (R197). -/
def frameAt (now start : Nat) (rest : List TimedByte) : Found :=
  match rest with
  | (high, _) :: (low, _) :: tail =>
    let length := high.toNat * 256 + low.toNat
    if length = 0 ∨ 1024 < length then .discard
    else
      let bytes := tail.take (length + 4)
      let arrived := (bytes.getLast?.map (·.2)).getD start
      if bytes.length < length + 4 then
        if start + Config.frameTimeout < now then .discard else .wait
      else if start + Config.frameTimeout < arrived then .discard
      else
        match checkedFrame high low length (bytes.map (·.1)) with
        | some f => .valid f arrived (tail.drop (length + 4))
        | none => .discard
  | _ => if start + Config.frameTimeout < now then .discard else .wait

/-- The receiver's search (R197): bytes outside a frame are dropped, valid frames are handed on in the
order of their arrival, and after a discarded frame the search resumes at the byte after its start
marker. The bytes left are those of a frame still arriving. `fuel` bounds the bytes passed. -/
def scanBytes : Nat → Nat → List TimedByte → List (Frame × Nat) × List TimedByte
  | 0, _, rx => ([], rx)
  | _, _, [] => ([], [])
  | fuel + 1, now, (b, t) :: rest =>
    if b = startMarker then
      match frameAt now t rest with
      | .wait => ([], (b, t) :: rest)
      | .discard => scanBytes fuel now rest
      | .valid f time after =>
        let (frames, left) := scanBytes fuel now after
        ((f, time) :: frames, left)
    else scanBytes fuel now rest

end Sys2Proof.Machine
end

