-- ==== Sys2Proof/Machine/Derived.lean ====
section
/-! DEFINITION. What the rules read off the state without changing it: the record in force, counts,
limits, the debt, the rows of the plan, the tests that several rules share. -/

namespace Sys2Proof.Machine

/-- The active profile, "the profile" of every rule (chapter 1, section 1.3). -/
def activeProfile (s : State) : Profile := s.store.profiles[s.store.active]

/-- The machine constants in force (R2; assumption 29 while none are stored). -/
def constantsOf (s : State) : Constants := s.store.constants.getD Constants.none

/-- The link record of a port (R196). -/
def linkOf (s : State) (p : Port) : LinkRec := s.links[portIndex p]

/-- The part is commissioned: its mode is not UNCOMMISSIONED (R5). -/
def commissioned (s : State) : Bool := s.modes.mode ≠ .uncommissioned

/-! ## Groups and the release stack -/

/-- The number of held groups: those with a hold count above 0, whatever their state (R9, R44). -/
def heldGroups (s : State) : Nat := countWhere s.groups fun g => 0 < g.holdCount

/-- The number of THRUST groups (R62). -/
def thrustGroups (s : State) : Nat := countWhere s.groups fun g => g.state = .thrust

/-- Some group is in the state `x`. -/
def someGroupIs (s : State) (x : GroupState) : Bool := s.groups.toList.any fun g => g.state = x

/-- The release limit a profile gives in a mode (R9, R48). -/
def releaseLimitIn (p : Profile) (m : Mode) : Nat :=
  if m = .continuous then p.releaseContinuous else p.releaseBuild

/-- The release limit in force (R48). -/
def releaseLimit (s : State) : Nat := releaseLimitIn (activeProfile s) s.modes.mode

/-- The thrust ceiling: the profile's, times the THRUST groups, divided by 16, rounded down (R62). -/
def thrustCeiling (s : State) : Nat := (activeProfile s).thrustCeiling * thrustGroups s / 16

/-- The groups the open of a position with cover `c` would have counted: those held after the open and
the LOCKED_OUT groups that are not held (R48). -/
def countAfterOpen (s : State) (c : List (Fin 16)) : Nat :=
  (List.finRange 16).countP fun g =>
    0 < s.groups[g].holdCount || c.contains g || s.groups[g].state = .lockedOut

/-- RELEASE_OVERTIME's level: some entry is overtime (R61). -/
def someOvertime (s : State) : Bool := s.stack.entries.any (·.overtime)

/-- The mean of the last strokes of the THRUST groups whose stroke is valid or suspect, rounded down;
absent without such a group (R36). -/
def meanOfThrust (groups : Vector GroupRec 16) : Option Nat :=
  let l := groups.toList.filter fun g => g.state = .thrust && g.validity ≠ .invalid
  if l.isEmpty then none else some ((l.map (·.lastStroke)).sum / l.length)

/-- Two claims may stand together (R167). -/
def mayStandTogether (s : State) : Bool :=
  (activeProfile s).continuousAllowed && heldGroups s ≤ (activeProfile s).releaseContinuous

/-! ## The ring and its plan -/

/-- The last ring of the span (R184). -/
def spanLast (p : PlanStore) : Nat := min (p.base + (Config.planRows - 1)) Config.lastRing

/-- A ring lies in the span (R184). -/
def inSpan (p : PlanStore) (ring : Nat) : Bool := p.base ≤ ring && ring ≤ spanLast p

/-- The row stored under a number, absent when the row is BLANK (R184). -/
def lookupRow (rows : List (Nat × PlanRow)) (i : Nat) : Option PlanRow :=
  (rows.find? fun r => r.1 = i).map (·.2)

/-- The WRITTEN row of a ring, absent outside the span and for a BLANK row (R184). -/
def rowOfRing (p : PlanStore) (ring : Nat) : Option PlanRow :=
  if inSpan p ring then lookupRow p.rows (ring - p.base) else none

/-- A ring type is defined when its counts are not all 0 (R1). -/
def typeDefined (c : Constants) (t : Nat) : Bool :=
  match c.ringTypes[t]? with
  | some entries => entries.toList.any fun e => 0 < e.count
  | none => false

/-- The cover of a position: the groups (k + offset + j) mod 16, in that order (R1). -/
def coverOf (entries : Vector TypeEntry 7) (key : Nat) (p : Fin 7) : List (Fin 16) :=
  (List.range entries[p].count).map fun j => Fin.ofNat 16 (key + entries[p].offset + j)

/-- The seven covers of a ring of type `t` with its key at sector `key` (R1). -/
def coversOf (c : Constants) (t key : Nat) : Vector (List (Fin 16)) 7 :=
  Vector.ofFn (coverOf (c.ringTypes.getD t (Vector.replicate 7 { offset := 0, count := 0 })) key)

/-- The numbers s, s + 1, s − 1, s + 2, s − 2, … of R73 that lie in 0–5. -/
def aroundStart (start : Nat) : List (Fin 7) :=
  ((start : Int) :: (List.range 6).flatMap fun k => [(start : Int) + ((k : Int) + 1), (start : Int) - ((k : Int) + 1)]).filterMap
    fun v => if 0 ≤ v ∧ v ≤ 5 then some (Fin.ofNat 7 v.toNat) else none

/-- The placement order of a start position: the six ordinary positions, then the key (R73). -/
def placementOrder (start : Nat) : List (Fin 7) := aroundStart start ++ [6]

/-- The placement order of the ring record's row copy (R73). -/
def ringOrder (r : RingRec) : List (Fin 7) := placementOrder ((r.row.map (·.start)).getD 0)

/-- The cover the ring record holds for a position (R68). -/
def ringCover (r : RingRec) (p : Fin 7) : List (Fin 16) := (r.covers.map (·[p])).getD []

/-- The ring record's ring has no armable row (R193). -/
def noArmableRow (s : State) : Bool :=
  s.ring.number = Config.lastRing ||
    match rowOfRing s.plan s.ring.number, s.store.constants with
    | some row, some c => !typeDefined c row.ringType
    | _, _ => true

/-- The fill factor of a closure: the override of the ring record's row copy while the record is not
IDLE and the copy carries one, else the active profile's (R28). -/
def fillFactor (s : State) : Nat :=
  if s.ring.state = .idle then (activeProfile s).fillFactor
  else (s.ring.row.bind (·.fill)).getD (activeProfile s).fillFactor

/-! ## Grout -/

/-- The amount a descriptor keeps in the debt: its target while POSTED or TAKEN (R111). -/
def Descriptor.owed (d : Descriptor) : Nat :=
  match d.state with
  | .closed _ _ _ => 0
  | _ => d.dose.target

/-- The targets of a line's POSTED and TAKEN descriptors (R111). -/
def Line.owed (l : Line) : Nat := (l.descriptors.map Descriptor.owed).sum

/-- The debt (R111). -/
def debtOf (g : Grout) : Int := (g.lines.toList.map fun l => l.carry + (l.owed : Int)).sum + g.pool

/-- The cap of a line (R96). -/
def lineCap (p : Profile) (c : Capacity) : Nat :=
  match c with
  | .full => p.maxDose
  | .half => p.maxDose / 2
  | .quarter => p.maxDose / 4

/-- The shares of the recipients among the lines `among`: a line that is not IN_SERVICE has none (R97). -/
def recipientShares (p : Profile) (g : Grout) (among : Fin 6 → Bool) : Vector Nat 6 :=
  Vector.ofFn fun i => if g.lines[i].service = .inService ∧ among i then p.shares[i] else 0

/-- GROUT_BACKLOG's level: some carry is above the carry cap (R113). -/
def groutBacklog (s : State) : Bool :=
  let cap : Int := (activeProfile s).carryCap
  s.grout.lines.toList.any (fun l => cap < l.carry) || cap < s.grout.pool

/-! ## Cutterhead -/

/-- A motor is IN (R139). -/
def Motor.isIn (m : Motor) : Bool := m.membership = .isIn

/-- The number of IN motors (R140). -/
def inMotors (c : Cutter) : Nat := countWhere c.motors Motor.isIn

/-- The summed torque of the IN motors (R153). -/
def inTorque (c : Cutter) : Nat := ((c.motors.toList.filter Motor.isIn).map (·.torque)).sum

/-- The torque ceiling as R140 computes it. -/
def torqueCeilingOf (s : State) : Nat :=
  (constantsOf s).ratedTorque * inMotors s.cutter * (activeProfile s).torqueFraction / 1000

/-- MOTORS_LOW's level (R140). -/
def motorsLow (s : State) : Bool := inMotors s.cutter < (activeProfile s).minMotors

/-- The cutterhead turns: STARTING or RUNNING (R146). -/
def turning (r : RunState) : Bool := r = .starting || r = .running

/-- The governed speed (R151). -/
def governedSpeed (s : State) : Nat := (activeProfile s).maxAdvance * s.cutter.governor / 1000

/-- The limit of the index watch at a reference (R152). -/
def watchLimit (reference : Nat) : Nat := 1200000 / reference

/-- The direction the motors are to turn: the run direction, reversed in the REVERSE phase (R158). -/
def turnDirection (c : Cutter) : Direction :=
  if c.phase = some .reverse then
    match c.direction with
    | .clockwise => .anticlockwise
    | .anticlockwise => .clockwise
  else c.direction

/-- Run allowed (R158). -/
def runAllowed (r : RunState) : Bool :=
  match r with
  | .starting | .running | .stopping | .rocking => true
  | .stopped | .jammed | .tripped => false

/-- The mode lets the machine advance: ADVANCE or CONTINUOUS (R141, R146, R171). -/
def advancing (m : Mode) : Bool := m = .advance || m = .continuous

end Sys2Proof.Machine
end

