-- ==== Sys2Proof/Machine/Flags.lean ====
section
/-! DEFINITION. Every computed flag of the part: the level and the class of each of the 98 condition
entries (R177), the fields of the permits (R171 to R175), and their evaluation together (R176, R178). -/

namespace Sys2Proof.Machine

/-- The subjects of a condition: how many there are, or none (R177). -/
def subjectCount : CondName → Option Nat
  | .strokeSuspect | .groupSlow | .groupFault | .groupUncertain => some 16
  | .motorShare => some 8
  | .linkSilent => some 5
  | _ => none

/-- The entries of one condition, subjects ascending (R177). -/
def condKeysOf (n : CondName) : List CondKey :=
  match subjectCount n with
  | some k => (List.range k).map fun i => (n, some i)
  | none => [(n, none)]

/-- The identities of the 98 entries in table order (R177). -/
def condKeys : List CondKey := allCondNames.flatMap condKeysOf

/-- A test of the group that is a condition's subject. -/
def subjectGroup (s : State) (subject : Option Nat) (p : GroupRec → Bool) : Bool :=
  match subject.bind (s.groups[·]?) with
  | some g => p g
  | none => false

/-- The active level of a condition entry: what its owning rule says it is active while (R177 and the
rules it gathers). -/
def level (s : State) (name : CondName) (subject : Option Nat) : Bool :=
  match name with
  | .powerOn => false
  | .overExcavation => s.account.cycle.verdict = some .over
  | .underExcavation => s.account.cycle.verdict = some .under
  | .pressureDegraded => s.chamber.status = .degraded
  | .pressureLost => s.chamber.status = .lost
  | .groutDeficit => s.grout.judged && (activeProfile s).debtWarn ≤ debtOf s.grout
  | .groutStop => s.grout.judged && (activeProfile s).debtStop ≤ debtOf s.grout
  | .groutBacklog => groutBacklog s
  | .releaseOvertime => someOvertime s
  | .stackFull => s.stack.full
  | .stackUnderflow => s.stack.underflow
  | .strokeEnd =>
    match s.account.thrustMean with
    | some m => (constantsOf s).strokeMax ≤ m + (activeProfile s).stopMargin
    | none => false
  | .cutterJam => s.cutter.run = .jammed || s.cutter.run = .rocking
  | .cutterTrip => s.cutter.run = .tripped
  | .motorsLow => motorsLow s
  | .indexLost => s.cutter.indexLost
  | .penetrationHigh => s.cutter.penetrationHigh
  | .spoilCounter => s.chamber.spoilCounter
  | .ringFailed => s.ring.failed
  | .planMissing => s.ring.state = .idle && noArmableRow s
  | .operatorHalt => s.modes.operatorHalt
  | .strokeSuspect => subjectGroup s subject fun g => g.validity = .suspect
  | .groupSlow => subjectGroup s subject (·.slow)
  | .groupFault => subjectGroup s subject fun g => g.state = .lockedOut
  | .groupUncertain => subjectGroup s subject fun g => g.state = .uncertain
  | .motorShare =>
    match subject.bind (s.cutter.motors[·]?) with
    | some m => m.membership = .out .share
    | none => false
  | .linkSilent =>
    match subject.bind (s.links[·]?) with
    | some l => l.ever && !l.active
    | none => false

/-- The class of a condition entry (R177); STACK_FULL's is the class its flag was set with (R58). -/
def classOf (s : State) (name : CondName) (subject : Option Nat) : Option CondClass :=
  match name with
  | .overExcavation | .underExcavation | .pressureLost | .groutDeficit | .groutStop
  | .releaseOvertime | .strokeEnd | .cutterJam | .cutterTrip | .motorsLow | .groupFault
  | .groupUncertain => some .limit
  | .powerOn | .pressureDegraded | .groutBacklog | .stackUnderflow | .indexLost | .penetrationHigh
  | .spoilCounter | .ringFailed | .planMissing | .strokeSuspect | .groupSlow | .motorShare => some .info
  | .operatorHalt => some .halt
  | .stackFull => s.stack.fullClass
  | .linkSilent => if subject = some 0 then some .halt else some .info

/-- The active entries of class HALT, in table order (R169, R170). -/
def activeHalts (s : State) : List CondKey :=
  condKeys.filter fun k => level s k.1 k.2 && classOf s k.1 k.2 = some .halt

/-- The limiting conditions of the advance permit: the active entries of class LIMIT or HALT, in table
order (R171). -/
def limitingConditions (s : State) : List CondKey :=
  condKeys.filter fun k =>
    level s k.1 k.2 && (classOf s k.1 k.2 = some .limit || classOf s k.1 k.2 = some .halt)

/-! ## Permits -/

/-- The speed ceiling is 0 (the first list of R171). -/
def advanceBlocked (s : State) : Bool :=
  !advancing s.modes.mode
    || (s.cutter.run = .jammed || s.cutter.run = .rocking || s.cutter.run = .tripped)
    || level s .groutStop none
    || level s .strokeEnd none
    || someGroupIs s .uncertain
    || (level s .releaseOvertime none && s.modes.mode = .continuous)

/-- The speed ceiling: the governed speed, lowered by GROUT_DEFICIT, halved by OVER_EXCAVATION (R171). -/
def speedCeiling (s : State) : Nat :=
  if advanceBlocked s then 0
  else
    let governed := governedSpeed s
    let grouted := if level s .groutDeficit none then min governed (activeProfile s).groutCeiling else governed
    if level s .overExcavation none then grouted / 2 else grouted

/-- The advance permit (R171). -/
def advancePermitOf (s : State) : AdvancePermit :=
  { allowed := 0 < speedCeiling s, ceiling := speedCeiling s, thrust := thrustCeiling s
    limiting := limitingConditions s, speed := s.account.speed }

/-- The cutter permit (R158, R172). -/
def cutterPermitOf (s : State) : CutterPermit :=
  { runAllowed := runAllowed s.cutter.run, reference := s.cutter.reference
    direction := turnDirection s.cutter, torqueCeiling := s.cutter.torqueCeiling }

/-- The build permit (R174). -/
def buildPermitOf (s : State) : BuildPermit :=
  { allowed := commissioned s && s.modes.build = .held && (s.modes.mode = .build || s.modes.mode = .continuous)
    entries := s.stack.entries.reverse.map fun e => (e.position, e.state) }

/-- The grout permit (R175). -/
def groutPermitOf (s : State) : GroutPermit :=
  { allowed := commissioned s && s.modes.mode ≠ .halted, limits := (activeProfile s).pressureLimits }

/-- The four permit records computed from the state of the blocks (R176). -/
def permitsOf (s : State) : Permits :=
  { advance := advancePermitOf s, cutter := cutterPermitOf s, build := buildPermitOf s
    grout := groutPermitOf s }

/-! ## Evaluation -/

/-- A condition entry brought up to date: the latched flag becomes yes when the active level becomes
yes, and the changed-at time follows every change of level, latch or class (R177). -/
def evalEntry (s : State) (e : CondEntry) : CondEntry :=
  let active := level s e.name e.subject
  let cls := classOf s e.name e.subject
  let latched := e.latched || (active && !e.active)
  { e with
    active, cls, latched
    changedAt := if active = e.active ∧ latched = e.latched ∧ cls = e.cls then e.changedAt else s.now }

/-- The condition table brought up to date (R177, R178). -/
def evalConditions (s : State) : State := { s with conds := s.conds.map (evalEntry s) }

/-- The standstill limit: the cutterhead is STOPPED and the advance permit does not allow (R126). -/
def standstillLimit (s : State) : Bool := s.cutter.run = .stopped && !s.permits.advance.allowed

/-- While the standstill limit applies the setpoint is no higher than the standstill ceiling (R126). -/
def applyStandstill (s : State) : State :=
  if standstillLimit s then
    { s with chamber := { s.chamber with setpoint := min s.chamber.setpoint (activeProfile s).standstillCeiling } }
  else s

/-- The notices of a recomputation: one for each permit a field of which it changed; on the Drive link the
advance permit before the cutter permit (R176). -/
def permitNotices (before after : Permits) : List Sent :=
  (if before.advance = after.advance then []
    else [{ port := .drive, message := .notice (.advancePermit after.advance) }])
  ++ (if before.cutter = after.cutter then []
    else [{ port := .drive, message := .notice (.cutterPermit after.cutter) }])
  ++ (if before.build = after.build then []
    else [{ port := .erector, message := .notice (.buildPermit after.build) }])
  ++ (if before.grout = after.grout then []
    else [{ port := .grout, message := .notice (.groutPermit after.grout) }])

/-- The permits computed again from the state, with the notices of those that changed (R176). -/
def computePermits (s : State) : State :=
  { s with permits := permitsOf s, sent := s.sent ++ permitNotices s.permits (permitsOf s) }

/-- The hand-off to the mode and permit unit: conditions, permits, and the standstill limit that follows
the advance permit (R126, R176, R178). The moments at which it is made within an event: assumption 10. -/
def refresh (s : State) : State := applyStandstill (computePermits (evalConditions s))

end Sys2Proof.Machine
end

