-- ==== Sys2Proof/Machine/Operands.lean ====
section
/-! DEFINITION. The operands of every request: the fields of its body after the identifier, read in the
order in which its rule names them (R206). A body of another length, or a code a request does not
define, reads as nothing and is answered FORMAT (R199, step 3). -/

namespace Sys2Proof.Machine

/-- A reader of the bytes of a body. -/
abbrev Reader := StateT (List Byte) Option

/-- One byte (R206). -/
def readByte : Reader Nat := fun
  | b :: rest => some (b.toNat, rest)
  | [] => none

/-- Two bytes, most significant first (R206). -/
def readWord : Reader Nat := do
  let h ← readByte
  let l ← readByte
  return h * 256 + l

/-- Two bytes in two's complement (R206). -/
def readSigned : Reader Int := do
  let v ← readWord
  return if v < 32768 then (v : Int) else (v : Int) - 65536

/-- Four bytes (R206). -/
def readLong : Reader Nat := do
  let h ← readWord
  let l ← readWord
  return h * 65536 + l

/-- Eight bytes (R206). -/
def readWide : Reader Nat := do
  let h ← readLong
  let l ← readLong
  return h * 4294967296 + l

/-- A yes/no or true/false byte; any other code is not understood (R206, assumption 16). -/
def readYesNo : Reader Bool := do
  match ← readByte with
  | 0 => return false
  | 1 => return true
  | _ => failure

/-- An enumerated byte, its values numbered from 0 in the order given (R206). -/
def readEnum {α : Type} (values : List α) : Reader α := do
  match values[← readByte]? with
  | some v => return v
  | none => failure

/-- `n` fields of one kind, in ascending number (R206). -/
def readMany {α : Type} (r : Reader α) : Nat → Reader (List α)
  | 0 => return []
  | n + 1 => do
    let x ← r
    let l ← readMany r n
    return x :: l

/-- An optional field: its presence byte, then the field's bytes, which are there either way (R206). -/
def readOptional (r : Reader Nat) : Reader (Option Nat) := do
  let present ← readYesNo
  let v ← r
  return if present then some v else none

/-- The whole of a body read by `r`; a body of another length is not (R199, step 3). -/
def readWhole {α : Type} (r : Reader α) (bytes : List Byte) : Option α :=
  match r bytes with
  | some (a, []) => some a
  | _ => none

/-- A request without arguments. -/
def readNothing : Reader Unit := return ()

/-- STROKE REPORT: sixteen strokes, then sixteen validity flags in one word, flag n in bit n counted
from the least significant (R17, R206). -/
structure StrokeArgs where
  strokes : Vector Nat 16
  flags   : Vector Bool 16
  deriving DecidableEq, Repr

def readStrokes : Reader StrokeArgs := do
  let strokes ← readMany readWord 16
  let word ← readWord
  return { strokes := vectorOf 16 strokes 0, flags := Vector.ofFn fun i => word.testBit i.val }

/-- DRIVE REPORT: the measured speed, then for each motor its ready flag and torque (R139,
assumption 15). -/
structure DriveArgs where
  speed  : Nat
  motors : Vector (Bool × Nat) 8
  deriving DecidableEq, Repr

def readDrive : Reader DriveArgs := do
  let speed ← readWord
  let motors ← readMany (do
    let ready ← readYesNo
    let torque ← readWord
    return (ready, torque)) 8
  return { speed, motors := vectorOf 8 motors (false, 0) }

/-- A group and a transition number: RETRACT DONE, EXTEND DONE (R51, R52). -/
def readConfirmation : Reader (Nat × Nat) := do
  let g ← readByte
  let n ← readByte
  return (g, n)

/-- Where a group physically stands (R56). -/
inductive GroupPosition where
  | extended
  | retracted
  deriving DecidableEq, Repr

/-- GROUP STATE(g, position) (R56). -/
def readGroupState : Reader (Nat × GroupPosition) := do
  let g ← readByte
  let p ← readEnum [GroupPosition.extended, .retracted]
  return (g, p)

/-- CUTTER START(direction, speed) (R141). -/
def readCutterStart : Reader (Direction × Nat) := do
  let d ← readEnum [Direction.clockwise, .anticlockwise]
  let v ← readWord
  return (d, v)

/-- How a position closes (R80). -/
inductive CloseOutcome where
  | set
  | notSet
  deriving DecidableEq, Repr

/-- SEGMENT CLOSE(p, outcome) (R80). -/
def readSegmentClose : Reader (Nat × CloseOutcome) := do
  let p ← readByte
  let o ← readEnum [CloseOutcome.set, .notSet]
  return (p, o)

/-- DOSE CLOSE(line, sequence, actual, peak, outcome) (R102, R206). -/
structure DoseCloseArgs where
  line     : Nat
  sequence : Nat
  actual   : Nat
  peak     : Nat
  outcome  : DoseOutcome
  deriving DecidableEq, Repr

def readDoseClose : Reader DoseCloseArgs := do
  let line ← readByte
  let sequence ← readByte
  let actual ← readLong
  let peak ← readWord
  let outcome ← readEnum [DoseOutcome.full, .pressureLimit, .fault]
  return { line, sequence, actual, peak, outcome }

/-- LINE STATE(line, service, capacity) (R106). -/
structure LineStateArgs where
  line     : Nat
  service  : Service
  capacity : Capacity
  deriving DecidableEq, Repr

def readLineState : Reader LineStateArgs := do
  let line ← readByte
  let service ← readEnum [Service.inService, .blocked, .outOfService]
  let capacity ← readEnum [Capacity.full, .half, .quarter]
  return { line, service, capacity }

/-- SPOIL REPORT (R118). -/
structure SpoilArgs where
  pressures : Vector Nat 5
  flags     : Vector Bool 5
  screw     : Nat
  belt      : Nat
  gate      : Gate
  deriving DecidableEq, Repr

def readSpoil : Reader SpoilArgs := do
  let pressures ← readMany readWord 5
  let flags ← readMany readYesNo 5
  let screw ← readWord
  let belt ← readLong
  let gate ← readEnum [Gate.opened, .closed]
  return { pressures := vectorOf 5 pressures 0, flags := vectorOf 5 flags false, screw, belt, gate }

/-- An entry of the ring type table: an offset, then a count (R206). -/
def readTypeEntry : Reader TypeEntry := do
  let offset ← readByte
  let count ← readByte
  return { offset, count }

/-- CONSTANTS WRITE: the record in the order of R2 (R3, R206). -/
def readConstants : Reader Constants := do
  let excavationArea ← readLong
  let tailVoidArea ← readLong
  let ringWidth ← readWord
  let strokeMax ← readWord
  let heights ← readMany readSigned 5
  let lineSectors ← readMany readByte 6
  let ratedTorque ← readWord
  let types ← readMany (readMany readTypeEntry 7) 8
  let empty : TypeEntry := { offset := 0, count := 0 }
  return { excavationArea, tailVoidArea, ringWidth, strokeMax
           heights := vectorOf 5 heights 0, lineSectors := vectorOf 6 lineSectors 0, ratedTorque
           ringTypes := updateEach (vectorOf 8 types []) fun _ l => vectorOf 7 l empty }

/-- A profile in the order of R6 (R7, R206). -/
def readProfile : Reader Profile := do
  let density ← readWord
  let unitWeight ← readByte
  let faceTarget ← readWord
  let startBand ← readByte
  let kp ← readWord
  let ki ← readWord
  let kf ← readWord
  let screwMax ← readWord
  let standstillCeiling ← readWord
  let incrementLength ← readWord
  let fillFactor ← readWord
  let shares ← readMany readWord 6
  let limits ← readMany readWord 6
  let maxDose ← readWord
  let carryCap ← readLong
  let debtWarn ← readLong
  let debtStop ← readLong
  let groutCeiling ← readByte
  let maxAdvance ← readByte
  let thrustCeiling ← readWord
  let torqueFraction ← readWord
  let breakout ← readWord
  let jamTime ← readWord
  let rockSpeed ← readByte
  let rockTime ← readWord
  let rockAttempts ← readByte
  let penetrationLimit ← readWord
  let shareWindow ← readWord
  let shareTime ← readWord
  let minMotors ← readByte
  let releaseBuild ← readByte
  let releaseContinuous ← readByte
  let continuousAllowed ← readYesNo
  let stackPolicy ← readEnum [StackPolicy.refuse, .halt]
  let releaseTime ← readLong
  let retractTime ← readLong
  let buildClearance ← readWord
  let strokeReserve ← readWord
  let stopMargin ← readWord
  let spoilLag ← readByte
  let surplus ← readWord
  let deficit ← readWord
  let minExpected ← readLong
  return { density, unitWeight, faceTarget, startBand, kp, ki, kf, screwMax, standstillCeiling
           incrementLength, fillFactor, shares := vectorOf 6 shares 0
           pressureLimits := vectorOf 6 limits 0, maxDose, carryCap, debtWarn, debtStop
           groutCeiling, maxAdvance, thrustCeiling, torqueFraction, breakout, jamTime, rockSpeed
           rockTime, rockAttempts, penetrationLimit, shareWindow, shareTime, minMotors
           releaseBuild, releaseContinuous, continuousAllowed, stackPolicy, releaseTime, retractTime
           buildClearance, strokeReserve, stopMargin, spoilLag, surplus, deficit, minExpected }

/-- PROFILE WRITE: the index, then the profile (R7, R206). -/
def readProfileWrite : Reader (Nat × Profile) := do
  let index ← readByte
  let p ← readProfile
  return (index, p)

/-- A plan row in the order of R184: eight bytes (R206). -/
def readPlanRow : Reader PlanRow := do
  let ringType ← readByte
  let keySector ← readByte
  let start ← readByte
  let fill ← readOptional readWord
  let profile ← readOptional readByte
  return { ringType, keySector, start, fill, profile }

/-- A list of plan rows: the count byte, then that many rows (R206). -/
def readPlanRows : Reader (List PlanRow) := do
  let n ← readByte
  readMany readPlanRow n

/-- PLAN WRITE(first, rows) and PLAN VERIFY(first, rows) (R188, R191, R206). -/
def readFirstAndRows : Reader (Nat × List PlanRow) := do
  let first ← readWord
  let rows ← readPlanRows
  return (first, rows)

/-- CONDITION ACK(identity, subject): an unknown identity is answered FORMAT; a subject of 255 is absent
(R179, R206). -/
def readAck : Reader (CondName × Option Nat) := do
  let name ← readEnum allCondNames
  let subject ← readByte
  return (name, if subject = 255 then none else some subject)

/-- The records READ can name (R201). -/
inductive Selector where
  | links
  | constants
  | profileStore
  | profile (index : Nat)
  | account
  | increments
  | cycles
  | previous
  | groups
  | stack
  | ring
  | plan
  | planRow (ring : Nat)
  | grout
  | chamber
  | cutter
  | modes
  | conditions (name : Option CondName)
  deriving DecidableEq, Repr

/-- READ: a selector and, for three of them, an argument; an unknown selector or identity is answered
FORMAT (R201, R206). -/
def readSelector : Reader Selector := do
  match ← readByte with
  | 1 => return .links
  | 2 => return .constants
  | 3 => return .profileStore
  | 4 => return .profile (← readByte)
  | 5 => return .account
  | 6 => return .increments
  | 7 => return .cycles
  | 8 => return .previous
  | 9 => return .groups
  | 10 => return .stack
  | 11 => return .ring
  | 12 => return .plan
  | 13 => return .planRow (← readWord)
  | 14 => return .grout
  | 15 => return .chamber
  | 16 => return .cutter
  | 17 => return .modes
  | 18 =>
    let n ← readByte
    if n = 255 then return .conditions none
    else
      match allCondNames[n]? with
      | some name => return .conditions (some name)
      | none => failure
  | _ => failure

end Sys2Proof.Machine
end

