-- ==== Sys2Proof/Machine/Ops.lean ====
section
/-! DEFINITION. The operations that the rules of several chapters share: sending, the cutterhead's
changes of state, the machine mode and the claims, increment closure, the profile switch, the release
stack, the ring's tests, and the frame of every event (what is sent, and in which order). -/

namespace Sys2Proof.Machine

/-! ## Sending -/

/-- A notice is sent on a link (R200). -/
def tell (p : Port) (n : Notice) (s : State) : State :=
  { s with sent := s.sent ++ [{ port := p, message := .notice n }] }

/-- A new event begins: nothing has been sent in it yet (assumption 1). -/
def quiet (s : State) : State := { s with sent := [] }

/-! ## Cutterhead -/

/-- The torque ceiling computed again (R140). -/
def updateTorque (s : State) : State :=
  { s with cutter := { s.cutter with torqueCeiling := torqueCeilingOf s } }

/-- The ramp target has become `target`: the ramp timer becomes absent when the reference equals it,
starts when it is absent, and otherwise runs on (R142). -/
def retarget (target now : Nat) (c : Cutter) : Cutter :=
  if c.reference = target then { c with ramp := none, rampSteps := 0 }
  else if c.ramp.isSome then c
  else { c with ramp := some now, rampSteps := 0 }

/-- Every IN motor's in-share flag is yes (R143, R147). -/
def Motor.settled (m : Motor) : Motor := { m with inShare := m.inShare || m.isIn }

/-- A cutterhead leaves RUNNING: the standstill snapshot is taken (R127), the index reference, the index
watch and every deviation timer become absent, INDEX_LOST clears (R147, R152). -/
def leaveRunning (s : State) : State :=
  { s with
    chamber := { s.chamber with snapshot := some s.chamber.integrator }
    cutter :=
      { s.cutter with
        indexRef := none, watch := none, indexLost := false
        motors := updateEach s.cutter.motors fun _ m => { m.settled with deviation := none } } }

/-- A cutterhead enters RUNNING (R143); the snapshot goes back into the integrator (R127). -/
def enterRunning (s : State) : State :=
  { s with
    chamber :=
      { s.chamber with
        integrator := s.chamber.snapshot.getD s.chamber.integrator, snapshot := none }
    cutter :=
      { s.cutter with
        run := .running, indexRef := none
        watch := if 0 < s.cutter.reference then some s.now else none
        motors := updateEach s.cutter.motors fun _ m =>
          if m.isIn then { m with inShare := true, deviation := none } else m } }

/-- A cutterhead brought to rest in one of STOPPED, JAMMED and TRIPPED: reference 0, no ramp, no jam or
rock timer, no rocking phase (R142, R146, R147, R154, R156, R157). -/
def restCutter (r : RunState) (c : Cutter) : Cutter :=
  { c with run := r, phase := none, reference := 0, ramp := none, rampSteps := 0, jam := none, rock := none }

/-- What leaving the present run state hands on when that state is RUNNING (R147). -/
def leaveIfRunning (s : State) : State := if s.cutter.run = .running then leaveRunning s else s

/-- A STARTING or RUNNING cutterhead goes to STOPPING with a ramp target of 0 (R145, R146, R153). -/
def enterStopping (s : State) : State :=
  let s := leaveIfRunning s
  { s with cutter := retarget 0 s.now { s.cutter with run := .stopping, jam := none } }

/-- The cutterhead enters JAMMED, STOPPED or TRIPPED (R147, R154, R156, R157). -/
def enterRest (r : RunState) (s : State) : State :=
  let s := leaveIfRunning s
  { s with cutter := restCutter r s.cutter }

/-- The three events of R146 stop a turning cutterhead and interrupt a rocking attempt. -/
def forcedStop (s : State) : State :=
  match s.cutter.run with
  | .starting | .running => enterStopping s
  | .rocking => enterRest .jammed s
  | .stopped | .stopping | .jammed | .tripped => s

/-- MOTORS_LOW stops the cutterhead (R140, R146). -/
def stopIfMotorsLow (s : State) : State := if motorsLow s then forcedStop s else s

/-! ## Chamber -/

/-- Gate allowed evaluated (R128). -/
def updateGate (s : State) : State :=
  { s with chamber := { s.chamber with gateAllowed := commissioned s && s.chamber.status ≠ .lost } }

/-- The setpoint is limited to the standstill ceiling while the estimate is LOST (R125). -/
def limitSetpoint (s : State) : State :=
  { s with chamber := { s.chamber with setpoint := min s.chamber.setpoint (activeProfile s).standstillCeiling } }

/-- The estimate becomes LOST, its value kept: the setpoint is limited (R125), the gate closed (R128),
the cutterhead stopped (R122, R146). -/
def loseEstimate (s : State) : State :=
  forcedStop (updateGate (limitSetpoint { s with chamber := { s.chamber with status := .lost } }))

/-- The error: the estimate less the face pressure target (R123). -/
def pressureError (s : State) : Int := s.chamber.estimate - (activeProfile s).faceTarget

/-- The setpoint of the control sum Kp × e + integrator + Kf × advance speed, rounded half up and
clamped to 0 … screw max (R124). -/
def controlSetpoint (s : State) : Nat :=
  let p := activeProfile s
  clampNat (roundHalfUp ((p.kp : Int) * pressureError s + s.chamber.integrator + (p.kf : Int) * s.account.speed) 1000)
    p.screwMax

/-- The setpoint computed, limited to the standstill ceiling as its last step while the standstill limit
applies (R124, R126). -/
def computeSetpoint (s : State) : State :=
  let v := controlSetpoint s
  { s with chamber :=
      { s.chamber with
        setpoint := if standstillLimit s then min v (activeProfile s).standstillCeiling else v } }

/-! ## The machine mode -/

/-- The mode changes: the halt output follows it (R169), a cutterhead that may no longer turn is stopped
(R146), conditions are evaluated. The permits are computed again once every hand-off of the change is made
(R168, assumption 10). -/
def changeMode (m : Mode) (cause : ModeCause) (s : State) : State :=
  if s.modes.mode = m then s
  else
    let stops := advancing s.modes.mode && !advancing m
    let s := { s with modes := { s.modes with mode := m, haltOutput := m = .halted, cause } }
    evalConditions (if stops then forcedStop s else s)

/-- The mode the claims give (R167). -/
def derivedMode (advance build : Claim) : Mode :=
  match advance, build with
  | .held, .held => .continuous
  | .held, _ => .advance
  | _, .held => .build
  | _, _ => .standstill

/-- The modes in which the machine stands and the switch test is made at once (R8, R10). -/
def stands (m : Mode) : Bool := m = .uncommissioned || m = .standstill || m = .halted

/-! ## Increment closure (R25 to R32) -/

/-- What one increment computes (R26 to R29). -/
structure IncrementSums where
  volume    : Nat
  remVolume : Nat
  tailVoid  : Nat
  remTail   : Nat
  grout     : Nat
  remGrout  : Nat
  mass      : Nat
  remMass   : Nat
  deriving DecidableEq, Repr

/-- The volumes, the grout required and the expected mass of an increment of `length` units, with the
remainders kept (R26, R27, R28, R29). -/
def incrementSums (s : State) (length : Nat) : IncrementSums :=
  let a := s.account
  let volumeNum := (constantsOf s).excavationArea * length + a.remVolume
  let tailNum := (constantsOf s).tailVoidArea * length + a.remTail
  let volume := volumeNum / 100
  let tailVoid := tailNum / 100
  let groutNum := tailVoid * fillFactor s + a.remGrout
  let massNum := volume * (activeProfile s).density + a.remMass
  { volume, remVolume := volumeNum % 100, tailVoid, remTail := tailNum % 100
    grout := groutNum / 1000, remGrout := groutNum % 1000
    mass := massNum / 1000000, remMass := massNum % 1000000 }

/-- The number of the increment after `n` (R25). -/
def nextIncrement (n : Nat) : Nat := if Config.lastIncrement ≤ n then 1 else n + 1

/-- The time of the newest closure since power-on (R30, R31). -/
def newestClosure (a : Account) : Option Nat := a.increments.getLast?.map (·.time)

/-- The speed base time and the instant length after a closure of `length` units (R30). -/
def speedBasis (a : Account) (now length : Nat) : Option Nat × Nat :=
  match newestClosure a with
  | none => (none, length)
  | some t => if t < now then (some t, length) else (a.speedBase, a.instantLength + length)

/-- The advance speed that a base time and an instant length give at a closure (R30). -/
def closureSpeed (a : Account) (now : Nat) (basis : Option Nat × Nat) : Nat :=
  match basis.1 with
  | some base => min (basis.2 * 6000 / (now - base)) 999
  | none => a.speed

/-- The closure in the advance account: the increment record, the histories, the cycle, the totals, the
remainders and the speed; the length is taken from the accumulator (R24, R25, R30). -/
def accountClosure (s : State) : State :=
  let a := s.account
  let length := (activeProfile s).incrementLength
  let x := incrementSums s length
  let number := nextIncrement a.counter
  let basis := speedBasis a s.now length
  { s with account :=
      { a with
        accumulator := a.accumulator - length
        remVolume := x.remVolume, remTail := x.remTail, remGrout := x.remGrout, remMass := x.remMass
        counter := number
        increments := pushCapped 16 a.increments
          { number, time := s.now, length, volume := x.volume, tailVoid := x.tailVoid
            grout := x.grout, mass := x.mass, mode := s.modes.mode }
        cycle :=
          { a.cycle with
            increments := satAdd a.cycle.increments 1, volume := satAdd a.cycle.volume x.volume
            tailVoid := satAdd a.cycle.tailVoid x.tailVoid, required := satAdd a.cycle.required x.grout
            expected := satAdd a.cycle.expected x.mass }
        totals :=
          { a.totals with
            volume := a.totals.volume.add x.volume, tailVoid := a.totals.tailVoid.add x.tailVoid
            required := a.totals.required.add x.grout }
        speedBase := basis.1, instantLength := basis.2, speed := closureSpeed a s.now basis } }

/-- The pieces of an order for `free` descriptors, and what is left of it (R98, R99). -/
def cutPieces (cap : Nat) : Nat → Nat → List Nat × Nat
  | 0, m => ([], m)
  | free + 1, m =>
    if m = 0 then ([], 0)
    else
      let piece := min cap m
      let (pieces, left) := cutPieces cap free (m - piece)
      (piece :: pieces, left)

/-- The descriptors of a line once every CLOSED one has become FREE (R99). -/
def openDescriptors (l : Line) : List Descriptor :=
  l.descriptors.filter fun d =>
    match d.state with
    | .closed _ _ _ => false
    | _ => true

/-- The doses posted for pieces, numbered from the line's next sequence number (R99). -/
def dosesOf (l : Line) (increment limit : Nat) (pieces : List Nat) : List Dose :=
  pieces.mapIdx fun i piece =>
    { sequence := (l.nextSequence + i) % 256, increment, target := piece, limit }

/-- A line's order at a closure: one of 0 or less returns to the carry; a positive one is cut and posted
to the FREE descriptors, and what finds none becomes the carry (R98, R99). The doses posted come with
the line. -/
def orderLine (cap increment limit : Nat) (order : Int) (l : Line) : Line × List Dose :=
  if order ≤ 0 then ({ l with carry := order }, [])
  else
    let kept := openDescriptors l
    let (pieces, left) := cutPieces cap (4 - kept.length) order.toNat
    let doses := dosesOf l increment limit pieces
    ({ l with
        carry := left
        nextSequence := (l.nextSequence + doses.length) % 256
        descriptors := kept ++ doses.map fun dose => { dose, state := .posted } }, doses)

/-- The carries of the six lines. -/
def carriesOf (g : Grout) : Vector Int 6 := updateEach g.lines fun _ l => l.carry

/-- The orders of a closure: the grout required with the pool carry, spread over the recipients, each
IN_SERVICE line's order cut and posted; without a recipient all goes to the pool (R98, R99, R100). -/
def groutClosure (number required : Nat) (s : State) : State :=
  let p := activeProfile s
  let g := s.grout
  let shares := recipientShares p g fun _ => true
  if sumNat shares = 0 then { s with grout := { g with pool := g.pool + required, judged := true } }
  else
    let targets := signedPortions shares (required + g.pool)
    let ordered := updateEach g.lines fun i l =>
      if l.service = .inService then
        orderLine (lineCap p l.capacity) number p.pressureLimits[i] (targets[i] + l.carry) l
      else (l, [])
    let grout : Grout := { lines := updateEach ordered fun _ o => o.1, pool := 0, judged := true }
    let items := (List.finRange 6).flatMap fun i => ordered[i].2.map fun d : Dose =>
      { line := i, sector := (constantsOf s).lineSectors[i], sequence := d.sequence
        target := d.target, limit := d.limit : PostedItem }
    let s := { s with grout }
    if items.isEmpty then s
    else tell .grout (.dosePosted number required items (carriesOf grout) grout.pool (debtOf grout)) s

/-- The lagged expected mass of the current cycle (R131). -/
def laggedMass (p : Profile) (a : Account) : Nat :=
  let n := min p.spoilLag a.cycle.increments
  a.cycle.expected - ((a.increments.reverse.take n).map (·.mass)).sum

/-- The balance verdict of a measured mass against a lagged expected mass (R131). -/
def verdictOf (p : Profile) (measured lagged : Nat) : Verdict :=
  if lagged = 0 ∨ lagged < p.minExpected then .undetermined
  else
    let ratio := measured * 1000 / lagged
    if 1000 + p.surplus < ratio then .over
    else if ratio < 1000 - p.deficit then .under
    else .balanced

/-- The spoil balance at a closure (R131). -/
def spoilBalance (s : State) : State :=
  let lagged := laggedMass (activeProfile s) s.account
  { s with account :=
      { s.account with
        cycle :=
          { s.account.cycle with
            lagged := some lagged
            verdict := some (verdictOf (activeProfile s) s.account.cycle.measured lagged) } } }

/-- One increment closes: the account, the grout orders, the spoil balance (R25, R32). -/
def closureEffects (s : State) : State :=
  let required := (incrementSums s (activeProfile s).incrementLength).grout
  let s := accountClosure s
  spoilBalance (groutClosure s.account.counter required s)

/-- A closure with its hand-off to the permit unit (R24, R32). -/
def closeIncrement (s : State) : State := refresh (closureEffects s)

/-- An increment is due: the accumulator has reached the increment length (R24). -/
def closureDue (s : State) : Bool :=
  0 < (activeProfile s).incrementLength && (activeProfile s).incrementLength ≤ s.account.accumulator

/-- Closures of a switch, one after another until the accumulator is below the length, without a switch test
(R11, R24), each with its hand-offs (R32). `fuel` bounds their number. -/
def closeWhile : Nat → State → State
  | 0, s => s
  | fuel + 1, s => if closureDue s then closeWhile fuel (closeIncrement s) else s

/-! ## The profile switch -/

/-- The screw controller at a switch: integrator and snapshot clamped, the setpoint computed again, or
limited to the new ceiling while the estimate is LOST (R11). -/
def screwAtSwitch (s : State) : State :=
  let top := 1000 * (activeProfile s).screwMax
  let s := { s with chamber :=
      { s.chamber with
        integrator := min s.chamber.integrator top
        snapshot := s.chamber.snapshot.map fun v => min v top } }
  if s.chamber.status = .lost then limitSetpoint s else computeSetpoint s

/-- An entry open longer than a release time limit is overtime (R11, R61). -/
def markOvertime (limit now : Nat) (e : StackEntry) : StackEntry :=
  { e with overtime := e.overtime || decide (e.openedAt + limit < now) }

/-- The debt evaluated, and the conditions with it (R11, R111). -/
def judgeDebt (s : State) : State := evalConditions { s with grout := { s.grout with judged := true } }

/-- The overtime flags compared with the active profile's release time limit (R11). -/
def overtimeAtSwitch (s : State) : State :=
  { s with stack :=
      { s.stack with entries := s.stack.entries.map (markOvertime (activeProfile s).releaseTime s.now) } }

/-- A switch in CONTINUOUS to a profile that does not allow continuous advance makes the advance claim
PENDING and the mode BUILD (R12). -/
def disallowContinuous (s : State) : State :=
  if s.modes.mode = .continuous ∧ (activeProfile s).continuousAllowed = false then
    changeMode .build .profile { s with modes := { s.modes with advance := .pending } }
  else s

/-- The switch to profile `n`: the selection is cleared, the index stored, and every block brings its
state into line; then every permit is computed again (R11, R12; the order is assumption 19). -/
def makeSwitch (n : Fin 4) (s : State) : State :=
  let s := { s with store := { s.store with active := n, pendingProfile := none } }
  let s := judgeDebt (overtimeAtSwitch (stopIfMotorsLow (updateTorque (screwAtSwitch s))))
  refresh (disallowContinuous (closeWhile s.account.accumulator s))

/-- The switch test: a pending selection is made active unless the held groups exceed its release limit
for the present mode (R9, R10). -/
def switchTest (s : State) : State :=
  match s.store.pendingProfile with
  | none => s
  | some n =>
    if heldGroups s ≤ releaseLimitIn s.store.profiles[n] s.modes.mode then makeSwitch n s else s

/-- A selection and its effect (R8): the state, and the status CLEARED 0, SWITCHED 1 or PENDING 2. -/
def selectProfile (n : Fin 4) (s : State) : State × Nat :=
  if n = s.store.active then
    ({ s with store := { s.store with pendingProfile := none } }, 0)
  else
    let s := { s with store := { s.store with pendingProfile := some n } }
    let s := if stands s.modes.mode then switchTest s else s
    (s, if s.store.pendingProfile = none then 1 else 2)

/-- Closures one after another, each with its switch test, until the accumulator is below the length
(R10, R24). -/
def closeAndTest : Nat → State → State
  | 0, s => s
  | fuel + 1, s => if closureDue s then closeAndTest fuel (switchTest (closeIncrement s)) else s

/-! ## Claims and halts -/

/-- The mode is entered, with the switch test at an entry into STANDSTILL or HALTED (R10, R168). -/
def enterMode (m : Mode) (cause : ModeCause) (s : State) : State :=
  if s.modes.mode = m then s
  else
    let s := changeMode m cause s
    if stands m then switchTest s else s

/-- The mode derived from the claims, whatever it was (R167, R170). -/
def deriveMode (cause : ModeCause) (s : State) : State :=
  enterMode (derivedMode s.modes.advance s.modes.build) cause s

/-- The mode derived from the claims, except while UNCOMMISSIONED or HALTED (R167). -/
def claimsChanged (cause : ModeCause) (s : State) : State :=
  if s.modes.mode = .uncommissioned ∨ s.modes.mode = .halted then s else deriveMode cause s

/-- The claims at an entry into HALTED: the advance claim is dropped and a PENDING build claim thereby
granted (R169). -/
def ModeUnit.claimsAtHalt (m : ModeUnit) : ModeUnit :=
  { m with advance := .absent, build := if m.build = .pending then .held else m.build }

/-- The mode becomes HALTED, except while UNCOMMISSIONED (R169). -/
def haltMachine (s : State) : State :=
  if s.modes.mode = .uncommissioned ∨ s.modes.mode = .halted then s
  else enterMode .halted .halt { s with modes := s.modes.claimsAtHalt }

/-- A PENDING claim re-examined at a change of the held groups (R167). -/
def reexamine (s : State) : State :=
  if (s.modes.mode = .advance ∨ s.modes.mode = .build) ∧ mayStandTogether s then
    if s.modes.advance = .pending ∧ s.modes.build = .held then
      claimsChanged .grant { s with modes := { s.modes with advance := .held } }
    else if s.modes.build = .pending ∧ s.modes.advance = .held then
      claimsChanged .grant { s with modes := { s.modes with build := .held } }
    else s
  else s

/-! ## Groups and the release stack -/

/-- The hand-off of a change of the held groups, which were `before` (R10, R63, R167). -/
def heldChanged (before : Nat) (s : State) : State :=
  let s := if heldGroups s = before then s else reexamine s
  if heldGroups s < before ∧ stands s.modes.mode then switchTest s else s

/-- The THRUST mean stroke computed again (R36). -/
def updateMean (s : State) : State :=
  { s with account := { s.account with thrustMean := meanOfThrust s.groups } }

/-- A group's record after it enters the state `x` now; GROUP_SLOW starts a new measure (R42, R60). -/
def GroupRec.enter (g : GroupRec) (x : GroupState) (now : Nat) : GroupRec :=
  { g with state := x, stateTime := now, slow := false }

/-- A group's record after an order has sent it into the state `x`: its transition number is raised by 1,
the number after 255 being 0 (R42). -/
def GroupRec.ordered (g : GroupRec) (x : GroupState) (now : Nat) : GroupRec :=
  { g.enter x now with transition := (g.transition + 1) % 256 }

/-- One group's record replaced. -/
def setGroup (g : Fin 16) (r : GroupRec) (s : State) : State :=
  { s with groups := s.groups.set g.val r g.isLt }

/-- The items of an order: each group with its transition number (R50). -/
def orderItems (s : State) (groups : List (Fin 16)) : List (Fin 16 × Nat) :=
  groups.map fun g => (g, s.groups[g].transition)

/-- A RETRACT ORDER, sent when it lists a group (R49, R50). -/
def sendRetract (groups : List (Fin 16)) (cause : Option (Fin 7)) (s : State) : State :=
  if groups.isEmpty then s else tell .drive (.retractOrder (orderItems s groups) cause) s

/-- An EXTEND ORDER, sent when it lists a group (R50, R53). -/
def sendExtend (groups : List (Fin 16)) (cause : Option (Fin 7)) (s : State) : State :=
  if groups.isEmpty then s else tell .drive (.extendOrder (orderItems s groups) cause) s

/-- An entry that the test of R46 would open: OPENING, with every group of its cover RELEASED. -/
def grantable (s : State) (e : StackEntry) : Bool :=
  e.state = .opening && e.cover.all fun g => s.groups[g].state = .released

/-- The entries among `which` that pass the test of R46, bottom entry first (assumption 20). -/
def grantableEntries (which : StackEntry → Bool) (s : State) : List StackEntry :=
  (s.stack.entries.filter fun e => which e && grantable s e).reverse

/-- An entry becomes OPEN and is granted (R46). -/
def openEntry (s : State) (e : StackEntry) : State :=
  tell .erector (.segmentGranted e.position e.cover s.stack.entries.length)
    { s with stack :=
        { s.stack with entries := s.stack.entries.map fun x => if x = e then { e with state := .opened } else x } }

/-- The test of R46 made for the entries `which`: each one that passes is granted, and the permit unit is told
of each (R46, R174). -/
def grantEntries (which : StackEntry → Bool) (s : State) : State :=
  (grantableEntries which s).foldl (fun s e => refresh (openEntry s e)) s

/-- A group's record after a push whose cover contains it (R44, R49). -/
def GroupRec.pushed (g : GroupRec) (now : Nat) : GroupRec :=
  if g.holdCount = 0 then { g.ordered .retracting now with holdCount := 1 }
  else { g with holdCount := g.holdCount + 1 }

/-- The push of a position: its entry, the hold counts, the RETRACT ORDER, and the test of R46 (R49). A push
that is granted at once tells the permit unit once (R174), at the end of the request. -/
def pushEntry (p : Fin 7) (s : State) : State :=
  let cover := ringCover s.ring p
  let listed := cover.filter fun g => s.groups[g].holdCount = 0
  let entry : StackEntry := { position := p, cover, state := .opening, openedAt := s.now, overtime := false }
  let s := { s with
    groups := updateEach s.groups fun i g => if cover.contains i then g.pushed s.now else g
    stack := { s.stack with entries := entry :: s.stack.entries } }
  let s := sendRetract listed (some p) s
  (grantableEntries (fun e => e.position = p) s).foldl openEntry s

/-- A group whose hold count falls to 0 at a pop and that is sent back to the push (R53). -/
def GroupRec.returns (g : GroupRec) : Bool :=
  g.holdCount ≤ 1 && (g.state = .retracting || g.state = .released)

/-- A group's record after a pop whose cover contains it (R44, R53). -/
def GroupRec.popped (g : GroupRec) (now : Nat) : GroupRec :=
  if g.returns then { g.ordered .returning now with holdCount := g.holdCount - 1 }
  else { g with holdCount := g.holdCount - 1 }

/-- A pop: the top entry leaves, the hold counts fall, and the groups no longer held return to the push
under one EXTEND ORDER, in which they stand in the order of the cover (DESIGN CHOICE, assumption 20); the change of
the held groups is handed on (R53, R63). -/
def popEntry (s : State) : State :=
  match s.stack.entries with
  | [] => s
  | e :: rest =>
    let before := heldGroups s
    let listed := e.cover.filter fun g => s.groups[g].returns
    let s := { s with
      groups := updateEach s.groups fun i g => if e.cover.contains i then g.popped s.now else g
      stack := { s.stack with entries := rest } }
    refresh (heldChanged before (sendExtend listed (some e.position) s))

/-- Pops one by one from the top, `n` of them (R53, R88). -/
def popMany : Nat → State → State
  | 0, s => s
  | n + 1, s => popMany n (popEntry s)

/-! ## The ring record -/

/-- The RING STATE notice of a change of the ring record's state (R74). -/
def announceRing (cause : RingCause) (s : State) : State :=
  tell .erector (.ringState s.ring.number s.ring.state cause s.ring.queue s.ring.setList) s

/-- The closure test (R85). -/
def closureTest (s : State) : Bool :=
  heldGroups s = 0 && !someGroupIs s .returning && !someGroupIs s .uncertain

/-- The completion test of an abort (R89). -/
def completionTest (s : State) : Bool :=
  s.stack.entries.isEmpty && !someGroupIs s .returning && !someGroupIs s .uncertain

/-- The ring record IDLE for a ring number, everything else cleared (R86, R87). -/
def RingRec.cleared (number : Nat) : RingRec := RingRec.initial number

/-- The ring closes (R86): its number is stored, the cycle recorded (R34), the record IDLE for the next
ring. -/
def closeRing (s : State) : State :=
  let n := s.ring.number
  announceRing .closed
    { s with
      store := { s.store with lastClosed := n }
      account :=
        { s.account with
          cycles := pushCapped 8 s.account.cycles { ring := n, cycle := s.account.cycle }
          cycle := Cycle.start }
      ring := RingRec.cleared (n + 1) }

/-- An abort is complete (R89). -/
def completeAbort (s : State) : State :=
  announceRing .abortComplete { s with ring := { s.ring with state := .armed } }

/-- The ring builder's test while CLOSING or ABORTING (R85, R89). -/
def ringTest (s : State) : State :=
  match s.ring.state with
  | .closing => if closureTest s then closeRing s else s
  | .aborting => if completionTest s then completeAbort s else s
  | .idle | .armed | .building => s

/-- An abort from BUILDING or CLOSING (R88); the cause is ABORT or RING_FAILED (R74, R83). -/
def abortRing (cause : RingCause) (s : State) : State :=
  let s := popMany s.stack.entries.length s
  let ring :=
    { s.ring with state := .aborting, queue := ringOrder s.ring, setList := [], skips := Vector.replicate 7 0 }
  ringTest (announceRing cause { s with ring })

/-! ## Grout spread outside a closure -/

/-- An amount spread over the lines other than `line`, added to their carries, or to the pool without a
recipient (R97, R103, R109, R110). The portions and the pool's part come with the unit. -/
def spreadOver (p : Profile) (line : Fin 6) (a : Int) (g : Grout) : Grout × Vector Int 6 × Int :=
  let shares := recipientShares p g fun i => i ≠ line
  if sumNat shares = 0 then ({ g with pool := g.pool + a }, Vector.replicate 6 0, a)
  else
    let parts := signedPortions shares a
    ({ g with lines := updateEach g.lines fun i l => { l with carry := l.carry + parts[i] } }, parts, 0)

/-- The carry of a line that is not IN_SERVICE is moved on (R109, R110). -/
def moveCarry (p : Profile) (line : Fin 6) (g : Grout) : Grout × Vector Int 6 × Int :=
  let l := g.lines[line]
  spreadOver p line l.carry { g with lines := g.lines.set line.val { l with carry := 0 } line.isLt }

/-- A descriptor is POSTED (R95). -/
def Descriptor.isPosted (d : Descriptor) : Bool := d.state = .posted

/-- A descriptor is TAKEN (R95). -/
def Descriptor.isTaken (d : Descriptor) : Bool := d.state = .taken

/-- A line whose POSTED descriptors are cancelled, their targets added to its carry, in the service state
`x` (R109). -/
def Line.withdrawn (l : Line) (x : Service) : Line :=
  let posted := l.descriptors.filter Descriptor.isPosted
  { l with
    service := x
    carry := l.carry + ((posted.map fun d => d.dose.target).sum : Nat)
    descriptors := l.descriptors.filter fun d => !d.isPosted }

/-- The sequence numbers of a line's POSTED descriptors. -/
def Line.postedNumbers (l : Line) : List Nat :=
  (l.descriptors.filter Descriptor.isPosted).map fun d => d.dose.sequence

/-- A line leaves IN_SERVICE for the service state `x` (R109). -/
def leaveService (p : Profile) (line : Fin 6) (x : Service) (g : Grout) : Grout × Vector Int 6 × Int :=
  moveCarry p line { g with lines := g.lines.set line.val (g.lines[line].withdrawn x) line.isLt }

/-! ## Re-issue of orders -/

/-- The outstanding orders sent again, their numbers not raised (R66). -/
def reissueOrders (s : State) : State :=
  sendExtend (membersWhere s.groups fun g => g.state = .returning) none
    (sendRetract (membersWhere s.groups fun g => g.state = .retracting) none s)

/-- What waits on a link is replaced. -/
def setHeld (p : Port) (h : Option Held) (s : State) : State :=
  { s with held := s.held.set (portIndex p).val h (portIndex p).isLt }

/-- A frame's place among those that one event sends on a link: the owning blocks' notices, MODE CHANGE, the
permit notices, of which the cutter's comes after the advance's, CONDITION CHANGE (R176, R178). SCREW SETPOINT stands
among the permits, as R205 has it; no request of the Spoil link changes the mode, so that R178's order holds there too. -/
def Message.place : Message → Nat
  | .notice (.modeChange _ _ _ _ _) => 1
  | .notice (.advancePermit _) | .notice (.buildPermit _) | .notice (.groutPermit _) => 2
  | .notice (.cutterPermit _) | .notice (.screwSetpoint _ _ _ _ _) => 3
  | .notice (.conditionChange _) => 4
  | _ => 0

/-- Frames in the order of R178; those of one place keep the order in which they arose. -/
def arranged (l : List Sent) : List Sent :=
  [0, 1, 2, 3, 4].flatMap fun k => l.filter fun x => x.message.place = k

/-- What waited for an answer goes out, in the order of R178: the orders of R66, and the notices held back, which
arose before those of the request, and before newer ones that other events have sent on the link since (DESIGN
CHOICE, assumption 28). -/
def sendHeld (h : Held) (s : State) : State :=
  let s := if h.orders then reissueOrders s else s
  { s with sent := arranged (h.notices ++ s.sent) }

/-- A response has gone out on a link: when it is the one to the frame that made the link ACTIVE, what waited
for it follows (R66, R178, R203, assumption 28). -/
def afterAnswer (p : Port) (s : State) : State :=
  match s.held[portIndex p] with
  | none => s
  | some h =>
    if h.after ≤ 1 then sendHeld h (setHeld p none s) else setHeld p (some { h with after := h.after - 1 }) s

/-! ## The frame of every event -/

/-- The SCREW SETPOINT notice of an event that changes the screw permit (R128). -/
def screwNotices (before s : State) : List Sent :=
  if before.chamber.setpoint = s.chamber.setpoint ∧ before.chamber.gateAllowed = s.chamber.gateAllowed then []
  else
    [{ port := .spoil
       message := .notice (.screwSetpoint s.chamber.setpoint s.chamber.gateAllowed s.chamber.estimate
         s.chamber.status (activeProfile s).faceTarget) }]

/-- The MODE CHANGE notices of an event that changes the mode, on all links (R168). -/
def modeNotices (before s : State) : List Sent :=
  if before.modes.mode = s.modes.mode then []
  else allPorts.map fun p =>
    { port := p
      message := .notice (.modeChange s.modes.mode before.modes.mode s.modes.advance s.modes.build s.modes.cause) }

/-- The entries an event changed, in table order (R178). -/
def changedEntries (before s : State) : List CondEntry :=
  ((s.conds.zip before.conds).filter fun p => p.1 ≠ p.2).map (·.1)

/-- The CONDITION CHANGE notices of an event that changes the table, on all links (R178). -/
def conditionNotices (before s : State) : List Sent :=
  if (changedEntries before s).isEmpty then []
  else allPorts.map fun p => { port := p, message := .notice (.conditionChange (changedEntries before s)) }

/-- The end of an event that began in `before`: conditions and permits as the event leaves them, then
what it sent: the response, the owning blocks' notices, and those of R178 (assumption 10). -/
def finish (before : State) (reply : List Sent) (s : State) : State :=
  let s := refresh s
  { s with sent :=
      reply ++ arranged (s.sent ++ screwNotices before s ++ modeNotices before s ++ conditionNotices before s) }

/-- An event that is no request: made from a quiet state and closed by `finish`. A part without supply
does nothing (R194, assumption 7). -/
def event (effect : State → State) (s : State) : State :=
  if s.powered then finish s [] (effect (quiet s)) else quiet s

/-- An expiry: made when its time has come, and otherwise nothing (assumption 4). -/
def expiry (due : Bool) (effect : State → State) (s : State) : State :=
  if due then event effect s else quiet s

/-! ## Taking a request -/

/-- How an owning block answers: without changing a record, or with the state it leaves (R199). -/
inductive Handled where
  | answer (code : Code) (fields : List Field)
  | act (s : State) (code : Code) (fields : List Field)

/-- A STATE refusal carries a reason, 0 when it has none (R206). -/
def stateRefusal (reason : Nat) (fields : List Field) : Handled := .answer .state (.u8 reason :: fields)

/-- The head of a link's request list, taken from it. -/
def dropHead (p : Port) (s : State) : State :=
  let l := linkOf s p
  { s with links := s.links.set (portIndex p).val { l with requests := l.requests.tail } (portIndex p).isLt }

/-- A frame is a request of identifier `n` (R199, step 1). -/
def Frame.isRequest (f : Frame) (n : Nat) : Bool :=
  f.kind = kindRequest && f.tag ≠ 0 &&
    match f.body with
    | b :: _ => b.toNat = n
    | [] => false

/-- The frame at the head of a link's list when it is a request of identifier `n`. -/
def headRequest (p : Port) (n : Nat) (s : State) : Option Frame :=
  match (linkOf s p).requests with
  | f :: _ => if f.isRequest n then some f else none
  | [] => none

/-- Steps 2 to 4 of R199, then the owning block. `early` says that R5 lets the request through while
UNCOMMISSIONED. -/
def handle {α : Type} (roles : List Port) (early : Bool) (reader : Reader α)
    (owner : α → State → Handled) (p : Port) (f : Frame) (s : State) : Handled :=
  if !roles.contains p then .answer .role []
  else
    match readWhole reader f.body.tail with
    | none => .answer .format []
    | some a => if !commissioned s && !early then stateRefusal 0 [] else owner a s

/-- The response to a frame: its own tag, the identifier echoed, the result (R199, R206). -/
def responseTo (p : Port) (f : Frame) (code : Code) (fields : List Field) : Sent :=
  { port := p, message := .response f.tag (f.body.headD 0) code fields }

/-- The state after a request has been answered, from `before` (R198, R199). -/
def answered (before : State) (p : Port) (f : Frame) (s : State) (h : Handled) : State :=
  match h with
  | .answer code fields =>
    let s := afterAnswer p s
    { s with sent := responseTo p f code fields :: s.sent }
  | .act s code fields => finish before [responseTo p f code fields] (afterAnswer p s)

/-- The part takes the request of identifier `n` at the head of a link's list, carries it out whole and
answers it (R198). With another frame there, or none, nothing is taken (assumption 3). -/
def serve (n : Nat) (carry : Frame → State → Handled) (p : Port) (s : State) : State :=
  if s.powered then
    match headRequest p n s with
    | some f =>
      let s1 := dropHead p (quiet s)
      answered s p f s1 (carry f s1)
    | none => quiet s
  else quiet s

/-- A request checked by R199 and then made by its owning block. -/
def request {α : Type} (n : Nat) (roles : List Port) (early : Bool) (reader : Reader α)
    (owner : α → State → Handled) (p : Port) (s : State) : State :=
  serve n (handle roles early reader owner p) p s

end Sys2Proof.Machine
end

