-- ==== Sys2Proof/Machine/Cutterhead.lean ====
section
/-! DEFINITION. The cutterhead unit's commands: DRIVE REPORT, CUTTER START, CUTTER SPEED, CUTTER STOP,
CUTTER ROCK, MOTOR READMIT, the revolution index line and the unit's timers (chapter 7). -/

namespace Sys2Proof.Machine

/-! ## DRIVE REPORT -/

/-- A motor's membership after a report: the first report admits every ready motor, a later one removes
every IN motor reported not ready (R139). -/
def Motor.afterReport (first : Bool) (m : Motor) : Membership :=
  if first then (if m.ready then .isIn else .out .notReady)
  else if m.isIn && !m.ready then .out .notReady
  else m.membership

/-- The report recorded: the measured speed and, for each motor, its ready flag, torque and membership
(R139). -/
def recordReport (a : DriveArgs) (c : Cutter) : Cutter :=
  { c with
    measured := a.speed, firstPending := false
    motors := updateEach c.motors fun i m =>
      let m := { m with ready := a.motors[i].1, torque := a.motors[i].2 }
      { m with membership := m.afterReport c.firstPending } }

/-- The running test: the measured speed is within 10 % of the requested speed (R143). -/
def runningTest (c : Cutter) : Bool :=
  ((c.measured : Int) - c.requested).natAbs * 10 ≤ c.requested

/-- The IN motors bear at breakout torque (R153, R156). -/
def atBreakout (s : State) : Bool :=
  (activeProfile s).breakout * s.cutter.torqueCeiling ≤ inTorque s.cutter * 1000

/-- The jam conditions (R153). -/
def jamConditions (s : State) : Bool :=
  atBreakout s && s.cutter.measured * 10 < s.cutter.reference

/-- A timer started when it is absent (R148, R153). -/
def started (now : Nat) (t : Option Nat) : Option Nat := some (t.getD now)

/-- The jam test (R153). -/
def jamTest (s : State) : State :=
  { s with cutter :=
      { s.cutter with jam := if jamConditions s then started s.now s.cutter.jam else none } }

/-- The mean torque of the IN motors, rounded down (R148). -/
def meanTorque (c : Cutter) : Nat := inTorque c / inMotors c

/-- A motor's torque is in share of a mean (R148). -/
def torqueInShare (window mean torque : Nat) : Bool :=
  mean = 0 || ((torque : Int) - mean).natAbs * 1000 ≤ window * mean

/-- An IN motor after the share test (R148). -/
def shareMotor (window mean now : Nat) (m : Motor) : Motor :=
  if m.isIn then
    if torqueInShare window mean m.torque then { m with inShare := true, deviation := none }
    else { m with inShare := false, deviation := started now m.deviation }
  else m

/-- The share test (R148). -/
def shareTest (s : State) : State :=
  { s with cutter :=
      { s.cutter with
        motors := updateEach s.cutter.motors fun _ =>
          shareMotor (activeProfile s).shareWindow (meanTorque s.cutter) s.now } }

/-- The success test of the FORWARD phase; the rock speed is the phase's own, which the reference holds: a
profile switch changes it at the next phase (R156). -/
def successTest (s : State) : Bool :=
  s.cutter.reference ≤ s.cutter.measured * 2 && !atBreakout s

/-- An attempt succeeds (R156). -/
def rockSucceeds (s : State) : State :=
  let s := enterRest .stopped s
  { s with cutter := { s.cutter with attempts := 0 } }

/-- The state tests of a DRIVE REPORT, by run state (R139). -/
def driveTests (s : State) : State :=
  match s.cutter.run with
  | .starting => jamTest (if runningTest s.cutter then enterRunning s else s)
  | .running => jamTest (shareTest s)
  | .stopping => if s.cutter.measured = 0 then enterRest .stopped s else s
  | .rocking => if s.cutter.phase = some .forward ∧ successTest s then rockSucceeds s else s
  | .stopped | .jammed | .tripped => s

/-- A motor's membership and removal as a response gives them (R139, assumption 15). -/
def Membership.fields : Membership → List Field
  | .isIn => .u8 0 :: optU8 none
  | .out why => .u8 1 :: optU8 (some why.code)

/-- The fields of a DRIVE REPORT response (R139). No rule states the range of the number of IN motors, here and in the
other answers, so it takes 8 bytes (R206; assumption 14). -/
def driveFields (c : Cutter) : List Field :=
  [.u8 c.run.code, .u8 c.reference, .u8 (turnDirection c).code, .u16 c.torqueCeiling, .u64 (inMotors c)]
    ++ c.motors.toList.flatMap fun m => m.membership.fields

/-- A taken DRIVE REPORT (R139). -/
def takeDriveReport (a : DriveArgs) (s : State) : Handled :=
  let t := driveTests (stopIfMotorsLow (updateTorque { s with cutter := recordReport a s.cutter }))
  .act t .done (driveFields t.cutter)

/-- DRIVE REPORT (R139). -/
def execDriveReport (p : Port) (s : State) : Host.Outcome State Fault Refusal :=
  .next (request 2 [.drive] false readDrive takeDriveReport p s)

/-! ## Starting and stopping -/

/-- A requested speed clamped to 1–40 (R141, R144). -/
def clampedSpeed (v : Nat) : Nat := max 1 (min v 40)

/-- A new requested speed, toward which the reference ramps (R144). -/
def requestSpeed (v : Nat) (s : State) : State :=
  let v := clampedSpeed v
  { s with cutter := retarget v s.now { s.cutter with requested := v } }

/-- A taken CUTTER SPEED (R144). -/
def takeSpeed (v : Nat) (s : State) : Handled :=
  let t := requestSpeed v s
  .act t .done [.u8 t.cutter.requested, .u8 t.cutter.reference]

/-- A start from STOPPED (R141). -/
def startCutter (d : Direction) (v : Nat) (s : State) : State :=
  let v := clampedSpeed v
  let c := { s.cutter with run := .starting, direction := d, requested := v, reference := 0, ramp := none }
  { s with cutter := retarget v s.now c }

/-- The checks of a start in STOPPED, in order (R141). -/
def startRefusal (s : State) : Option Handled :=
  let p := activeProfile s
  if !advancing s.modes.mode then some (stateRefusal 5 [])
  else if s.chamber.status = .lost then some (stateRefusal 6 [])
  else if p.startBand < (pressureError s).natAbs then
    some (stateRefusal 7 [.i16 s.chamber.estimate, .u16 p.faceTarget, .u8 p.startBand])
  else if motorsLow s then some (stateRefusal 8 [.u64 (inMotors s.cutter), .u8 p.minMotors])
  else if s.cutter.torqueCeiling = 0 then some (stateRefusal 9 [])
  else if 0 < s.cutter.measured then some (stateRefusal 10 [])
  else none

/-- CUTTER START(direction, speed), by run state (R141). -/
def takeCutterStart (a : Direction × Nat) (s : State) : Handled :=
  match s.cutter.run with
  | .starting | .running =>
    if a.1 = s.cutter.direction then takeSpeed a.2 s else stateRefusal 4 []
  | .stopped =>
    match startRefusal s with
    | some r => r
    | none =>
      let t := startCutter a.1 a.2 s
      .act t .done
        [.u8 t.cutter.run.code, .u8 t.cutter.direction.code, .u8 t.cutter.requested, .u16 t.cutter.torqueCeiling]
  | .stopping | .jammed | .rocking | .tripped => stateRefusal 11 []

/-- CUTTER START (R141). -/
def execCutterStart (p : Port) (s : State) : Host.Outcome State Fault Refusal :=
  .next (request 9 [.drive] false readCutterStart takeCutterStart p s)

/-- CUTTER SPEED(speed), by run state (R144). -/
def takeCutterSpeed (v : Nat) (s : State) : Handled :=
  if turning s.cutter.run then takeSpeed v s else stateRefusal 0 []

/-- CUTTER SPEED (R144). No rule states the range of its speed, which is clamped whatever it is, so it takes 8 bytes
(R206; assumption 14). -/
def execCutterSpeed (p : Port) (s : State) : Host.Outcome State Fault Refusal :=
  .next (request 10 [.drive] false readWide takeCutterSpeed p s)

/-- CUTTER STOP, by run state (R145). -/
def takeCutterStop (_ : Unit) (s : State) : Handled :=
  let t := forcedStop s
  .act t .done [.u8 t.cutter.run.code]

/-- CUTTER STOP (R145). -/
def execCutterStop (p : Port) (s : State) : Host.Outcome State Fault Refusal :=
  .next (request 11 [.drive, .cabin] false readNothing takeCutterStop p s)

/-- A rocking attempt begins in its REVERSE phase; the counter is loaded when it is 0 (R155, R156). -/
def startRocking (s : State) : State :=
  let p := activeProfile s
  { s with cutter :=
      { s.cutter with
        run := .rocking, phase := some .reverse, rock := some s.now, reference := p.rockSpeed
        attempts := if s.cutter.attempts = 0 then p.rockAttempts else s.cutter.attempts } }

/-- CUTTER ROCK, its checks in order (R155). -/
def takeCutterRock (_ : Unit) (s : State) : Handled :=
  if s.cutter.run = .rocking then .answer .busy []
  else if s.cutter.run ≠ .jammed then stateRefusal 13 []
  else if !advancing s.modes.mode then stateRefusal 5 []
  else if s.chamber.status = .lost then stateRefusal 6 []
  else if motorsLow s then stateRefusal 8 []
  else
    let t := startRocking s
    .act t .done [.u8 t.cutter.attempts]

/-- CUTTER ROCK (R155). -/
def execCutterRock (p : Port) (s : State) : Host.Outcome State Fault Refusal :=
  .next (request 12 [.drive] false readNothing takeCutterRock p s)

/-- A motor returned to the count (R149). -/
def Motor.readmitted (m : Motor) : Motor :=
  { m with membership := .isIn, inShare := true, deviation := none }

/-- One motor's record replaced, the torque ceiling following (R140). -/
def setMotor (i : Fin 8) (m : Motor) (s : State) : State :=
  updateTorque { s with cutter := { s.cutter with motors := s.cutter.motors.set i.val m i.isLt } }

/-- The answer to a MOTOR READMIT (R149). -/
def readmitFields (c : Cutter) : List Field := [.u64 (inMotors c), .u16 c.torqueCeiling]

/-- MOTOR READMIT(m), its checks in order (R149). -/
def takeMotorReadmit (n : Nat) (s : State) : Handled :=
  if h : n < 8 then
    let m := s.cutter.motors[n]
    if s.cutter.run ≠ .stopped ∧ s.cutter.run ≠ .jammed then stateRefusal 11 []
    else if m.ready = false then stateRefusal 12 []
    else if m.isIn then .answer .done (readmitFields s.cutter)
    else
      let t := setMotor ⟨n, h⟩ m.readmitted s
      .act t .done (readmitFields t.cutter)
  else .answer .range []

/-- MOTOR READMIT (R149). -/
def execMotorReadmit (p : Port) (s : State) : Host.Outcome State Fault Refusal :=
  .next (request 13 [.drive] false readByte takeMotorReadmit p s)

/-! ## The revolution index line -/

/-- A revolution opens at a pulse, without one closing (R150). -/
def openRevolution (now : Nat) (c : Cutter) : Cutter :=
  { c with indexLost := false, indexRef := some now, revAdvance := 0 }

/-- The governor factor after a revolution (R151). -/
def governorAfter (factor : Nat) (above : Bool) : Nat :=
  if above then max 300 (factor - 100) else min (factor + 100) 1000

/-- The revolution opened at `start` closes at a pulse, and the governor acts on it (R150, R151). -/
def closeRevolution (limit start now : Nat) (c : Cutter) : Cutter :=
  let above : Bool := limit < c.revAdvance
  let factor := governorAfter c.governor above
  { c with
    revolutions := pushCapped 16 c.revolutions
      { time := now, period := now - start, penetration := c.revAdvance, above, factor }
    governor := factor, penetrationHigh := above
    indexRef := some now, revAdvance := 0 }

/-- A pulse taken in RUNNING; it restarts the index watch (R150, R152). -/
def takePulse (s : State) : State :=
  let c := s.cutter
  let c' :=
    match c.indexRef with
    | some start =>
      if c.indexLost then openRevolution s.now c
      else closeRevolution (activeProfile s).penetrationLimit start s.now c
    | none => openRevolution s.now c
  { s with cutter := { c' with watch := if 0 < c.reference then some s.now else none } }

/-- REVOLUTION_INDEX_PULSE: an assertion of at least 1 ms is a pulse, taken only in RUNNING (R150,
R207). -/
def execRevolutionIndexPulse (ms : Nat) (s : State) : Host.Outcome State Fault Refusal :=
  .next (event (fun s => if 1 ≤ ms ∧ s.cutter.run = .running then takePulse s else s) s)

/-! ## Timers -/

/-- A timer has run for `limit` (R148, R152, R153, R156). -/
def ranFor (t : Option Nat) (limit now : Nat) : Bool :=
  match t with
  | some start => start + limit ≤ now
  | none => false

/-- The next ramp step's time is reached (R142). -/
def rampDue (s : State) : Bool :=
  ranFor s.cutter.ramp (Config.rampInterval * (s.cutter.rampSteps + 1)) s.now

/-- The ramp target (R142). -/
def rampTarget (c : Cutter) : Nat := if c.run = .stopping then 0 else c.requested

/-- The reference one unit nearer to a target (R142). -/
def stepToward (target reference : Nat) : Nat :=
  if reference < target then reference + 1 else if target < reference then reference - 1 else reference

/-- A ramp step; the ramp timer becomes absent at the target, and a reference that rises above 0 in
RUNNING starts the index watch (R142, R152). -/
def rampStep (s : State) : State :=
  let c := s.cutter
  let target := rampTarget c
  let reference := stepToward target c.reference
  { s with cutter :=
      { c with
        reference
        ramp := if reference = target then none else c.ramp
        rampSteps := if reference = target then 0 else c.rampSteps + 1
        watch :=
          if c.run = .running then
            if reference = 0 then none
            else if c.reference = 0 then some s.now
            else c.watch
          else c.watch } }

/-- RAMP_STEP (R142). -/
def execRampStep (s : State) : Host.Outcome State Fault Refusal :=
  .next (expiry (rampDue s) rampStep s)

/-- A motor's deviation timer has run for the share time while the motor is IN (R148, assumption 21). -/
def deviationDue (i : Fin 8) (s : State) : Bool :=
  s.cutter.motors[i].isIn && ranFor s.cutter.motors[i].deviation (activeProfile s).shareTime s.now

/-- The motor is taken out of the count (R148). -/
def removeMotor (i : Fin 8) (s : State) : State :=
  stopIfMotorsLow (setMotor i { s.cutter.motors[i] with membership := .out .share, deviation := none } s)

/-- DEVIATION_TIMER_EXPIRY (R148). -/
def execDeviationTimerExpiry (i : Fin 8) (s : State) : Host.Outcome State Fault Refusal :=
  .next (expiry (deviationDue i s) (removeMotor i) s)

/-- The index watch has run for its limit (R152). -/
def watchDue (s : State) : Bool :=
  s.cutter.run = .running && 0 < s.cutter.reference
    && ranFor s.cutter.watch (watchLimit s.cutter.reference) s.now

/-- INDEX_LOST is raised and the watch becomes absent (R152). -/
def loseIndex (s : State) : State := { s with cutter := { s.cutter with indexLost := true, watch := none } }

/-- INDEX_WATCH_EXPIRY (R152). -/
def execIndexWatchExpiry (s : State) : Host.Outcome State Fault Refusal :=
  .next (expiry (watchDue s) loseIndex s)

/-- The jam timer has run for the jam time (R153). -/
def jamDue (s : State) : Bool :=
  turning s.cutter.run && ranFor s.cutter.jam (activeProfile s).jamTime s.now

/-- JAM_TIMER_EXPIRY: the cutterhead becomes JAMMED (R153, R154). -/
def execJamTimerExpiry (s : State) : Host.Outcome State Fault Refusal :=
  .next (expiry (jamDue s) (enterRest .jammed) s)

/-- The rock timer has run for the rock time in a phase (R156). -/
def rockDue (phase : RockPhase) (s : State) : Bool :=
  s.cutter.run = .rocking && s.cutter.phase = some phase
    && ranFor s.cutter.rock (activeProfile s).rockTime s.now

/-- The FORWARD phase begins; the rock speed is the active profile's (R156). -/
def beginForward (s : State) : State :=
  { s with cutter :=
      { s.cutter with phase := some .forward, rock := some s.now, reference := (activeProfile s).rockSpeed } }

/-- REVERSE_PHASE_EXPIRY (R156). -/
def execReversePhaseExpiry (s : State) : Host.Outcome State Fault Refusal :=
  .next (expiry (rockDue .reverse s) beginForward s)

/-- An attempt fails: JAMMED while attempts remain, TRIPPED when none do (R156, R157). -/
def rockFails (s : State) : State :=
  let left := s.cutter.attempts - 1
  let s := enterRest (if left = 0 then .tripped else .jammed) s
  { s with cutter := { s.cutter with attempts := left } }

/-- FORWARD_PHASE_EXPIRY (R156). -/
def execForwardPhaseExpiry (s : State) : Host.Outcome State Fault Refusal :=
  .next (expiry (rockDue .forward s) rockFails s)

end Sys2Proof.Machine
end

