-- ==== Sys2Proof/Machine/Catalogue.lean ====
section
/-! DEFINITION. The catalogue of requests (10.8): which identifier stands for which request. -/

namespace Sys2Proof.Machine

/-- The request identifier of the command that takes a request (R199, catalogue of 10.8). -/
def requestId : Instr → Option Nat
  | .strokeReport _ => some 1 | .driveReport _ => some 2 | .retractDone _ => some 3
  | .extendDone _ => some 4 | .groupFault _ => some 5 | .groupState _ => some 6
  | .claimAdvance _ => some 7 | .dropAdvance _ => some 8 | .cutterStart _ => some 9
  | .cutterSpeed _ => some 10 | .cutterStop _ => some 11 | .cutterRock _ => some 12
  | .motorReadmit _ => some 13 | .claimBuild _ => some 14 | .dropBuild _ => some 15
  | .ringArm _ => some 16 | .segmentOpen _ => some 17 | .segmentPlaced _ => some 18
  | .segmentClose _ => some 19 | .ringAbort _ => some 20 | .doseTake _ => some 21
  | .doseClose _ => some 22 | .lineState _ => some 23 | .spoilReport _ => some 24
  | .constantsWrite _ => some 25 | .profileWrite _ => some 26 | .profileSelect _ => some 27
  | .planErase _ => some 28 | .planBlankCheck _ => some 29 | .planWrite _ => some 30
  | .planWriteNext _ => some 31 | .planVerify _ => some 32 | .planStatus _ => some 33
  | .conditionAck _ => some 34 | .flagsClear _ => some 35 | .halt _ => some 36
  | .haltClear _ => some 37 | .warmReset _ => some 38 | .read _ => some 39
  | .powerOn _ => none | .resetInput _ => none | .revolutionIndexPulse _ => none
  | .frameReceive _ _ => none | .frameTimeout _ => none | .linkSilenceExpiry _ => none
  | .unknownRequest _ => none | .retractTimerExpiry _ => none | .releaseTimerExpiry _ => none
  | .advanceSpeedExpiry => none | .estimateLossExpiry => none | .rampStep => none
  | .deviationTimerExpiry _ => none | .indexWatchExpiry => none | .jamTimerExpiry => none
  | .reversePhaseExpiry => none | .forwardPhaseExpiry => none | .eraseCompletion => none
  | .rowCompletion => none | .supplyLoss => none

/-- The command that takes the request of identifier `n` from port `p` (catalogue of 10.8). -/
def requestCommand (p : Port) : Nat → Option Instr
  | 1 => some (.strokeReport p) | 2 => some (.driveReport p) | 3 => some (.retractDone p)
  | 4 => some (.extendDone p) | 5 => some (.groupFault p) | 6 => some (.groupState p)
  | 7 => some (.claimAdvance p) | 8 => some (.dropAdvance p) | 9 => some (.cutterStart p)
  | 10 => some (.cutterSpeed p) | 11 => some (.cutterStop p) | 12 => some (.cutterRock p)
  | 13 => some (.motorReadmit p) | 14 => some (.claimBuild p) | 15 => some (.dropBuild p)
  | 16 => some (.ringArm p) | 17 => some (.segmentOpen p) | 18 => some (.segmentPlaced p)
  | 19 => some (.segmentClose p) | 20 => some (.ringAbort p) | 21 => some (.doseTake p)
  | 22 => some (.doseClose p) | 23 => some (.lineState p) | 24 => some (.spoilReport p)
  | 25 => some (.constantsWrite p) | 26 => some (.profileWrite p) | 27 => some (.profileSelect p)
  | 28 => some (.planErase p) | 29 => some (.planBlankCheck p) | 30 => some (.planWrite p)
  | 31 => some (.planWriteNext p) | 32 => some (.planVerify p) | 33 => some (.planStatus p)
  | 34 => some (.conditionAck p) | 35 => some (.flagsClear p) | 36 => some (.halt p)
  | 37 => some (.haltClear p) | 38 => some (.warmReset p) | 39 => some (.read p)
  | _ => none

end Sys2Proof.Machine
end

