-- ==== Sys2Proof/Machine/Links.lean ====
section
/-! DEFINITION. The link unit's commands: bytes that arrive, the 20 ms of a frame, the silence of a link,
and a frame that is no request of the catalogue (chapter 10). -/

namespace Sys2Proof.Machine

/-- A link's record replaced. -/
def setLink (p : Port) (l : LinkRec) (s : State) : State :=
  { s with links := s.links.set (portIndex p).val l (portIndex p).isLt }

/-- The most requests a list holds (R196, R198). -/
def listCapacity : Nat := 8

/-- A link's record after a valid frame whose last byte arrived at `time` (R197, R198, R203). -/
def LinkRec.receive (f : Frame) (time : Nat) (l : LinkRec) : LinkRec :=
  { l with
    active := true, ever := true, lastFrame := some time
    requests := if l.requests.length < listCapacity then l.requests ++ [f] else l.requests }

/-- A link becomes ACTIVE by a frame; `before` is its record until then. The orders of R66, re-issued on the
Drive link when it has been ACTIVE before, and the activation's notices on the link itself wait for the frame's
answer; a frame dropped from a full list is never answered, and the orders are sent at once (R66, R178, R203,
assumption 28). Notices that still wait from an earlier activation wait on. -/
def onActive (p : Port) (before : LinkRec) (s : State) : State :=
  let orders := decide (p = .drive) && before.ever
  if before.requests.length < listCapacity then
    let notices := (s.held[portIndex p].map (·.notices)).getD []
    setHeld p (some { after := before.requests.length + 1, orders, notices }) s
  else if orders then reissueOrders s
  else s

/-- A valid frame arrives (R197, R198, R203). -/
def deliver (p : Port) (s : State) (x : Frame × Nat) : State :=
  let l := linkOf s p
  let s := setLink p (l.receive x.1 x.2) s
  if l.active then s else onActive p l s

/-- The notices that an arrival sends on its own link are held back when it has made the link ACTIVE by a frame
that joins the list; on the other links they are sent at once (R178, assumption 28). What other events send on the
link meanwhile is not held back, and so goes out before them (DESIGN CHOICE, assumption 28). -/
def holdBack (p : Port) (before s : State) : State :=
  match s.held[portIndex p] with
  | some h =>
    if (linkOf before p).active = false ∧ (linkOf s p).active = true ∧
        (linkOf before p).requests.length < listCapacity then
      setHeld p (some { h with notices := h.notices ++ s.sent.filter (·.port = p) })
        { s with sent := s.sent.filter (·.port ≠ p) }
    else s
  | none => s

/-- An event of a link's receiver (R197, R203). -/
def arrival (p : Port) (effect : State → State) (s : State) : State :=
  if s.powered then holdBack p s (event effect s) else quiet s

/-- The receiver's search made over what a link has received (R197). -/
def receive (p : Port) (s : State) : State :=
  let rx := (linkOf s p).rx
  let found := scanBytes (rx.length + 1) s.now rx
  found.1.foldl (deliver p) (setLink p { linkOf s p with rx := found.2 } s)

/-- Bytes join what a link has received, with the time of their arrival (R197). -/
def addBytes (p : Port) (bytes : List Byte) (s : State) : State :=
  let l := linkOf s p
  setLink p { l with rx := l.rx ++ bytes.map fun b => (b, s.now) } s

/-- FRAME_RECEIVE (R197). -/
def execFrameReceive (p : Port) (bytes : List Byte) (s : State) : Host.Outcome State Fault Refusal :=
  .next (arrival p (fun s => receive p (addBytes p bytes s)) s)

/-- The bytes of a frame have not all arrived within 20 ms of its start marker (R197, assumption 5). -/
def frameTimeoutDue (p : Port) (s : State) : Bool :=
  match (linkOf s p).rx with
  | (_, t) :: _ => t + Config.frameTimeout < s.now
  | [] => false

/-- FRAME_TIMEOUT: the frame is discarded and the search resumes at the byte after its start marker
(R197). -/
def execFrameTimeout (p : Port) (s : State) : Host.Outcome State Fault Refusal :=
  .next (if frameTimeoutDue p s then arrival p (receive p) s else quiet s)

/-- An ACTIVE link has carried no valid frame for 1,000 ms (R202). -/
def silenceDue (p : Port) (s : State) : Bool :=
  (linkOf s p).active &&
    match (linkOf s p).lastFrame with
    | some t => t + Config.silenceTimeout ≤ s.now
    | none => false

/-- A link becomes SILENT; on the Drive link every previous stroke becomes absent and the machine halts
(R40, R169, R202). -/
def silenceLink (p : Port) (s : State) : State :=
  let s := setLink p { linkOf s p with active := false } s
  if p = .drive then
    haltMachine { s with account := { s.account with prev := Vector.replicate 16 none } }
  else s

/-- LINK_SILENCE_EXPIRY (R202). -/
def execLinkSilenceExpiry (p : Port) (s : State) : Host.Outcome State Fault Refusal :=
  .next (expiry (silenceDue p s) (silenceLink p) s)

/-! ## Frames that are no request -/

/-- A frame's request identifier names a request of the catalogue (R199, step 1). -/
def inCatalogue (f : Frame) : Bool :=
  match f.body with
  | b :: _ => (requestCommand .drive b.toNat).isSome
  | [] => false

/-- A frame passes step 1 of R199. -/
def isRequestFrame (f : Frame) : Bool := f.kind = kindRequest && f.tag ≠ 0 && inCatalogue f

/-- A frame that fails step 1 is taken from the list and answered FORMAT with its own tag (R199, R200). It is a
refusal of no plan command, also where its identifier is one of theirs: the last command record stays (R185; DESIGN
CHOICE, assumption 17). -/
def answerUnknown (p : Port) (s : State) : State :=
  match (linkOf s p).requests with
  | f :: _ =>
    if isRequestFrame f then s
    else
      let s := afterAnswer p (dropHead p s)
      { s with sent := responseTo p f .format [] :: s.sent }
  | [] => s

/-- UNKNOWN_REQUEST (R199, step 1; R200). -/
def execUnknownRequest (p : Port) (s : State) : Host.Outcome State Fault Refusal :=
  .next (if s.powered then answerUnknown p (quiet s) else quiet s)

/-- The command that takes the head of a link's list (R198, R199). -/
def headCommand (p : Port) (s : State) : Option Instr :=
  match (linkOf s p).requests with
  | f :: _ =>
    if isRequestFrame f then requestCommand p (f.body.headD 0).toNat else some (.unknownRequest p)
  | [] => none

end Sys2Proof.Machine
end

