-- ==== Sys2Proof/Machine/Reset.lean ====
section
/-! DEFINITION. Power-on, the loss of supply and the warm reset (R14, R38, R64, R90, R114, R133, R159, R180,
R194; R204, R205). -/

namespace Sys2Proof.Machine

/-! ## Power-on -/

/-- The constant and profile store at a power-on (R14). -/
def Store.atPowerOn (failed : StoredFailures) (t : Store) : Store :=
  { constants := if failed.constants then none else t.constants
    profiles := updateEach t.profiles fun i p => if failed.profiles.contains i then Profile.default else p
    active := if failed.active then 0 else t.active
    pendingProfile := none
    lastClosed := if failed.lastClosed then 0 else t.lastClosed }

/-- The last command record a power-on finds: the command in progress INTERRUPTED, otherwise as stored, and absent
when it fails its check (R194). -/
def PlanStore.lastAtPowerOn (failed : StoredFailures) (k : PlanStore) : Option LastCommand :=
  if failed.last then none
  else
    match k.running with
    | some c => some { c with result := .interrupted }
    | none => k.last

/-- The rows a power-on finds: those whose stored form fails are BLANK, and a base or a cursor that fails
leaves the whole store BLANK (R194). -/
def PlanStore.rowsAtPowerOn (failed : StoredFailures) (k : PlanStore) : List (Nat × PlanRow) :=
  if failed.base || failed.cursor then [] else k.rows.filter fun r => !failed.rows.contains r.1

/-- The written count a power-on finds: as stored, or formed anew from the rows when a row, the base, the
cursor or the count itself fails its check (R194). -/
def PlanStore.writtenAtPowerOn (failed : StoredFailures) (k : PlanStore) : Nat :=
  if failed.base || failed.cursor || failed.written || !failed.rows.isEmpty then
    (k.rowsAtPowerOn failed).length
  else k.written

/-- The plan store at a power-on (R194). -/
def PlanStore.atPowerOn (failed : StoredFailures) (k : PlanStore) : PlanStore :=
  let blank := failed.base || failed.cursor
  { rows := k.rowsAtPowerOn failed
    base := if blank then 1 else k.base
    cursor := if blank then 1 else k.cursor
    written := k.writtenAtPowerOn failed
    status := .idle, opEnd := none
    last := k.lastAtPowerOn failed
    running := none, job := none }

/-- A condition entry at a power-on: the level its owning block gives it, not latched but for POWER_ON, its
class undetermined for STACK_FULL (R177, R180). -/
def entryAtPowerOn (s : State) (k : CondKey) : CondEntry :=
  { name := k.1, subject := k.2, cls := classOf s k.1 k.2, active := level s k.1 k.2
    latched := k.1 = .powerOn, changedAt := s.now }

/-- Every block at its power-on values, over the stored records (R38, R64, R90, R114, R133, R159, R180,
R194, R196). The waiting commands and the counter of the free order are the model's own and stay. -/
def blocksAtPowerOn (failed : StoredFailures) (s : State) : State :=
  let store := s.store.atPowerOn failed
  { powered := true, now := 0
    links := Vector.replicate 5 LinkRec.initial, held := Vector.replicate 5 none
    store, account := Account.initial
    groups := Vector.replicate 16 GroupRec.initial, stack := ReleaseStack.initial
    ring := RingRec.initial (store.lastClosed + 1), plan := s.plan.atPowerOn failed, grout := Grout.initial
    chamber := Chamber.initial, cutter := Cutter.initial
    modes := ModeUnit.initial (if store.constants.isSome then .standstill else .uncommissioned)
    permits := initialPermits, conds := [], sent := [], choices := s.choices, pending := s.pending }

/-- The notices a power-on sends: one for each permit that is not what a part without supply shows (R180,
assumption 26). Every link is SILENT, so all are lost. -/
def powerOnNotices (s : State) : List Sent :=
  [{ port := .drive, message := .notice (.advancePermit s.permits.advance) },
   { port := .drive, message := .notice (.cutterPermit s.permits.cutter) },
   { port := .erector, message := .notice (.buildPermit s.permits.build) },
   { port := .grout, message := .notice (.groutPermit s.permits.grout) },
   { port := .spoil
     message := .notice (.screwSetpoint s.chamber.setpoint s.chamber.gateAllowed s.chamber.estimate
       s.chamber.status (activeProfile s).faceTarget) }]

/-- The part right after a power-on (R14, R180). -/
def powerUp (failed : StoredFailures) (s : State) : State :=
  let s := blocksAtPowerOn failed s
  let s := { s with conds := condKeys.map (entryAtPowerOn s), permits := permitsOf s }
  { s with sent := powerOnNotices s }

/-- POWER_ON. A part that has supply loses it first (assumption 7). -/
def execPowerOn (failed : StoredFailures) (s : State) : Host.Outcome State Fault Refusal :=
  .next (powerUp failed s)

/-- Supply is lost: the part does nothing more until the next power-on, and the halt contact is open
(R194, R207, assumption 7). -/
def loseSupply (s : State) : State := { quiet s with powered := false }

/-- SUPPLY_LOSS (R194, R207). -/
def execSupplyLoss (s : State) : Host.Outcome State Fault Refusal :=
  .next (loseSupply s)

/-- The halt contact is open: while the output is asserted and while the part has no supply (R207). -/
def contactOpen (s : State) : Bool := !s.powered || s.modes.haltOutput

/-! ## Warm reset -/

/-- A link at a warm reset: its list is emptied (R196, R205). -/
def LinkRec.reset (l : LinkRec) : LinkRec := { l with requests := [] }

/-- The advance account at a warm reset (R39). -/
def Account.reset (a : Account) : Account := { a with prev := Vector.replicate 16 none, speed := 0 }

/-- A group at a warm reset (R65). -/
def GroupRec.reset (now : Nat) (g : GroupRec) : GroupRec :=
  if g.state = .retracting ∨ g.state = .returning then g.enter .uncertain now else { g with slow := false }

/-- The release stack at a warm reset (R65). -/
def ReleaseStack.reset (now : Nat) (k : ReleaseStack) : ReleaseStack :=
  { k with entries := k.entries.map fun e => { e with openedAt := now, overtime := false } }

/-- A transducer at a warm reset (R134). -/
def Transducer.reset (t : Transducer) : Transducer := { t with valid := false, referred := none }

/-- The chamber and spoil unit at a warm reset (R134). -/
def Chamber.reset (c : Chamber) : Chamber :=
  { c with
    transducers := updateEach c.transducers fun _ t => t.reset
    status := .lost, lastReport := none, validCount := 0, snapshot := some c.integrator
    setpoint := 0, gateAllowed := false, beltRef := none, lastBelt := none }

/-- The run state after a warm reset (R160). -/
def RunState.reset : RunState → RunState
  | .starting | .running | .stopping | .stopped => .stopped
  | .rocking | .jammed => .jammed
  | .tripped => .tripped

/-- The cutterhead unit at a warm reset (R160). -/
def Cutter.reset (c : Cutter) : Cutter :=
  { restCutter c.run.reset c with
    watch := none, indexRef := none, revAdvance := 0, indexLost := false, penetrationHigh := false
    governor := 1000
    motors := updateEach c.motors fun _ m => { m.settled with deviation := none } }

/-- The mode a warm reset leaves (R181). -/
def Mode.reset : Mode → Mode
  | .uncommissioned => .uncommissioned
  | .halted => .halted
  | .standstill | .advance | .build | .continuous => .standstill

/-- The claims and the mode at a warm reset (R181). -/
def ModeUnit.reset (m : ModeUnit) : ModeUnit :=
  { m with
    advance := .absent, build := .absent, mode := m.mode.reset, haltOutput := m.mode.reset = .halted
    cause := if m.mode.reset = m.mode then m.cause else .warmReset }

/-- What waits on the links for an answer that a warm reset takes away: it is sent at the reset. No order waits,
since the reset leaves none outstanding (R65, R205, assumption 28). -/
def heldNotices (s : State) : List Sent :=
  s.held.toList.flatMap fun h => (h.map (·.notices)).getD []

/-- Every block at its warm reset values (R205); the ring builder, the plan store and the grout unit keep
theirs (R91, R115, R194). A WARM RESET that waits in the Cabin list is dropped with the other requests (R204, R205;
DESIGN CHOICE, assumption 37). -/
def resetBlocks (s : State) : State :=
  { s with
    links := updateEach s.links fun _ l => l.reset
    held := Vector.replicate 5 none
    sent := s.sent ++ heldNotices s
    account := s.account.reset
    groups := updateEach s.groups fun _ g => g.reset s.now
    stack := s.stack.reset s.now
    chamber := s.chamber.reset
    cutter := s.cutter.reset
    modes := s.modes.reset }

/-- A warm reset as one event: the blocks, the condition table, the switch test, the permits (R205). -/
def warmReset (s : State) : State := refresh (switchTest (evalConditions (resetBlocks s)))

/-- RESET_INPUT: an assertion of at least 1 ms causes one warm reset (R204, R207). -/
def execResetInput (ms : Nat) (s : State) : Host.Outcome State Fault Refusal :=
  .next (event (fun s => if 1 ≤ ms then warmReset s else s) s)

/-- WARM RESET (R204). -/
def takeWarmReset (_ : Unit) (s : State) : Handled :=
  let t := warmReset s
  .act t .done [.u8 t.modes.mode.code]

/-- WARM RESET (R204). -/
def execWarmReset (p : Port) (s : State) : Host.Outcome State Fault Refusal :=
  .next (request 38 [.cabin] true readNothing takeWarmReset p s)

end Sys2Proof.Machine
end

