-- ==== Sys2Proof/Machine/RingPlan.lean ====
section
/-! DEFINITION. The ring plan store's requests and completions: PLAN ERASE, PLAN BLANK CHECK, PLAN WRITE,
PLAN WRITE NEXT, PLAN VERIFY, PLAN STATUS, the completion of an erase and of each row (chapter 9). -/

namespace Sys2Proof.Machine

/-! ## Rows -/

/-- The rows in canonical form: row numbers strictly rise, and only WRITTEN rows are listed (R184). -/
def rowsRising : List (Nat × PlanRow) → Bool
  | [] => true
  | [_] => true
  | a :: b :: rest => a.1 < b.1 && rowsRising (b :: rest)

/-- A row WRITTEN in the canonical list (R189). -/
def insertRow (i : Nat) (row : PlanRow) : List (Nat × PlanRow) → List (Nat × PlanRow)
  | [] => [(i, row)]
  | a :: rest =>
    if i < a.1 then (i, row) :: a :: rest
    else if i = a.1 then (i, row) :: rest
    else a :: insertRow i row rest

/-- The store is busy: its status is not IDLE (R185). -/
def planBusy (k : PlanStore) : Bool := k.status ≠ .idle

/-- The BUSY refusal carries the status and the operation end (R185). -/
def busyAnswer (k : PlanStore) : Handled := .answer .busy [.u8 k.status.code, .u64 (k.opEnd.getD 0)]

/-- The ring record's row is held: the record is not IDLE (R186, R188). -/
def ringHolds (r : RingRec) : Bool := r.state ≠ .idle

/-- The last command record replaced (R184, R185). -/
def record (c : LastCommand) (s : State) : State := { s with plan := { s.plan with last := some c } }

/-- A request that changes rows, refused ROLE or FORMAT before the plan store sees it: the refusal replaces the
last command record, with the first ring and the number of rows given (R185, R199, assumption 17). -/
def recordEarly (c : PlanCommand) (first rows : Nat) (s : State) : Handled → Handled
  | .answer .role fields =>
    .act (record { command := c, first, rows, written := 0, result := .refused .role } s) .role fields
  | .answer .format fields =>
    .act (record { command := c, first, rows, written := 0, result := .refused .format } s) .format fields
  | h => h

/-- PLAN ERASE, PLAN WRITE or PLAN WRITE NEXT. `first` and `rows` give what a refusal ROLE or FORMAT records:
from the arguments, or without them when the body cannot be read. -/
def planRequest {α : Type} (n : Nat) (c : PlanCommand) (reader : Reader α)
    (first rows : Option α → Frame → State → Nat) (owner : α → State → Handled) (p : Port) (s : State) : State :=
  serve n (fun f t =>
    let a := readWhole reader f.body.tail
    recordEarly c (first a f t) (rows a f t) t (handle [.cabin] true reader owner p f t)) p s

/-- The first ring that a body names, or the free value of a body that cannot be read (R185, assumption 17). -/
def firstNamed {α : Type} (get : α → Nat) (a : Option α) (f : Frame) (_ : State) : Nat :=
  match a with
  | some x => get x
  | none => (Config.unreadFirst f.body).toNat

/-- The number of rows that a body carries, or the free value of a body that cannot be read (R185, assumption
17). -/
def rowsCarried {α : Type} (get : α → Nat) (a : Option α) (f : Frame) (_ : State) : Nat :=
  match a with
  | some x => get x
  | none => (Config.unreadRows f.body).toNat

/-! ## Erasing -/

/-- A refused erase in the last command record (R185). -/
def refuseErase (base : Nat) (code : Code) (fields : List Field) (s : State) : Handled :=
  .act (record { command := .erase, first := base, rows := 0, written := 0, result := .refused code } s)
    code fields

/-- The store once the command `c` is taken: it is the command in progress and the last command (R186, R188). -/
def PlanStore.begun (c : LastCommand) (k : PlanStore) : PlanStore := { k with last := some c, running := some c }

/-- The store once an erase is taken (R186). -/
def PlanStore.erased (base now : Nat) (k : PlanStore) : PlanStore :=
  PlanStore.begun { command := .erase, first := base, rows := 0, written := 0, result := .inProgress }
    { k with
      rows := [], base, cursor := base, written := 0, status := .erasing
      opEnd := some (now + Config.eraseTime), job := none }

/-- PLAN ERASE(base); RANGE is checked before LOCKED (R185, R186; DESIGN CHOICE, assumption 18). -/
def takePlanErase (base : Nat) (s : State) : Handled :=
  if planBusy s.plan then busyAnswer s.plan
  else if base = 0 ∨ Config.lastRing < base then refuseErase base .range [] s
  else if ringHolds s.ring then
    refuseErase base .locked [.u16 s.ring.number, .u8 s.ring.state.code] s
  else
    .act { s with plan := s.plan.erased base s.now } .done [.u16 base, .u64 (s.now + Config.eraseTime)]

/-- PLAN ERASE (R186). -/
def execPlanErase (p : Port) (s : State) : Host.Outcome State Fault Refusal :=
  .next (planRequest 28 .erase readWord (firstNamed id) (fun _ _ _ => 0) takePlanErase p s)

/-- The operation end of an erase is reached (R187). -/
def eraseDue (s : State) : Bool :=
  s.plan.status = .erasing &&
    match s.plan.opEnd with
    | some t => t ≤ s.now
    | none => false

/-- The store at the end of a command: IDLE, the result of the last command record DONE, also of one that a refusal
has put there while the command ran (R187, R189; DESIGN CHOICE, assumption 17). -/
def PlanStore.ended (k : PlanStore) : PlanStore :=
  { k with
    status := .idle, opEnd := none, running := none, job := none
    last := k.last.map fun c => { c with result := .done } }

/-- An erase completes (R187). -/
def completeErase (s : State) : State := { s with plan := s.plan.ended }

/-- ERASE_COMPLETION (R187). -/
def execEraseCompletion (s : State) : Host.Outcome State Fault Refusal :=
  .next (expiry (eraseDue s) completeErase s)

/-! ## Writing -/

/-- A row's fields lie in their ranges (R184). -/
def rowInRange (r : PlanRow) : Bool :=
  r.ringType ≤ 7 && r.keySector ≤ 15 && r.start ≤ 5
    && r.fill.all (fun f => 1000 ≤ f && f ≤ 1600) && r.profile.all (· ≤ 3)

/-- The rings of a write that begins at `first` (R188). -/
def ringsOf (first n : Nat) : List Nat := (List.range n).map (first + ·)

/-- Steps 1 to 3 of R188, which PLAN VERIFY makes too (R191). The ring of step 2 has not yet been found to lie in the
span and may exceed 65,535, and no rule states its range: it takes 8 bytes (R206; assumption 14). The span is sent as its
first and its last ring (DESIGN CHOICE, assumption 15). -/
def rowsRefusal (first : Nat) (rows : List PlanRow) (k : PlanStore) : Option (Code × List Field) :=
  if rows.length = 0 ∨ 16 < rows.length then some (.range, [])
  else
    match rows.findIdx? fun r => !rowInRange r with
    | some i => some (.range, [.u64 (first + i)])
    | none =>
      if inSpan k first && inSpan k (first + rows.length - 1) then none
      else some (.range, [.u16 k.base, .u16 (spanLast k)])

/-- The checks of a write, in order (R188). -/
def writeRefusal (first : Nat) (rows : List PlanRow) (s : State) : Option (Code × List Field) :=
  match rowsRefusal first rows s.plan with
  | some r => some r
  | none =>
    let rings := ringsOf first rows.length
    if ringHolds s.ring ∧ rings.contains s.ring.number then some (.locked, [.u16 s.ring.number])
    else
      match rings.find? fun r => (rowOfRing s.plan r).isSome with
      | some r => some (.notBlank, [.u16 r])
      | none => none

/-- The store once a write is taken (R188, R189). -/
def PlanStore.writing (c : PlanCommand) (first now : Nat) (rows : List PlanRow) (k : PlanStore) : PlanStore :=
  PlanStore.begun { command := c, first, rows := rows.length, written := 0, result := .inProgress }
    { k with
      status := .writing
      opEnd := some (now + Config.rowTime * rows.length)
      job := some { rows, nextRing := first, nextDue := now + Config.rowTime } }

/-- A write of `rows` from ring `first` by the command `c` (R185, R188). -/
def writeRows (c : PlanCommand) (first : Nat) (rows : List PlanRow) (s : State) : Handled :=
  if planBusy s.plan then busyAnswer s.plan
  else
    match writeRefusal first rows s with
    | some (code, fields) =>
      .act (record { command := c, first, rows := rows.length, written := 0, result := .refused code } s)
        code fields
    | none =>
      .act { s with plan := s.plan.writing c first s.now rows } .done
        [.u16 first, .u8 rows.length, .u64 (s.now + Config.rowTime * rows.length)]

/-- PLAN WRITE(first, rows) (R188). -/
def takePlanWrite (a : Nat × List PlanRow) (s : State) : Handled := writeRows .write a.1 a.2 s

/-- PLAN WRITE (R188). -/
def execPlanWrite (p : Port) (s : State) : Host.Outcome State Fault Refusal :=
  .next (planRequest 30 .write readFirstAndRows (firstNamed (·.1)) (rowsCarried (·.2.length)) takePlanWrite p s)

/-- PLAN WRITE NEXT(rows): a write from the cursor as it stands (R190). -/
def takePlanWriteNext (rows : List PlanRow) (s : State) : Handled :=
  writeRows .writeNext s.plan.cursor rows s

/-- PLAN WRITE NEXT (R190). -/
def execPlanWriteNext (p : Port) (s : State) : Host.Outcome State Fault Refusal :=
  .next (planRequest 31 .writeNext readPlanRows (fun _ _ t => t.plan.cursor) (rowsCarried (·.length))
    takePlanWriteNext p s)

/-- A row of a write in progress is complete (R189). -/
def rowDue (s : State) : Bool :=
  s.plan.status = .writing &&
    match s.plan.job with
    | some j => j.nextDue ≤ s.now && !j.rows.isEmpty
    | none => false

/-- One row more in a command's record (R189). -/
def LastCommand.oneMore (c : LastCommand) : LastCommand := { c with written := c.written + 1 }

/-- The store after one row of a write is stored. The rows written rise in the last command record, also in one that
a refusal has put there while the write ran (R189; DESIGN CHOICE, assumption 17). -/
def PlanStore.rowStored (j : WriteJob) (row : PlanRow) (rest : List PlanRow) (k : PlanStore) : PlanStore :=
  { k with
    rows := insertRow (j.nextRing - k.base) row k.rows
    written := k.written + 1
    cursor := j.nextRing + 1
    last := k.last.map LastCommand.oneMore
    running := k.running.map LastCommand.oneMore
    job := some { rows := rest, nextRing := j.nextRing + 1, nextDue := j.nextDue + Config.rowTime } }

/-- The next row of the write completes; after the last one the command is done (R189). -/
def completeRow (s : State) : State :=
  match s.plan.job with
  | some { rows := row :: rest, nextRing, nextDue } =>
    let plan := s.plan.rowStored { rows := row :: rest, nextRing, nextDue } row rest
    { s with plan := if rest.isEmpty then plan.ended else plan }
  | _ => s

/-- ROW_COMPLETION (R189). -/
def execRowCompletion (s : State) : Host.Outcome State Fault Refusal :=
  .next (expiry (rowDue s) completeRow s)

/-! ## Checking -/

/-- How a stored row differs from a given one: BLANK 0, or the first differing field of R184's table,
numbered from 1 (R191). -/
def difference (stored : Option PlanRow) (given : PlanRow) : Option Nat :=
  match stored with
  | none => some 0
  | some r =>
    if r.ringType ≠ given.ringType then some 1
    else if r.keySector ≠ given.keySector then some 2
    else if r.start ≠ given.start then some 3
    else if r.fill ≠ given.fill then some 4
    else if r.profile ≠ given.profile then some 5
    else none

/-- The first ring that differs, with its kind, and how many matched before it (R191). -/
def compareRows (k : PlanStore) : Nat → List PlanRow → Option (Nat × Nat) × Nat
  | _, [] => (none, 0)
  | ring, r :: rest =>
    match difference (rowOfRing k ring) r with
    | some kind => (some (ring, kind), 0)
    | none => let (d, n) := compareRows k (ring + 1) rest; (d, n + 1)

/-- PLAN VERIFY(first, rows) (R191). The ring that differs and the kind of the difference are two optional fields
(DESIGN CHOICE, assumption 15). No rule states the range of the number of rings that match, which takes 8 bytes (R206;
assumption 14). -/
def takePlanVerify (a : Nat × List PlanRow) (s : State) : Handled :=
  if planBusy s.plan then busyAnswer s.plan
  else
    match rowsRefusal a.1 a.2 s.plan with
    | some (code, fields) => .answer code fields
    | none =>
      let (d, n) := compareRows s.plan a.1 a.2
      .answer .done (optU16 (d.map (·.1)) ++ optU8 (d.map (·.2)) ++ [.u64 n])

/-- PLAN VERIFY (R191). -/
def execPlanVerify (p : Port) (s : State) : Host.Outcome State Fault Refusal :=
  .next (request 32 [.cabin] true readFirstAndRows takePlanVerify p s)

/-- PLAN BLANK CHECK (R192). -/
def takePlanBlankCheck (_ : Unit) (s : State) : Handled :=
  let k := s.plan
  if planBusy k then busyAnswer k
  else
    .answer .done
      ([.u16 k.written] ++ optU16 (k.rows.head?.map fun r => k.base + r.1)
        ++ optU16 (k.rows.getLast?.map fun r => k.base + r.1) ++ [.u16 k.base, .u16 (spanLast k)])

/-- PLAN BLANK CHECK (R192). -/
def execPlanBlankCheck (p : Port) (s : State) : Host.Outcome State Fault Refusal :=
  .next (request 29 [.cabin] true readNothing takePlanBlankCheck p s)

/-- A last command record, present or absent (R184, R206). No rule states the range of the first ring, which
for WRITE_NEXT may be a cursor of 65,536 (R184, R190), of the number of rows and of the rows written: they take 8 bytes
each (R206; assumption 14). -/
def lastFields (c : Option LastCommand) : List Field :=
  yesNo c.isSome ::
    match c with
    | some c => [.u8 c.command.code, .u64 c.first, .u64 c.rows, .u64 c.written, .u8 c.result.code]
    | none => [.u8 0, .u64 0, .u64 0, .u64 0, .u8 0]

/-- PLAN STATUS (R192). -/
def takePlanStatus (_ : Unit) (s : State) : Handled :=
  let k := s.plan
  .answer .done
    (.u8 k.status.code :: optU64 k.opEnd ++ [.u16 k.base, .u32 k.cursor, .u16 k.written] ++ lastFields k.last)

/-- PLAN STATUS (R192). -/
def execPlanStatus (p : Port) (s : State) : Host.Outcome State Fault Refusal :=
  .next (request 33 [.cabin] true readNothing takePlanStatus p s)

end Sys2Proof.Machine
end

