-- ==== Sys2Proof/Machine/SpoilRemoval.lean ====
section
/-! DEFINITION. The chamber and spoil unit's commands: SPOIL REPORT and the expiry that loses the estimate
(chapter 6). -/

namespace Sys2Proof.Machine

/-- A transducer is valid: its flag is true and its pressure lies in 0–1,000 kPa (R119). -/
def pressureValid (flag : Bool) (raw : Nat) : Bool := flag && raw ≤ 1000

/-- A reading referred to the axis (R119). -/
def referred (unitWeight : Nat) (height : Int) (raw : Nat) : Int :=
  raw + roundAway ((unitWeight : Int) * height) 10000

/-- A transducer's record after a report (R119). -/
def readTransducer (s : State) (a : SpoilArgs) (t : Fin 5) : Transducer :=
  let raw := a.pressures[t]
  let valid := pressureValid a.flags[t] raw
  { raw, valid
    referred := if valid then some (referred (activeProfile s).unitWeight (constantsOf s).heights[t] raw) else none }

/-- One value joined to a rising list. -/
def insertInt (x : Int) : List Int → List Int
  | [] => [x]
  | y :: rest => if x ≤ y then x :: y :: rest else y :: insertInt x rest

/-- The values in rising order. -/
def sortInts (l : List Int) : List Int := l.foldr insertInt []

/-- The referred pressures of the valid transducers, in order (R120). -/
def referredValues (t : Vector Transducer 5) : List Int := sortInts (t.toList.filterMap (·.referred))

/-- The estimate that values in order give, with its status; none without a value (the table of R120). -/
def estimateOf (values : List Int) : Option (Int × EstimateStatus) :=
  match values with
  | [_, _, c, _, _] => some (c, .good)
  | [_, b, c, _] => some ((b + c) / 2, .good)
  | [_, b, _] => some (b, .good)
  | [a, b] => some ((a + b) / 2, .degraded)
  | [a] => some (a, .degraded)
  | _ => none

/-- The integrator after a report with a current estimate (R123). -/
def integrate (s : State) : Nat :=
  let p := activeProfile s
  let e := pressureError s
  if s.chamber.setpoint = 0 ∧ e < 0 then s.chamber.integrator
  else if s.chamber.setpoint = p.screwMax ∧ 0 < e then s.chamber.integrator
  else clampNat (s.chamber.integrator + (p.ki : Int) * e) (1000 * p.screwMax)

/-- The screw controller at a report with a current estimate (R123, R124, R126, R128). -/
def controlScrew (s : State) : State :=
  let s := updateGate s
  computeSetpoint { s with chamber := { s.chamber with integrator := integrate s } }

/-- The pressure part of a report: transducers, estimate, setpoint (R118 to R126). -/
def pressurePart (a : SpoilArgs) (s : State) : State :=
  let transducers := Vector.ofFn (readTransducer s a)
  let values := referredValues transducers
  let t := { s with chamber := { s.chamber with transducers, validCount := values.length } }
  match estimateOf values with
  | some (v, status) => controlScrew { t with chamber := { t.chamber with estimate := v, status } }
  | none => if s.chamber.status = .lost then t else loseEstimate t

/-- A belt difference, modulo 2³² (R129). -/
def beltDifference (counter reference : Nat) : BeltDifference :=
  let amount := (counter + 2 ^ 32 - reference) % 2 ^ 32
  { amount, accepted := amount ≤ Config.beltLimit }

/-- The belt part of a report (R129, R130). -/
def beltPart (counter : Nat) (s : State) : State :=
  match s.chamber.beltRef with
  | none => { s with chamber := { s.chamber with beltRef := some counter, lastBelt := none } }
  | some reference =>
    let d := beltDifference counter reference
    let s := { s with chamber :=
        { s.chamber with beltRef := some counter, lastBelt := some d, spoilCounter := !d.accepted } }
    if d.accepted then
      { s with account :=
          { s.account with
            cycle := { s.account.cycle with measured := satAdd s.account.cycle.measured d.amount } } }
    else s

/-- A belt difference with its mark, accepted 0 or rejected 1, present or absent (R118, R129). -/
def beltFields (d : Option BeltDifference) : List Field :=
  optU32 (d.map (·.amount)) ++ [.u8 ((d.map fun d => if d.accepted then 0 else 1).getD 0)]

/-- The fields of a SPOIL REPORT response: those of the list of R118, then the screw actual speed and the gate state,
which R117 returns there too (the place: DESIGN CHOICE, assumption 36). -/
def spoilFields (s : State) : List Field :=
  [.i16 s.chamber.estimate, .u8 s.chamber.status.code, .u8 s.chamber.validCount, .u16 s.chamber.setpoint,
   yesNo s.chamber.gateAllowed] ++ beltFields s.chamber.lastBelt
    ++ [.u64 s.account.cycle.measured, .u16 s.chamber.screwActual, .u8 s.chamber.gate.code]

/-- A taken SPOIL REPORT (R118). -/
def takeSpoilReport (a : SpoilArgs) (s : State) : Handled :=
  let t := { s with chamber :=
      { s.chamber with lastReport := some s.now, screwActual := a.screw, gate := a.gate } }
  let t := beltPart a.belt (pressurePart a t)
  .act t .done (spoilFields t)

/-- SPOIL REPORT (R118). -/
def execSpoilReport (p : Port) (s : State) : Host.Outcome State Fault Refusal :=
  .next (request 24 [.spoil] false readSpoil takeSpoilReport p s)

/-- 1,000 ms have passed since the newest taken report and the estimate is not LOST (R121). -/
def estimateDue (s : State) : Bool :=
  s.chamber.status ≠ .lost &&
    match s.chamber.lastReport with
    | some t => t + Config.estimateTimeout ≤ s.now
    | none => false

/-- ESTIMATE_LOSS_EXPIRY (R121). -/
def execEstimateLossExpiry (s : State) : Host.Outcome State Fault Refusal :=
  .next (expiry (estimateDue s) loseEstimate s)

end Sys2Proof.Machine
end

