-- ==== Sys2Proof/Machine/Timers.lean ====
section
/-! DEFINITION. The timers of the group map, the release stack and the advance account: GROUP_SLOW,
RELEASE_OVERTIME and the run-out of the advance speed (R31, R60, R61). -/

namespace Sys2Proof.Machine

/-- A group has been RETRACTING or RETURNING longer than the retract time limit (R60). -/
def retractDue (g : Fin 16) (s : State) : Bool :=
  let r := s.groups[g]
  (r.state = .retracting || r.state = .returning) && !r.slow
    && r.stateTime + (activeProfile s).retractTime < s.now

/-- GROUP_SLOW is raised for a group (R60). -/
def markSlow (g : Fin 16) (s : State) : State := setGroup g { s.groups[g] with slow := true } s

/-- RETRACT_TIMER_EXPIRY (R60). -/
def execRetractTimerExpiry (g : Fin 16) (s : State) : Host.Outcome State Fault Refusal :=
  .next (expiry (retractDue g s) (markSlow g) s)

/-- An entry of position `p` has been in the stack longer than the release time limit (R61). -/
def entryOverdue (p : Fin 7) (s : State) (e : StackEntry) : Bool :=
  e.position = p && !e.overtime && e.openedAt + (activeProfile s).releaseTime < s.now

/-- A release timer has run out (R61). -/
def releaseDue (p : Fin 7) (s : State) : Bool := s.stack.entries.any (entryOverdue p s)

/-- The entry's overtime flag is set (R61). -/
def setOvertime (p : Fin 7) (s : State) : State :=
  { s with stack :=
      { s.stack with
        entries := s.stack.entries.map fun e => if entryOverdue p s e then { e with overtime := true } else e } }

/-- RELEASE_TIMER_EXPIRY (R61). -/
def execReleaseTimerExpiry (p : Fin 7) (s : State) : Host.Outcome State Fault Refusal :=
  .next (expiry (releaseDue p s) (setOvertime p) s)

/-- 60,000 ms have passed since the newest closure and the advance speed is above 0 (R31). -/
def speedDue (s : State) : Bool :=
  0 < s.account.speed &&
    match newestClosure s.account with
    | some t => t + Config.speedTimeout ≤ s.now
    | none => false

/-- The advance speed becomes 0, its basis kept (R31). -/
def runOutSpeed (s : State) : State := { s with account := { s.account with speed := 0 } }

/-- ADVANCE_SPEED_EXPIRY (R31). -/
def execAdvanceSpeedExpiry (s : State) : Host.Outcome State Fault Refusal :=
  .next (expiry (speedDue s) runOutSpeed s)

end Sys2Proof.Machine
end

