-- ==== Sys2Proof/Machine/Agenda.lean ====
section
/-! DEFINITION. What the part does on its own: the events that are due, and the step of an empty queue
(assumptions 2 and 30). -/

namespace Sys2Proof.Machine

/-- The timers that have run out (R31, R60, R61, R121, R142, R148, R152, R153, R156, R187, R189). -/
def dueTimers (s : State) : List Instr :=
  ((List.finRange 16).filter fun g => retractDue g s).map Instr.retractTimerExpiry
  ++ ((List.finRange 7).filter fun p => releaseDue p s).map Instr.releaseTimerExpiry
  ++ (if speedDue s then [.advanceSpeedExpiry] else [])
  ++ (if estimateDue s then [.estimateLossExpiry] else [])
  ++ (if rampDue s then [.rampStep] else [])
  ++ ((List.finRange 8).filter fun m => deviationDue m s).map Instr.deviationTimerExpiry
  ++ (if watchDue s then [.indexWatchExpiry] else [])
  ++ (if jamDue s then [.jamTimerExpiry] else [])
  ++ (if rockDue .reverse s then [.reversePhaseExpiry] else [])
  ++ (if rockDue .forward s then [.forwardPhaseExpiry] else [])
  ++ (if eraseDue s then [.eraseCompletion] else [])
  ++ (if rowDue s then [.rowCompletion] else [])

/-- What is due on the links: frames out of time, silences, and the head of each list (R197, R198,
R202). -/
def dueOnLinks (s : State) : List Instr :=
  (allPorts.filter fun p => frameTimeoutDue p s).map Instr.frameTimeout
  ++ (allPorts.filter fun p => silenceDue p s).map Instr.linkSilenceExpiry
  ++ allPorts.filterMap fun p => headCommand p s

/-- Every event that is due now. -/
def dueEvents (s : State) : List Instr := dueTimers s ++ dueOnLinks s

/-- One of several due events, by the free order (assumption 30). -/
def chooseEvent (choices : Nat) (l : List Instr) : List Instr :=
  (l[Config.pick choices % l.length]?).toList

/-- The step of an empty queue: without supply nothing; with one event due that event is queued, with
several one of them; with none the timebase counts one (assumption 2). -/
def idle (s : State) : State :=
  let s := quiet s
  if s.powered then
    match dueEvents s with
    | [] => { s with now := s.now + 1 }
    | [c] => { s with pending := [c] }
    | l => { s with pending := chooseEvent s.choices l, choices := s.choices + 1 }
  else s

end Sys2Proof.Machine
end

