-- ==== Sys2Proof/Machine/Cabin.lean ====
section
/-! DEFINITION. The requests of the Cabin link on the stored records, the conditions and the halt:
CONSTANTS WRITE, PROFILE WRITE, PROFILE SELECT, CONDITION ACK, FLAGS CLEAR, HALT, HALT CLEAR (chapters 1,
3, 8). -/

namespace Sys2Proof.Machine

/-- `v` lies in `lo … hi`, both ends included (00, Units). -/
def within (lo hi v : Nat) : Bool := lo ≤ v && v ≤ hi

/-! ## CONSTANTS WRITE -/

/-- A ring type is undefined or defined at every position, each entry within its range (R2, R3). -/
def typeValid (entries : Vector TypeEntry 7) : Bool :=
  entries.toList.all (fun e => e.offset ≤ 15 && e.count ≤ 4)
    && (entries.toList.all (fun e => e.count = 0) || entries.toList.all fun e => 0 < e.count)

/-- The contents of a machine constants record that a write accepts (R2, R3). -/
def constantsValid (c : Constants) : Bool :=
  within 10000 1000000 c.excavationArea && within 1000 200000 c.tailVoidArea
    && within 5000 25000 c.ringWidth && within 10000 40000 c.strokeMax
    && c.heights.toList.all (fun h => h.natAbs ≤ 8000)
    && c.lineSectors.toList.all (fun x => x ≤ 15)
    && within 50 2000 c.ratedTorque
    && c.ringTypes.toList.all typeValid
    && c.ringTypes.toList.any fun t => t.toList.any fun e => 0 < e.count

/-- The machine stands with no ring armed and no position open (R3). -/
def constantsWritable (s : State) : Bool :=
  (s.modes.mode = .uncommissioned || s.modes.mode = .standstill)
    && s.stack.entries.isEmpty && s.ring.state = .idle

/-- The new record in force, the strokes, the mean and the torque ceiling brought into line (R4). -/
def installConstants (c : Constants) (s : State) : State :=
  updateTorque (updateMean
    { s with
      store := { s.store with constants := some c }
      groups := updateEach s.groups fun _ g => { g with lastStroke := min g.lastStroke c.strokeMax }
      account :=
        { s.account with
          prev := updateEach s.account.prev fun _ q =>
            q.map fun v => { v with stroke := min v.stroke c.strokeMax } } })

/-- The end of UNCOMMISSIONED: HALTED when a HALT-class condition is active, otherwise the mode the claims
give; the gate follows (R5, R128, R169). The MODE CHANGE carries COMMISSIONED in both cases (DESIGN CHOICE,
assumption 11). -/
def commission (s : State) : State :=
  updateGate (
    if (activeHalts s).isEmpty then deriveMode .commissioned s
    else enterMode .halted .commissioned { s with modes := s.modes.claimsAtHalt })

/-- CONSTANTS WRITE: the state is checked first, then the contents (R3, R4, R5). -/
def takeConstants (c : Constants) (s : State) : Handled :=
  if !constantsWritable s then stateRefusal 0 []
  else if !constantsValid c then .answer .range []
  else
    let t := installConstants c s
    .act (if s.modes.mode = .uncommissioned then commission t else t) .done []

/-- CONSTANTS WRITE (R3). -/
def execConstantsWrite (p : Port) (s : State) : Host.Outcome State Fault Refusal :=
  .next (request 25 [.cabin] true readConstants takeConstants p s)

/-! ## Profiles -/

/-- The contents of a profile that a write accepts: the ranges of R6 and the four cross-field rules of
R7. -/
def profileValid (p : Profile) : Bool :=
  within 1200 2800 p.density && within 100 250 p.unitWeight && p.faceTarget ≤ 800 && p.startBand ≤ 200
    && p.kp ≤ 10000 && p.ki ≤ 1000 && p.kf ≤ 2000 && within 10 300 p.screwMax
    && p.standstillCeiling ≤ p.screwMax && within 50 500 p.incrementLength
    && within 1000 1600 p.fillFactor
    && p.shares.toList.all (fun x => x ≤ 1000) && sumNat p.shares = 1000
    && p.pressureLimits.toList.all (fun x => x ≤ 1000)
    && within 1000 50000 p.maxDose && p.carryCap ≤ 200000
    && p.debtWarn ≤ 1000000 && p.debtStop ≤ 1000000 && p.debtWarn < p.debtStop
    && p.groutCeiling ≤ 120 && within 1 120 p.maxAdvance && within 1000 60000 p.thrustCeiling
    && within 100 1000 p.torqueFraction && within 500 1000 p.breakout && within 200 10000 p.jamTime
    && within 1 20 p.rockSpeed && within 1000 30000 p.rockTime && within 1 3 p.rockAttempts
    && within 10 300 p.penetrationLimit && within 50 500 p.shareWindow && within 500 20000 p.shareTime
    && within 1 8 p.minMotors && within 1 8 p.releaseBuild && p.releaseContinuous ≤ p.releaseBuild
    && within 60000 3600000 p.releaseTime && within 5000 120000 p.retractTime
    && p.buildClearance ≤ 2000 && p.strokeReserve ≤ 20000 && p.stopMargin ≤ 2000
    && p.spoilLag ≤ 8 && p.surplus ≤ 500 && p.deficit ≤ 500 && p.minExpected ≤ 100000

/-- A profile index is protected from writes: the active one, and the pending one (R7). -/
def profileProtected (t : Store) (n : Nat) : Bool :=
  n = t.active.val || t.pendingProfile.map (·.val) = some n

/-- PROFILE WRITE: the ACTIVE check first, then the ranges (R7). -/
def takeProfileWrite (a : Nat × Profile) (s : State) : Handled :=
  if profileProtected s.store a.1 then .answer .active []
  else if h : a.1 < 4 then
    if profileValid a.2 then
      .act { s with store := { s.store with profiles := s.store.profiles.set a.1 a.2 h } } .done []
    else .answer .range []
  else .answer .range []

/-- PROFILE WRITE (R7). -/
def execProfileWrite (p : Port) (s : State) : Host.Outcome State Fault Refusal :=
  .next (request 26 [.cabin] true readProfileWrite takeProfileWrite p s)

/-- PROFILE SELECT(n) (R8). -/
def takeProfileSelect (n : Nat) (s : State) : Handled :=
  if h : n < 4 then
    let r := selectProfile ⟨n, h⟩ s
    .act r.1 .done [.u8 r.2]
  else .answer .range []

/-- PROFILE SELECT (R8). -/
def execProfileSelect (p : Port) (s : State) : Host.Outcome State Fault Refusal :=
  .next (request 27 [.cabin] true readByte takeProfileSelect p s)

/-! ## Conditions and flags -/

/-- A subject fits a condition: absent, or in the range of the condition's subjects (R179). -/
def subjectFits (name : CondName) (subject : Option Nat) : Bool :=
  match subject, subjectCount name with
  | none, _ => true
  | some i, some n => i < n
  | some _, none => false

/-- An entry is named by an acknowledgement; an absent subject names every entry (R179). -/
def isNamed (name : CondName) (subject : Option Nat) (e : CondEntry) : Bool :=
  e.name = name && (subject = none || e.subject = subject)

/-- An entry acknowledged: its latched flag becomes no unless it is active (R179). -/
def CondEntry.acknowledged (now : Nat) (e : CondEntry) : CondEntry :=
  if e.latched ∧ e.active = false then { e with latched := false, changedAt := now } else e

/-- The acknowledgement of CUTTER_TRIP brings a TRIPPED cutterhead to STOPPED (R157, R179). -/
def clearTrip (name : CondName) (s : State) : State :=
  if name = .cutterTrip ∧ s.cutter.run = .tripped then evalConditions (enterRest .stopped s) else s

/-- The latches of the entries named cleared (R179). -/
def clearLatches (name : CondName) (subject : Option Nat) (s : State) : State :=
  { s with conds := s.conds.map fun e => if isNamed name subject e then e.acknowledged s.now else e }

/-- CONDITION ACK(identity, subject) (R179). -/
def takeAck (a : CondName × Option Nat) (s : State) : Handled :=
  if subjectFits a.1 a.2 then
    let t := clearLatches a.1 a.2 (clearTrip a.1 s)
    .act t .done
      (listFields (fun e => [yesNo e.active, yesNo e.latched]) (t.conds.filter (isNamed a.1 a.2)))
  else .answer .range []

/-- CONDITION ACK (R179). -/
def execConditionAck (p : Port) (s : State) : Host.Outcome State Fault Refusal :=
  .next (request 34 [.cabin] true readAck takeAck p s)

/-- FLAGS CLEAR (R59). -/
def takeFlagsClear (_ : Unit) (s : State) : Handled :=
  .act { s with stack := { s.stack with full := false, fullClass := none, underflow := false } } .done
    [yesNo s.stack.full, yesNo s.stack.underflow]

/-- FLAGS CLEAR (R59). -/
def execFlagsClear (p : Port) (s : State) : Host.Outcome State Fault Refusal :=
  .next (request 35 [.cabin] true readNothing takeFlagsClear p s)

/-! ## The halt -/

/-- OPERATOR_HALT's level set (R169, R170). -/
def setOperatorHalt (b : Bool) (s : State) : State := { s with modes := { s.modes with operatorHalt := b } }

/-- HALT (R169). -/
def takeHalt (_ : Unit) (s : State) : Handled :=
  let t := haltMachine (setOperatorHalt true s)
  .act t .done (.u8 t.modes.mode.code :: listFields keyFields (activeHalts t))

/-- HALT (R169). -/
def execHalt (p : Port) (s : State) : Host.Outcome State Fault Refusal :=
  .next (request 36 [.cabin] false readNothing takeHalt p s)

/-- A HALT-class condition other than OPERATOR_HALT is active (R170). -/
def otherHalt (s : State) : Bool := (activeHalts s).any fun k => k.1 ≠ .operatorHalt

/-- HALT CLEAR, its checks in order (R170). -/
def takeHaltClear (_ : Unit) (s : State) : Handled :=
  if s.modes.mode ≠ .halted then stateRefusal 17 []
  else if otherHalt s then stateRefusal 18 (listFields keyFields (activeHalts s))
  else
    let t := deriveMode .haltClear (setOperatorHalt false s)
    .act t .done [.u8 t.modes.mode.code]

/-- HALT CLEAR (R170). -/
def execHaltClear (p : Port) (s : State) : Host.Outcome State Fault Refusal :=
  .next (request 37 [.cabin] false readNothing takeHaltClear p s)

end Sys2Proof.Machine
end

