-- ==== Sys2Proof/Machine/Drive.lean ====
section
/-! DEFINITION. The requests of the Drive link on strokes, groups and the advance claim: STROKE REPORT,
RETRACT DONE, EXTEND DONE, GROUP FAULT, GROUP STATE, CLAIM ADVANCE, DROP ADVANCE (chapters 2, 3, 8). -/

namespace Sys2Proof.Machine

/-! ## STROKE REPORT -/

/-- A stroke clamped to 0 … stroke maximum (R18). -/
def clampedStroke (s : State) (v : Nat) : Nat := min v (constantsOf s).strokeMax

/-- The delta of a group that meets the first three conditions of R19. -/
def deltaOf (s : State) (a : StrokeArgs) (g : Fin 16) : Option Int :=
  match s.account.prev[g] with
  | some p =>
    if s.groups[g].state = .thrust ∧ a.flags[g] = true ∧ p.eligible = true then
      some ((clampedStroke s a.strokes[g] : Int) - p.stroke)
    else none
  | none => none

/-- A group's stroke is suspect: its delta lies outside −500 … 500 (R20). -/
def isSuspect (s : State) (a : StrokeArgs) (g : Fin 16) : Bool :=
  match deltaOf s a g with
  | some d => Config.deltaLimit < d.natAbs
  | none => false

/-- The deltas that count (R19). -/
def contributions (s : State) (a : StrokeArgs) : List Int :=
  (List.finRange 16).filterMap fun g =>
    (deltaOf s a g).filter fun d => d.natAbs ≤ Config.deltaLimit

/-- The report advance: the mean of the deltas, ties away from zero; 0 without a contributor (R21). -/
def reportAdvance (deltas : List Int) : Int :=
  if deltas.isEmpty then 0 else roundAway deltas.sum deltas.length

/-- A group's record after its stroke is classed (R18, R20). -/
def strokeRecord (s : State) (a : StrokeArgs) (g : Fin 16) (r : GroupRec) : GroupRec :=
  if a.flags[g] then
    { r with
      lastStroke := clampedStroke s a.strokes[g]
      validity := if isSuspect s a g then .suspect else .valid }
  else { r with validity := .invalid }

/-- A group's previous stroke after the report (R24). -/
def strokePrevious (s : State) (a : StrokeArgs) (g : Fin 16) : Option PrevStroke :=
  if a.flags[g] then
    some { stroke := clampedStroke s a.strokes[g]
           eligible := s.groups[g].state = .thrust && !isSuspect s a g }
  else none

/-- The backlash residue after a report advance of `d` (R22, R23). -/
def residueAfter (residue : Nat) (d : Int) : Nat :=
  if d < 0 then min (residue + d.natAbs) Config.deltaLimit else residue - d.toNat

/-- What a positive report advance leaves once the residue is paid off (R23). -/
def leftOfAdvance (residue : Nat) (d : Int) : Nat := d.toNat - residue

/-- Counted advance joins the accumulator, the cycle, the cumulative advance and the revolution in
progress (R23, R150). -/
def countAdvance (n : Nat) (s : State) : State :=
  { s with
    account :=
      { s.account with
        accumulator := s.account.accumulator + n
        cycle := { s.account.cycle with advance := satAdd s.account.cycle.advance n }
        totals := { s.account.totals with advance := s.account.totals.advance.add n } }
    cutter :=
      if s.cutter.run = .running ∧ s.cutter.indexRef.isSome then
        { s.cutter with revAdvance := min (s.cutter.revAdvance + n) 65535 }
      else s.cutter }

/-- How many increments lie between two counters (R25). -/
def closedBetween (before after : Nat) : Nat :=
  if before ≤ after then after - before else after + Config.lastIncrement - before

/-- A taken STROKE REPORT, in the order of R17. -/
def takeStrokes (a : StrokeArgs) (s : State) : Handled :=
  let deltas := contributions s a
  let d := reportAdvance deltas
  let left := leftOfAdvance s.account.residue d
  let counts := advancing s.modes.mode
  let counted := if counts then left else 0
  let previous : Vector (Option PrevStroke) 16 := Vector.ofFn (strokePrevious s a)
  let t := { s with
    groups := updateEach s.groups (strokeRecord s a)
    account := { s.account with residue := residueAfter s.account.residue d } }
  let t := countAdvance counted t
  let t := closeAndTest t.account.accumulator t
  let t := updateMean { t with account := { t.account with prev := previous } }
  .act t .done
    [.u8 deltas.length, .i16 d, .u16 counted, .u16 (left - counted),
     .u8 (closedBetween s.account.counter t.account.counter), .u16 t.account.accumulator,
     .u16 t.account.residue]

/-- STROKE REPORT (R17). -/
def execStrokeReport (p : Port) (s : State) : Host.Outcome State Fault Refusal :=
  .next (request 1 [.drive] false readStrokes takeStrokes p s)

/-! ## Confirmations -/

/-- The STALE answer: the group's state and transition number (R51, R52). -/
def stale (g : GroupRec) : Handled := .answer .stale [.u8 g.state.code, .u8 g.transition]

/-- The group a request names, or the RANGE refusal (R51, R52, R55, R56). -/
def withGroup (g : Nat) (act : Fin 16 → Handled) : Handled :=
  if h : g < 16 then act ⟨g, h⟩ else .answer .range []

/-- The entries whose cover contains a group (R46). -/
def entryHas (g : Fin 16) (e : StackEntry) : Bool := e.cover.contains g

/-- RETRACT DONE(g, n) (R51). -/
def takeRetractDone (a : Nat × Nat) (s : State) : Handled :=
  withGroup a.1 fun g =>
    let r := s.groups[g]
    if r.state = .retracting ∧ r.transition = a.2 then
      .act (grantEntries (entryHas g) (setGroup g (r.enter .released s.now) s)) .done
        [.u8 GroupState.released.code]
    else stale r

/-- RETRACT DONE (R51). -/
def execRetractDone (p : Port) (s : State) : Host.Outcome State Fault Refusal :=
  .next (request 3 [.drive] false readConfirmation takeRetractDone p s)

/-- EXTEND DONE(g, n) (R52, R63). -/
def takeExtendDone (a : Nat × Nat) (s : State) : Handled :=
  withGroup a.1 fun g =>
    let r := s.groups[g]
    if r.state = .returning ∧ r.transition = a.2 then
      .act (ringTest (updateMean (setGroup g (r.enter .thrust s.now) s))) .done
        [.u8 GroupState.thrust.code]
    else stale r

/-- EXTEND DONE (R52). -/
def execExtendDone (p : Port) (s : State) : Host.Outcome State Fault Refusal :=
  .next (request 4 [.drive] false readConfirmation takeExtendDone p s)

/-- The ring builder's test when a group has left the state `x` for it: RETURNING or UNCERTAIN (R63, R85,
R89). -/
def ringTestAfter (x : GroupState) (s : State) : State :=
  if x = .returning ∨ x = .uncertain then ringTest s else s

/-- GROUP FAULT(g) (R55). -/
def takeGroupFault (n : Nat) (s : State) : Handled :=
  withGroup n fun g =>
    let r := s.groups[g]
    if r.state = .lockedOut then .answer .done [.u8 r.state.code]
    else
      .act (ringTestAfter r.state (updateMean (setGroup g (r.enter .lockedOut s.now) s))) .done
        [.u8 r.state.code]

/-- GROUP FAULT (R55). -/
def execGroupFault (p : Port) (s : State) : Host.Outcome State Fault Refusal :=
  .next (request 5 [.drive] false readByte takeGroupFault p s)

/-- A resolved group's record (the table of R56). -/
def GroupRec.resolved (r : GroupRec) (at_ : GroupPosition) (now : Nat) : GroupRec :=
  match at_, decide (r.holdCount = 0) with
  | .extended, true => r.enter .thrust now
  | .extended, false => r.ordered .retracting now
  | .retracted, false => r.enter .released now
  | .retracted, true => r.ordered .returning now

/-- What follows a resolution: its order, or the grants it makes possible (R56). -/
def afterResolution (g : Fin 16) (s : State) : State :=
  match s.groups[g].state with
  | .retracting => sendRetract [g] none s
  | .returning => sendExtend [g] none s
  | .released => grantEntries (entryHas g) s
  | .thrust | .lockedOut | .uncertain => s

/-- The transition number a GROUP STATE response carries: present where an order was issued (R56). -/
def orderNumber (r : GroupRec) : Option Nat :=
  if r.state = .retracting ∨ r.state = .returning then some r.transition else none

/-- GROUP STATE(g, position) (R56). -/
def takeGroupState (a : Nat × GroupPosition) (s : State) : Handled :=
  withGroup a.1 fun g =>
    let r := s.groups[g]
    if r.state = .uncertain ∨ r.state = .lockedOut then
      let r' := r.resolved a.2 s.now
      .act (ringTestAfter r.state (afterResolution g (updateMean (setGroup g r' s)))) .done
        (.u8 r'.state.code :: optU8 (orderNumber r'))
    else stateRefusal 0 []

/-- GROUP STATE (R56). -/
def execGroupState (p : Port) (s : State) : Host.Outcome State Fault Refusal :=
  .next (request 6 [.drive] false readGroupState takeGroupState p s)

/-! ## The advance claim -/

/-- What a claim becomes beside the other one (R164, R165). -/
def claimBeside (other : Claim) (together : Bool) : Claim :=
  if other = .held ∧ together = false then .pending else .held

/-- The answer to a claim (R164, R165). -/
def claimFields (c : Claim) (m : Mode) : List Field := [.u8 c.code, .u8 m.code]

/-- The answer to a drop (R166). -/
def dropFields (m : ModeUnit) : List Field := [.u8 m.advance.code, .u8 m.build.code, .u8 m.mode.code]

/-- CLAIM ADVANCE, its checks in order (R164). -/
def takeClaimAdvance (_ : Unit) (s : State) : Handled :=
  if s.modes.mode = .halted then stateRefusal 14 []
  else if s.modes.advance ≠ .absent then .answer .done (claimFields s.modes.advance s.modes.mode)
  else if s.stack.entries ≠ [] ∧ s.modes.build ≠ .held then stateRefusal 15 []
  else
    let t := claimsChanged .claim
      { s with modes := { s.modes with advance := claimBeside s.modes.build (mayStandTogether s) } }
    .act t .done (claimFields t.modes.advance t.modes.mode)

/-- CLAIM ADVANCE (R164). -/
def execClaimAdvance (p : Port) (s : State) : Host.Outcome State Fault Refusal :=
  .next (request 7 [.drive] false readNothing takeClaimAdvance p s)

/-- The other claim once one is dropped: a PENDING one is granted (R166). -/
def Claim.granted (c : Claim) : Claim := if c = .pending then .held else c

/-- DROP ADVANCE (R166). -/
def takeDropAdvance (_ : Unit) (s : State) : Handled :=
  match s.modes.advance with
  | .absent => .answer .done (dropFields s.modes)
  | .pending =>
    let t := { s with modes := { s.modes with advance := .absent } }
    .act t .done (dropFields t.modes)
  | .held =>
    let t := claimsChanged .drop
      { s with modes := { s.modes with advance := .absent, build := s.modes.build.granted } }
    .act t .done (dropFields t.modes)

/-- DROP ADVANCE (R166). -/
def execDropAdvance (p : Port) (s : State) : Host.Outcome State Fault Refusal :=
  .next (request 8 [.drive] false readNothing takeDropAdvance p s)

end Sys2Proof.Machine
end

