-- ==== Sys2Proof/Machine/Erector.lean ====
section
/-! DEFINITION. The requests of the Erector link: CLAIM BUILD, DROP BUILD, RING ARM, SEGMENT OPEN, SEGMENT
PLACED, SEGMENT CLOSE, RING ABORT (chapters 3, 4, 8). -/

namespace Sys2Proof.Machine

/-! ## The build claim -/

/-- What a build claim becomes beside the advance claim (R165). -/
def buildClaimBeside (advance : Claim) (together : Bool) : Claim :=
  if advance = .held ∧ together = false then .pending else .held

/-- CLAIM BUILD (R165). -/
def takeClaimBuild (_ : Unit) (s : State) : Handled :=
  if s.modes.build ≠ .absent then .answer .done [.u8 s.modes.build.code, .u8 s.modes.mode.code]
  else
    let t := claimsChanged .claim
      { s with modes := { s.modes with build := buildClaimBeside s.modes.advance (mayStandTogether s) } }
    .act t .done [.u8 t.modes.build.code, .u8 t.modes.mode.code]

/-- CLAIM BUILD (R165). -/
def execClaimBuild (p : Port) (s : State) : Host.Outcome State Fault Refusal :=
  .next (request 14 [.erector] false readNothing takeClaimBuild p s)

/-- A build is in progress: the stack holds an entry or the ring record is BUILDING, CLOSING or ABORTING
(R166). -/
def buildInProgress (s : State) : Bool :=
  !s.stack.entries.isEmpty ||
    (s.ring.state = .building || s.ring.state = .closing || s.ring.state = .aborting)

/-- The fields of a DROP BUILD response (R166). -/
def dropBuildFields (m : ModeUnit) : List Field := [.u8 m.advance.code, .u8 m.build.code, .u8 m.mode.code]

/-- DROP BUILD (R166). -/
def takeDropBuild (_ : Unit) (s : State) : Handled :=
  match s.modes.build with
  | .absent => .answer .done (dropBuildFields s.modes)
  | .pending =>
    let t := { s with modes := { s.modes with build := .absent } }
    .act t .done (dropBuildFields t.modes)
  | .held =>
    if buildInProgress s then stateRefusal 16 [.u8 s.stack.entries.length, .u8 s.ring.state.code]
    else
      let advance := if s.modes.advance = .pending then .held else s.modes.advance
      let t := claimsChanged .drop { s with modes := { s.modes with build := .absent, advance } }
      .act t .done (dropBuildFields t.modes)

/-- DROP BUILD (R166). -/
def execDropBuild (p : Port) (s : State) : Host.Outcome State Fault Refusal :=
  .next (request 15 [.erector] false readNothing takeDropBuild p s)

/-! ## RING ARM -/

/-- The ring record armed from a plan row (R72). -/
def RingRec.armed (r : RingRec) (c : Constants) (row : PlanRow) : RingRec :=
  { r with
    state := .armed, row := some row, covers := some (coversOf c row.ringType row.keySector)
    queue := placementOrder row.start, setList := [], skips := Vector.replicate 7 0 }

/-- The selection that a row's profile index raises, with the status it is answered with (R8, R72). -/
def raiseSelection (index : Option Nat) (s : State) : State × Option Nat :=
  match index with
  | none => (s, none)
  | some n => let (t, status) := selectProfile (Fin.ofNat 4 n) s; (t, some status)

/-- The seven covers, positions ascending. -/
def coverFields (covers : Vector (List (Fin 16)) 7) : List Field := covers.toList.flatMap groupList

/-- RING ARM(n), its checks in order (R71, R72). -/
def takeRingArm (n : Nat) (s : State) : Handled :=
  if s.ring.state ≠ .idle then stateRefusal 0 []
  else if n ≠ s.ring.number then .answer .range [.u16 s.ring.number]
  else if n = Config.lastRing then .answer .range []
  else if s.plan.status = .erasing then .answer .busy []
  else
    match rowOfRing s.plan n with
    | none => .answer .noPlan []
    | some row =>
      if typeDefined (constantsOf s) row.ringType then
        let ring := s.ring.armed (constantsOf s) row
        let (t, status) := raiseSelection row.profile (announceRing .arm { s with ring })
        .act t .done
          ([.u16 n] ++ positionList ring.queue
            ++ coverFields (coversOf (constantsOf s) row.ringType row.keySector) ++ optU8 status)
      else .answer .noPlan []

/-- RING ARM (R71). -/
def execRingArm (p : Port) (s : State) : Host.Outcome State Fault Refusal :=
  .next (request 16 [.erector] false readWord takeRingArm p s)

/-! ## SEGMENT OPEN -/

/-- The advance that the first open of a build requires (R76). -/
def advanceRequired (s : State) : Nat := (constantsOf s).ringWidth + (activeProfile s).buildClearance

/-- The ring-ready check (R76). -/
def ringReady (s : State) : Bool := advanceRequired s ≤ s.account.cycle.advance

/-- The stroke reserve check (R77). -/
def reserveLeft (s : State) : Bool :=
  match s.account.thrustMean with
  | some m => m + (activeProfile s).strokeReserve ≤ (constantsOf s).strokeMax
  | none => false

/-- The set list holds the six ordinary positions (R75, step 6). -/
def ordinariesSet (r : RingRec) : Bool := [0, 1, 2, 3, 4, 5].all fun p : Fin 7 => r.setList.contains p

/-- The checks of the ring builder, in order (R75). The advance required and the THRUST mean stroke have no stated
range and take 8 bytes (R206; assumption 14). -/
def builderRefusal (p : Fin 7) (s : State) : Option Handled :=
  if s.ring.state ≠ .armed ∧ s.ring.state ≠ .building then some (stateRefusal 0 [])
  else if s.modes.build ≠ .held then some (stateRefusal 0 [])
  else if s.permits.build.allowed = false then some (stateRefusal 0 [])
  else if s.ring.queue.head? ≠ some p then
    some (.answer .order (optU8 (s.ring.queue.head?.map (·.val))))
  else if p = 6 ∧ ordinariesSet s.ring = false then some (.answer .order [])
  else if s.ring.state = .armed ∧ ringReady s = false then
    some (stateRefusal 0 [.u64 s.account.cycle.advance, .u64 (advanceRequired s)])
  else if s.ring.state = .armed ∧ s.modes.mode = .continuous ∧ reserveLeft s = false then
    some (stateRefusal 0 (optU64 s.account.thrustMean ++ [.u16 (activeProfile s).strokeReserve]))
  else none

/-- The class the stack-full flag takes at a refusal (R58). -/
def fullClassAfter (k : ReleaseStack) (policy : StackPolicy) : Option CondClass :=
  match policy with
  | .halt => some .halt
  | .refuse => if k.full then k.fullClass else some .limit

/-- The effects of a STACK_FULL refusal (R58). -/
def refuseFull (s : State) : State :=
  let cls := fullClassAfter s.stack (activeProfile s).stackPolicy
  let t := { s with stack := { s.stack with full := true, fullClass := cls } }
  if cls = some .halt then haltMachine t else t

/-- The oldest overtime entry: the lowest in the stack (R47, R61). -/
def oldestOvertime (k : ReleaseStack) : Option StackEntry := (k.entries.filter (·.overtime)).getLast?

/-- A cover holds a group that is UNCERTAIN or LOCKED_OUT (R47, step 2). -/
def coverBlocked (s : State) (c : List (Fin 16)) : Bool :=
  c.any fun g => s.groups[g].state = .uncertain || s.groups[g].state = .lockedOut

/-- The checks of the release stack, in order (R47). The LIMIT refusal of step 4 carries the whole count of R48,
LOCKED_OUT groups that are not held included (DESIGN CHOICE, assumption 34), in 8 bytes: no rule states its range
(R206; assumption 14). -/
def stackRefusal (p : Fin 7) (s : State) : Option Handled :=
  let cover := ringCover s.ring p
  if 3 ≤ s.stack.entries.length then some (.act (refuseFull s) .stackFull [])
  else if coverBlocked s cover then some (stateRefusal 0 [])
  else
    match oldestOvertime s.stack with
    | some e => some (.answer .limit [.u8 e.position.val])
    | none =>
      if releaseLimit s < countAfterOpen s cover then
        some (.answer .limit [.u64 (countAfterOpen s cover), .u8 (releaseLimit s)])
      else none

/-- The ring record after an open: the head has left the queue, and the first open makes it BUILDING
(R78, R84). -/
def RingRec.opened (r : RingRec) : RingRec :=
  { r with
    queue := r.queue.tail
    state := if r.state = .armed then .building else r.state
    failed := r.failed && !(r.state = .armed) }

/-- The RING STATE of a first open (R78). -/
def announceFirst (was : RingState) (s : State) : State :=
  if was = .armed then announceRing .firstOpen s else s

/-- A taken SEGMENT OPEN: the push, the ring record, and what follows a change of the held groups (R49,
R63, R78). -/
def openPosition (p : Fin 7) (s : State) : State :=
  let t := pushEntry p s
  let t := announceFirst s.ring.state { t with ring := t.ring.opened }
  heldChanged (heldGroups s) (updateMean t)

/-- The state of the top entry, as a response gives it. -/
def topState (k : ReleaseStack) : Nat := (k.entries.head?.map (·.state.code)).getD 0

/-- SEGMENT OPEN(p) (R47, R75, R78). No rule states the range of the held groups, which take
8 bytes (R206; assumption 14). -/
def takeSegmentOpen (n : Nat) (s : State) : Handled :=
  if n < 7 then
    let p : Fin 7 := Fin.ofNat 7 n
    match builderRefusal p s with
    | some r => r
    | none =>
      match stackRefusal p s with
      | some r => r
      | none =>
        let t := openPosition p s
        .act t .done
          ([.u8 (topState t.stack), .u8 t.stack.entries.length, .u64 (heldGroups t)]
            ++ positionList t.ring.queue)
  else .answer .range []

/-- SEGMENT OPEN (R75). -/
def execSegmentOpen (p : Port) (s : State) : Host.Outcome State Fault Refusal :=
  .next (request 17 [.erector] false readByte takeSegmentOpen p s)

/-! ## SEGMENT PLACED and SEGMENT CLOSE -/

/-- The top entry PLACED (R79). -/
def placeTop (s : State) : State :=
  { s with stack :=
      { s.stack with
        entries :=
          match s.stack.entries with
          | e :: rest => { e with state := .placed } :: rest
          | [] => [] } }

/-- SEGMENT PLACED(p), its checks in order (R79). -/
def takeSegmentPlaced (n : Nat) (s : State) : Handled :=
  if 6 < n then .answer .range []
  else
    match s.stack.entries with
    | [] => .answer .stackEmpty []
    | e :: _ =>
      if n ≠ e.position.val then .answer .order [.u8 e.position.val]
      else
        match e.state with
        | .opening => stateRefusal 0 []
        | .placed => .answer .done []
        | .opened => .act (placeTop s) .done []

/-- SEGMENT PLACED (R79). -/
def execSegmentPlaced (p : Port) (s : State) : Host.Outcome State Fault Refusal :=
  .next (request 18 [.erector] false readByte takeSegmentPlaced p s)

/-- A position returned to the queue: the key to its end, any other just ahead of the key (R82). -/
def returnToQueue (p : Fin 7) (queue : List (Fin 7)) : List (Fin 7) :=
  if p = 6 then queue ++ [6]
  else queue.takeWhile (· ≠ 6) ++ p :: queue.dropWhile (· ≠ 6)

/-- A close SET (R81). -/
def closeSet (p : Fin 7) (s : State) : State :=
  let ring := { s.ring with setList := s.ring.setList ++ [p] }
  if p = 6 then
    ringTest (announceRing .keySet (popEntry { s with ring := { ring with state := .closing } }))
  else popEntry { s with ring }

/-- A close NOT SET: the first two return the position to the queue (R82), the third gives the build up
(R83). -/
def closeNotSet (p : Fin 7) (s : State) : State :=
  if s.ring.skips[p] < 2 then
    popEntry { s with ring :=
      { s.ring with
        skips := s.ring.skips.set p.val (s.ring.skips[p] + 1) p.isLt
        queue := returnToQueue p s.ring.queue } }
  else
    let t := popEntry s
    abortRing .ringFailed { t with ring := { t.ring with failed := true } }

/-- The code of a close's outcome (R80). -/
def CloseOutcome.code : CloseOutcome → Nat
  | .set => 0
  | .notSet => 1

/-- The fields of a SEGMENT CLOSE response (R80). -/
def closeFields (p : Fin 7) (o : CloseOutcome) (r : RingRec) : List Field :=
  [.u8 o.code, .u8 r.state.code, .u8 r.skips[p]] ++ positionList r.queue ++ positionList r.setList

/-- SEGMENT CLOSE(p, outcome), its checks in order (R54, R80). The ring state in the response is the one after
the close, also where a third NOT SET finds its abort complete at once (DESIGN CHOICE, assumption 35). -/
def takeSegmentClose (a : Nat × CloseOutcome) (s : State) : Handled :=
  if 6 < a.1 then .answer .range []
  else
    match s.stack.entries with
    | [] => .act { s with stack := { s.stack with underflow := true } } .stackEmpty []
    | e :: _ =>
      if a.1 ≠ e.position.val then .answer .order [.u8 e.position.val]
      else
        match a.2 with
        | .set =>
          if e.state = .placed then
            let t := closeSet e.position s
            .act t .done (closeFields e.position .set t.ring)
          else stateRefusal 0 []
        | .notSet =>
          let t := closeNotSet e.position s
          .act t .done (closeFields e.position .notSet t.ring)

/-- SEGMENT CLOSE (R80). -/
def execSegmentClose (p : Port) (s : State) : Host.Outcome State Fault Refusal :=
  .next (request 19 [.erector] false readSegmentClose takeSegmentClose p s)

/-! ## RING ABORT -/

/-- RING ABORT, by ring state (R87). -/
def takeRingAbort (_ : Unit) (s : State) : Handled :=
  match s.ring.state with
  | .idle => stateRefusal 0 []
  | .armed =>
    .act (announceRing .abort { s with ring := RingRec.cleared s.ring.number }) .done
      [.u8 RingState.idle.code]
  | .building | .closing =>
    let t := abortRing .abort s
    .act t .done [.u8 t.ring.state.code]
  | .aborting => .answer .done [.u8 RingState.aborting.code]

/-- RING ABORT (R87). -/
def execRingAbort (p : Port) (s : State) : Host.Outcome State Fault Refusal :=
  .next (request 20 [.erector, .cabin] false readNothing takeRingAbort p s)

end Sys2Proof.Machine
end

