-- ==== Sys2Proof/Machine/Grouting.lean ====
section
/-! DEFINITION. The requests of the Grout link: DOSE TAKE, DOSE CLOSE, LINE STATE (chapter 5). -/

namespace Sys2Proof.Machine

/-- The line a request names, or the RANGE refusal (R101, R106). -/
def withLine (n : Nat) (act : Fin 6 → Handled) : Handled :=
  if h : n < 6 then act ⟨n, h⟩ else .answer .range []

/-- One line's record replaced. -/
def Grout.setLine (g : Grout) (i : Fin 6) (l : Line) : Grout :=
  { g with lines := g.lines.set i.val l i.isLt }

/-- The TAKEN descriptor of a line (R101: at most one). -/
def Line.taken (l : Line) : Option Dose := (l.descriptors.find? Descriptor.isTaken).map (·.dose)

/-- The oldest POSTED descriptor of a line (R101). -/
def Line.oldestPosted (l : Line) : Option Dose := (l.descriptors.find? Descriptor.isPosted).map (·.dose)

/-- The descriptors after the first of which `which` holds has changed its state. -/
def changeFirst (which : Descriptor → Bool) (x : DoseState) : List Descriptor → List Descriptor
  | [] => []
  | d :: rest => if which d then { d with state := x } :: rest else d :: changeFirst which x rest

/-- A line after its oldest POSTED descriptor is TAKEN (R101). -/
def Line.take (l : Line) : Line :=
  { l with descriptors := changeFirst Descriptor.isPosted .taken l.descriptors }

/-- DOSE TAKE(line), its checks in order (R101). No rule states the range of the number of POSTED descriptors left,
which takes 8 bytes (R206; assumption 14). -/
def takeDose (n : Nat) (s : State) : Handled :=
  withLine n fun i =>
    let l := s.grout.lines[i]
    if s.permits.grout.allowed = false then stateRefusal 1 []
    else if l.service ≠ .inService then stateRefusal 2 []
    else
      match l.taken with
      | some d => .answer .busy [.u8 d.sequence]
      | none =>
        match l.oldestPosted with
        | none => stateRefusal 3 []
        | some d =>
          .act { s with grout := s.grout.setLine i l.take } .done
            [.u8 d.sequence, .u32 d.increment, .u16 d.target, .u16 d.limit, .u64 l.take.postedNumbers.length]

/-- DOSE TAKE (R101). -/
def execDoseTake (p : Port) (s : State) : Host.Outcome State Fault Refusal :=
  .next (request 21 [.grout] false readByte takeDose p s)

/-- What a movement of grout leaves: the unit, the portions given to lines, the part given to the pool and
the descriptors cancelled (R102, R106). -/
structure Moved where
  grout     : Grout
  portions  : Vector Int 6
  pool      : Int
  cancelled : List Nat
  deriving DecidableEq, Repr

/-- Nothing moved: a response then carries six portions of 0 and 0 for the pool (DESIGN CHOICE, assumption
25). -/
def Moved.still (g : Grout) : Moved :=
  { grout := g, portions := Vector.replicate 6 0, pool := 0, cancelled := [] }

/-- A spread's outcome (R97). -/
def Moved.spread (x : Grout × Vector Int 6 × Int) : Moved :=
  { grout := x.1, portions := x.2.1, pool := x.2.2, cancelled := [] }

/-- An amount reaches a line's own carry; on a line that is not IN_SERVICE it is moved on (R102, R110). -/
def ontoCarry (p : Profile) (i : Fin 6) (a : Int) (g : Grout) : Moved :=
  let l := g.lines[i]
  let g := g.setLine i { l with carry := l.carry + a }
  if l.service = .inService then .still g else .spread (moveCarry p i g)

/-- A line leaves IN_SERVICE for the state `x` (R109). -/
def withdrawLine (p : Profile) (i : Fin 6) (x : Service) (g : Grout) : Moved :=
  { Moved.spread (leaveService p i x g) with cancelled := g.lines[i].postedNumbers }

/-- A line that FAULTs with a difference becomes BLOCKED (R104). -/
def faultLine (p : Profile) (i : Fin 6) (a : Int) (g : Grout) : Moved :=
  let l := { g.lines[i] with carry := g.lines[i].carry + a }
  if l.service = .inService then withdrawLine p i .blocked (g.setLine i l)
  else .spread (moveCarry p i (g.setLine i { l with service := .blocked }))

/-- The difference of a close dealt with by its outcome (R102, R103, R104). -/
def settle (p : Profile) (i : Fin 6) (a : Int) (o : DoseOutcome) (g : Grout) : Moved :=
  match o with
  | .full => ontoCarry p i a g
  | .pressureLimit => if 0 < a then .spread (spreadOver p i a g) else ontoCarry p i a g
  | .fault => faultLine p i a g

/-- A line after its TAKEN descriptor is CLOSED (R102, R105). -/
def Line.close (l : Line) (a : DoseCloseArgs) : Line :=
  { l with
    injected := satAdd l.injected a.actual
    descriptors := changeFirst Descriptor.isTaken (.closed a.actual a.peak a.outcome) l.descriptors }

/-- The actual of a close in the advance account (R105). -/
def countInjected (n : Nat) (a : Account) : Account :=
  { a with
    cycle := { a.cycle with injected := satAdd a.cycle.injected n }
    totals := { a.totals with injected := a.totals.injected.add n } }

/-- The portions of a spread as a response gives them: six lines, then the pool (assumption 25). -/
def Moved.fields (m : Moved) : List Field :=
  m.portions.toList.map .i64 ++ [.i64 m.pool]

/-- The sequence numbers of cancelled descriptors. -/
def Moved.cancelledFields (m : Moved) : List Field := listFields (fun n => [.u8 n]) m.cancelled

/-- A DOSE CLOSE's values lie outside their ranges (R102, step 1). -/
def closeOutOfRange (a : DoseCloseArgs) : Bool := 100000 < a.actual || 2000 < a.peak

/-- A taken DOSE CLOSE on line `i` of a dose with target `target`; the debt is evaluated (R102 to R105, R111). -/
def closeDose (i : Fin 6) (target : Nat) (a : DoseCloseArgs) (s : State) : Handled :=
  let difference : Int := (target : Int) - a.actual
  let moved := settle (activeProfile s) i difference a.outcome
    (s.grout.setLine i (s.grout.lines[i].close a))
  let t := { s with grout := { moved.grout with judged := true }, account := countInjected a.actual s.account }
  .act t .done
    ([.u8 a.outcome.code, .i64 difference, .i64 t.grout.lines[i].carry] ++ moved.fields
      ++ moved.cancelledFields ++ [.u8 t.grout.lines[i].service.code, .i64 (debtOf t.grout)])

/-- DOSE CLOSE(line, sequence, actual, peak, outcome), its checks in order (R102). -/
def takeDoseClose (a : DoseCloseArgs) (s : State) : Handled :=
  withLine a.line fun i =>
    if closeOutOfRange a then .answer .range []
    else
      match s.grout.lines[i].taken with
      | none => stateRefusal 0 []
      | some d =>
        if a.sequence ≠ d.sequence then .answer .sequence [.u8 d.sequence]
        else closeDose i d.target a s

/-- DOSE CLOSE (R102). -/
def execDoseClose (p : Port) (s : State) : Host.Outcome State Fault Refusal :=
  .next (request 22 [.grout] false readDoseClose takeDoseClose p s)

/-! ## LINE STATE -/

/-- A descriptor's fields, each present or absent as its state has them (R95, assumption 15). -/
def descriptorFields (d : Option Descriptor) : List Field :=
  let state := match d with
    | none => 0
    | some d => match d.state with
      | .posted => 1
      | .taken => 2
      | .closed _ _ _ => 3
  let dose := d.map (·.dose)
  let result : Option (Nat × Nat × DoseOutcome) := match d with
    | some { state := .closed actual peak outcome, .. } => some (actual, peak, outcome)
    | _ => none
  [.u8 state] ++ optU8 (dose.map (·.sequence)) ++ optU32 (dose.map (·.increment))
    ++ optU16 (dose.map (·.target)) ++ optU16 (dose.map (·.limit))
    ++ optU32 (result.map (·.1)) ++ optU16 (result.map (·.2.1)) ++ optU8 (result.map (·.2.2.code))

/-- The four descriptors of a line: those that are not FREE in sequence order, then the FREE ones (R95,
assumption 24). -/
def Line.descriptorFields (l : Line) : List Field :=
  (List.range 4).flatMap fun k => Machine.descriptorFields l.descriptors[k]?

/-- A line record whole, with its sector (R94, assumption 15). -/
def Line.fields (l : Line) (sector : Nat) : List Field :=
  [.u8 l.service.code, .u8 l.capacity.code, .i64 l.carry, .u8 l.nextSequence, .u64 l.injected]
    ++ l.descriptorFields ++ [.u8 sector]

/-- The effect of a LINE STATE on a line whose capacity class is already set (the table of R106). -/
def changeService (p : Profile) (i : Fin 6) (x : Service) (g : Grout) : Moved :=
  let l := g.lines[i]
  if l.service = .inService ∧ x ≠ .inService then withdrawLine p i x g
  else .still (g.setLine i { l with service := x })

/-- LINE STATE(line, service, capacity) (R106). -/
def takeLineState (a : LineStateArgs) (s : State) : Handled :=
  withLine a.line fun i =>
    let moved := changeService (activeProfile s) i a.service
      (s.grout.setLine i { s.grout.lines[i] with capacity := a.capacity })
    .act { s with grout := moved.grout } .done
      (moved.grout.lines[i].fields (constantsOf s).lineSectors[i] ++ moved.cancelledFields ++ moved.fields)

/-- LINE STATE (R106). -/
def execLineState (p : Port) (s : State) : Host.Outcome State Fault Refusal :=
  .next (request 23 [.grout] false readLineState takeLineState p s)

end Sys2Proof.Machine
end

