-- ==== Sys2Proof/Machine/Reading.lean ====
section
/-! DEFINITION. READ: the fields of every record it can name (R41, R67, R93, R116, R136, R162, R183, R195,
R196, R201). -/

namespace Sys2Proof.Machine

/-- Selector 1 (R201): a link's state is ACTIVE 0 or SILENT 1, in the order of R196. -/
def linkFields (s : State) : List Field :=
  s.links.toList.flatMap fun l =>
    [.u8 (if l.active then 0 else 1), yesNo l.ever] ++ optU64 l.lastFrame ++ [.u8 l.requests.length]

/-- An entry of the ring type table (R2, R206). -/
def TypeEntry.fields (e : TypeEntry) : List Field := [.u8 e.offset, .u8 e.count]

/-- The machine constants in the order of R2. -/
def constantsFields (c : Constants) : List Field :=
  [.u32 c.excavationArea, .u32 c.tailVoidArea, .u16 c.ringWidth, .u16 c.strokeMax]
    ++ c.heights.toList.map .i16 ++ c.lineSectors.toList.map .u8 ++ [.u16 c.ratedTorque]
    ++ c.ringTypes.toList.flatMap fun t => t.toList.flatMap TypeEntry.fields

/-- Selector 2: the constants, or absent while UNCOMMISSIONED (R201). -/
def optConstantsFields (c : Option Constants) : List Field :=
  yesNo c.isSome :: constantsFields (c.getD Constants.none)

/-- Selector 3 (R201). -/
def storeFields (t : Store) : List Field := .u8 t.active.val :: optU8 (t.pendingProfile.map (·.val))

/-- The code of a stack-full policy (R6). -/
def StackPolicy.code : StackPolicy → Nat
  | .refuse => 0
  | .halt => 1

/-- Selector 4: a profile in the order of R6. -/
def profileFields (p : Profile) : List Field :=
  [.u16 p.density, .u8 p.unitWeight, .u16 p.faceTarget, .u8 p.startBand, .u16 p.kp, .u16 p.ki, .u16 p.kf,
   .u16 p.screwMax, .u16 p.standstillCeiling, .u16 p.incrementLength, .u16 p.fillFactor]
    ++ p.shares.toList.map .u16 ++ p.pressureLimits.toList.map .u16
    ++ [.u16 p.maxDose, .u32 p.carryCap, .u32 p.debtWarn, .u32 p.debtStop, .u8 p.groutCeiling, .u8 p.maxAdvance,
        .u16 p.thrustCeiling, .u16 p.torqueFraction, .u16 p.breakout, .u16 p.jamTime, .u8 p.rockSpeed,
        .u16 p.rockTime, .u8 p.rockAttempts, .u16 p.penetrationLimit, .u16 p.shareWindow, .u16 p.shareTime,
        .u8 p.minMotors, .u8 p.releaseBuild, .u8 p.releaseContinuous, yesNo p.continuousAllowed,
        .u8 (StackPolicy.code p.stackPolicy), .u32 p.releaseTime, .u32 p.retractTime, .u16 p.buildClearance,
        .u16 p.strokeReserve, .u16 p.stopMargin, .u8 p.spoilLag, .u16 p.surplus, .u16 p.deficit, .u32 p.minExpected]

/-- The totals of a cycle (R33). -/
def Cycle.fields (c : Cycle) : List Field :=
  [.u64 c.advance, .u64 c.increments, .u64 c.volume, .u64 c.tailVoid, .u64 c.required, .u64 c.injected,
   .u64 c.expected, .u64 c.measured] ++ optU8 (c.verdict.map Verdict.code) ++ optU64 c.lagged

/-- A cumulative total with its saturated mark (R35). -/
def Total.fields (t : Total) : List Field := [.u64 t.value, yesNo t.saturated]

/-- The cumulative totals (R16, R35). -/
def Totals.fields (t : Totals) : List Field :=
  t.advance.fields ++ t.volume.fields ++ t.tailVoid.fields ++ t.required.fields ++ t.injected.fields

/-- Selector 5 (R41). No rule states the range of the THRUST mean stroke, which takes 8 bytes (R206; assumption 14). -/
def accountFields (a : Account) : List Field :=
  [.u16 a.accumulator, .u16 a.residue, .u8 a.remVolume, .u8 a.remTail, .u16 a.remGrout, .u32 a.remMass,
   .u32 a.counter, .u16 a.speed] ++ optU64 a.thrustMean ++ a.cycle.fields ++ a.totals.fields

/-- An increment record (R25). -/
def IncrementRec.fields (r : IncrementRec) : List Field :=
  [.u32 r.number, .u64 r.time, .u16 r.length, .u64 r.volume, .u64 r.tailVoid, .u64 r.grout, .u64 r.mass,
   .u8 r.mode.code]

/-- A cycle record: the ring, then the totals in the order of R33 (R34; the ring's place is DESIGN CHOICE,
assumption 15). -/
def CycleRec.fields (r : CycleRec) : List Field := .u16 r.ring :: r.cycle.fields

/-- Selector 8: a previous stroke, present or absent (R41). -/
def previousFields (q : Option PrevStroke) : List Field :=
  [yesNo q.isSome, .u16 ((q.map (·.stroke)).getD 0), yesNo ((q.map (·.eligible)).getD false)]

/-- A group record (R42). -/
def GroupRec.fields (g : GroupRec) : List Field :=
  [.u8 g.state.code, .u8 g.holdCount, .u16 g.lastStroke, .u8 g.validity.code, .u64 g.stateTime, .u8 g.transition]

/-- Selector 9 (R67). No rule states the range of the held groups and of the number of THRUST groups, which take
8 bytes each (R206; assumption 14). -/
def groupFields (s : State) : List Field :=
  s.groups.toList.flatMap GroupRec.fields
    ++ [.u64 (heldGroups s), .u64 (thrustGroups s), .u16 (thrustCeiling s), .u8 (releaseLimit s)]

/-- A release stack entry (R45). -/
def StackEntry.fields (e : StackEntry) : List Field :=
  [.u8 e.position.val] ++ groupList e.cover ++ [.u8 e.state.code, .u64 e.openedAt, yesNo e.overtime]

/-- A class by itself (R177). -/
def CondClass.code : CondClass → Nat
  | .info => 0
  | .limit => 1
  | .halt => 2

/-- Selector 10 (R67). The depth stands before the list, which has a count byte of its own (DESIGN CHOICE,
assumption 15). -/
def stackFields (k : ReleaseStack) : List Field :=
  .u8 k.entries.length :: listFields StackEntry.fields k.entries.reverse
    ++ [yesNo k.full, yesNo k.underflow] ++ optU8 (k.fullClass.map CondClass.code)

/-- A plan row's eight bytes (R184, R206). -/
def PlanRow.fields (r : PlanRow) : List Field :=
  [.u8 r.ringType, .u8 r.keySector, .u8 r.start] ++ optU16 r.fill ++ optU8 r.profile

/-- What stands in a plan row's place when there is none. -/
def PlanRow.zero : PlanRow := { ringType := 0, keySector := 0, start := 0, fill := none, profile := none }

/-- Selector 11 (R93). Absent covers: one presence byte and seven empty lists (DESIGN CHOICE, assumption 15). -/
def ringFields (s : State) : List Field :=
  [.u16 s.ring.number, .u16 s.store.lastClosed, .u8 s.ring.state.code, yesNo s.ring.row.isSome]
    ++ (s.ring.row.getD PlanRow.zero).fields
    ++ yesNo s.ring.covers.isSome
      :: (s.ring.covers.getD (Vector.replicate 7 [])).toList.flatMap groupList
    ++ positionList s.ring.queue ++ positionList s.ring.setList ++ s.ring.skips.toList.map .u8

/-- Selector 12 (R195). -/
def planFields (k : PlanStore) : List Field :=
  [.u16 k.base, .u16 (spanLast k), .u32 k.cursor, .u16 k.written, .u8 k.status.code] ++ optU64 k.opEnd
    ++ lastFields k.last

/-- Selector 13: BLANK 0, WRITTEN 1, or 2 for a ring without a row (R195, assumption 15). -/
def planRowFields (k : PlanStore) (ring : Nat) : List Field :=
  let row := rowOfRing k ring
  .u8 (if !inSpan k ring then 2 else if row.isSome then 1 else 0) :: (row.getD PlanRow.zero).fields

/-- The sector of a line as READ gives it: that of the constants, and a free value while none are stored (R116;
DESIGN CHOICE, assumption 29). -/
def sectorShown (s : State) (i : Fin 6) : Nat :=
  match s.store.constants with
  | some c => c.lineSectors[i]
  | none => (Config.unsetSector i).toNat

/-- The height of a transducer as READ gives it: that of the constants, and a free value while none are stored (R136;
DESIGN CHOICE, assumption 29). -/
def heightShown (s : State) (t : Fin 5) : Int :=
  match s.store.constants with
  | some c => c.heights[t]
  | none => (Config.unsetHeight t).toInt

/-- A line as READ gives it, without its descriptors (R116). -/
def readLine (s : State) (i : Fin 6) : List Field :=
  let l := s.grout.lines[i]
  [.u8 l.service.code, .u8 l.capacity.code, .u16 (lineCap (activeProfile s) l.capacity),
   .u8 (sectorShown s i), .i64 l.carry, .u8 l.nextSequence, .u64 l.injected]

/-- Selector 14: the fields of each line, then the descriptors of each line, then the unit's own (R116). -/
def groutFields (s : State) : List Field :=
  (List.finRange 6).flatMap (readLine s) ++ s.grout.lines.toList.flatMap Line.descriptorFields
    ++ [.i64 s.grout.pool, .i64 (debtOf s.grout), yesNo (level s .groutDeficit none),
        yesNo (level s .groutStop none), yesNo (level s .groutBacklog none)]

/-- A transducer as READ gives it (R136): valid 0, invalid 1 in the order of R117. -/
def transducerFields (s : State) (t : Fin 5) : List Field :=
  let x := s.chamber.transducers[t]
  [.u16 x.raw, .u8 (if x.valid then 0 else 1)] ++ optI16 x.referred ++ [.i16 (heightShown s t)]

/-- Selector 15 (R136). -/
def chamberFields (s : State) : List Field :=
  let c := s.chamber
  (List.finRange 5).flatMap (transducerFields s)
    ++ [.i16 c.estimate, .u8 c.status.code, .u8 c.validCount] ++ optU64 c.lastReport
    ++ [.u32 c.integrator, .u16 c.setpoint, yesNo c.gateAllowed] ++ optU32 c.snapshot
    ++ [.u16 c.screwActual, .u8 c.gate.code] ++ optU32 c.beltRef ++ beltFields c.lastBelt
    ++ [.u64 s.account.cycle.measured] ++ optU64 s.account.cycle.lagged
    ++ optU8 (s.account.cycle.verdict.map Verdict.code)
    ++ [yesNo (level s .pressureDegraded none), yesNo (level s .pressureLost none),
        yesNo (level s .spoilCounter none), yesNo (level s .overExcavation none),
        yesNo (level s .underExcavation none)]

/-- A motor as READ gives it (R139, R162). -/
def Motor.fields (m : Motor) : List Field :=
  [yesNo m.ready] ++ m.membership.fields ++ [yesNo m.inShare, .u16 m.torque] ++ optU64 m.deviation

/-- A revolution record (R150). -/
def RevolutionRec.fields (r : RevolutionRec) : List Field :=
  [.u64 r.time, .u64 r.period, .u16 r.penetration, yesNo r.above, .u16 r.factor]

/-- Selector 16 (R162). The summed torque is that of the motors IN at the READ (DESIGN CHOICE, assumption 15). No
rule states the range of that sum, of the number of IN motors and of the governed speed, which take 8 bytes each (R206;
assumption 14). -/
def cutterFields (s : State) : List Field :=
  let c := s.cutter
  [.u8 c.run.code] ++ optU8 (c.phase.map RockPhase.code)
    ++ [.u8 c.direction.code, .u8 c.requested, .u8 c.reference, .u16 c.measured, .u16 c.torqueCeiling,
        .u64 (inTorque c), .u64 (inMotors c)]
    ++ c.motors.toList.flatMap Motor.fields
    ++ optU64 c.ramp ++ optU64 c.jam ++ optU64 c.rock ++ optU64 c.watch ++ [.u8 c.attempts]
    ++ optU64 c.indexRef ++ [.u16 c.revAdvance] ++ listFields RevolutionRec.fields c.revolutions
    ++ [.u16 c.governor, .u64 (governedSpeed s), yesNo (level s .cutterJam none), yesNo (level s .cutterTrip none),
        yesNo (level s .motorsLow none), yesNo (level s .indexLost none), yesNo (level s .penetrationHigh none)]
    ++ (List.range 8).map fun m => yesNo (level s .motorShare (some m))

/-- Selector 17 (R183). The five permits stand in the order of R171 to R175 (DESIGN CHOICE, assumption 15). -/
def modeFields (s : State) : List Field :=
  [.u8 s.modes.advance.code, .u8 s.modes.build.code, .u8 s.modes.mode.code, yesNo s.modes.haltOutput]
    ++ s.permits.advance.fields ++ s.permits.cutter.fields
    ++ [.u16 s.chamber.setpoint, yesNo s.chamber.gateAllowed]
    ++ s.permits.build.fields ++ s.permits.grout.fields

/-- Selector 18 (R183). -/
def condTableFields (s : State) (name : Option CondName) : List Field :=
  listFields condFields (s.conds.filter fun e => name.all (e.name = ·))

/-- The record a selector names; none for an argument out of range (R201). -/
def recordFields (s : State) : Selector → Option (List Field)
  | .links => some (linkFields s)
  | .constants => some (optConstantsFields s.store.constants)
  | .profileStore => some (storeFields s.store)
  | .profile i => s.store.profiles[i]?.map profileFields
  | .account => some (accountFields s.account)
  | .increments => some (listFields IncrementRec.fields s.account.increments)
  | .cycles => some (listFields CycleRec.fields s.account.cycles)
  | .previous => some (s.account.prev.toList.flatMap previousFields)
  | .groups => some (groupFields s)
  | .stack => some (stackFields s.stack)
  | .ring => some (ringFields s)
  | .plan => some (planFields s.plan)
  | .planRow ring => if ring = 0 then none else some (planRowFields s.plan ring)
  | .grout => some (groutFields s)
  | .chamber => some (chamberFields s)
  | .cutter => some (cutterFields s)
  | .modes => some (modeFields s)
  | .conditions name => some (condTableFields s name)

/-- READ: the record, then the timebase count at which it was taken (R201). -/
def takeRead (x : Selector) (s : State) : Handled :=
  match recordFields s x with
  | some fields => .answer .done (fields ++ [.u64 s.now])
  | none => .answer .range []

/-- READ (R201). -/
def execRead (p : Port) (s : State) : Host.Outcome State Fault Refusal :=
  .next (request 39 allPorts true readSelector takeRead p s)

end Sys2Proof.Machine
end

