-- ==== Sys2Proof/Machine/Dispatch.lean ====
section
/-! DEFINITION. One arm per command, each one call of the command's meaning. -/

namespace Sys2Proof.Machine

/-- The effect of a command on everything but the queue. -/
def exec (i : Instr) (s : State) : Host.Outcome State Fault Refusal :=
  match i with
  | .powerOn failed => Sys2Proof.Machine.execPowerOn failed s
  | .resetInput ms => Sys2Proof.Machine.execResetInput ms s
  | .revolutionIndexPulse ms => Sys2Proof.Machine.execRevolutionIndexPulse ms s
  | .frameReceive port bytes => Sys2Proof.Machine.execFrameReceive port bytes s
  | .frameTimeout port => Sys2Proof.Machine.execFrameTimeout port s
  | .linkSilenceExpiry port => Sys2Proof.Machine.execLinkSilenceExpiry port s
  | .strokeReport port => Sys2Proof.Machine.execStrokeReport port s
  | .driveReport port => Sys2Proof.Machine.execDriveReport port s
  | .retractDone port => Sys2Proof.Machine.execRetractDone port s
  | .extendDone port => Sys2Proof.Machine.execExtendDone port s
  | .groupFault port => Sys2Proof.Machine.execGroupFault port s
  | .groupState port => Sys2Proof.Machine.execGroupState port s
  | .claimAdvance port => Sys2Proof.Machine.execClaimAdvance port s
  | .dropAdvance port => Sys2Proof.Machine.execDropAdvance port s
  | .cutterStart port => Sys2Proof.Machine.execCutterStart port s
  | .cutterSpeed port => Sys2Proof.Machine.execCutterSpeed port s
  | .cutterStop port => Sys2Proof.Machine.execCutterStop port s
  | .cutterRock port => Sys2Proof.Machine.execCutterRock port s
  | .motorReadmit port => Sys2Proof.Machine.execMotorReadmit port s
  | .claimBuild port => Sys2Proof.Machine.execClaimBuild port s
  | .dropBuild port => Sys2Proof.Machine.execDropBuild port s
  | .ringArm port => Sys2Proof.Machine.execRingArm port s
  | .segmentOpen port => Sys2Proof.Machine.execSegmentOpen port s
  | .segmentPlaced port => Sys2Proof.Machine.execSegmentPlaced port s
  | .segmentClose port => Sys2Proof.Machine.execSegmentClose port s
  | .ringAbort port => Sys2Proof.Machine.execRingAbort port s
  | .doseTake port => Sys2Proof.Machine.execDoseTake port s
  | .doseClose port => Sys2Proof.Machine.execDoseClose port s
  | .lineState port => Sys2Proof.Machine.execLineState port s
  | .spoilReport port => Sys2Proof.Machine.execSpoilReport port s
  | .constantsWrite port => Sys2Proof.Machine.execConstantsWrite port s
  | .profileWrite port => Sys2Proof.Machine.execProfileWrite port s
  | .profileSelect port => Sys2Proof.Machine.execProfileSelect port s
  | .planErase port => Sys2Proof.Machine.execPlanErase port s
  | .planBlankCheck port => Sys2Proof.Machine.execPlanBlankCheck port s
  | .planWrite port => Sys2Proof.Machine.execPlanWrite port s
  | .planWriteNext port => Sys2Proof.Machine.execPlanWriteNext port s
  | .planVerify port => Sys2Proof.Machine.execPlanVerify port s
  | .planStatus port => Sys2Proof.Machine.execPlanStatus port s
  | .conditionAck port => Sys2Proof.Machine.execConditionAck port s
  | .flagsClear port => Sys2Proof.Machine.execFlagsClear port s
  | .halt port => Sys2Proof.Machine.execHalt port s
  | .haltClear port => Sys2Proof.Machine.execHaltClear port s
  | .warmReset port => Sys2Proof.Machine.execWarmReset port s
  | .read port => Sys2Proof.Machine.execRead port s
  | .unknownRequest port => Sys2Proof.Machine.execUnknownRequest port s
  | .retractTimerExpiry group => Sys2Proof.Machine.execRetractTimerExpiry group s
  | .releaseTimerExpiry position => Sys2Proof.Machine.execReleaseTimerExpiry position s
  | .advanceSpeedExpiry => Sys2Proof.Machine.execAdvanceSpeedExpiry s
  | .estimateLossExpiry => Sys2Proof.Machine.execEstimateLossExpiry s
  | .rampStep => Sys2Proof.Machine.execRampStep s
  | .deviationTimerExpiry motor => Sys2Proof.Machine.execDeviationTimerExpiry motor s
  | .indexWatchExpiry => Sys2Proof.Machine.execIndexWatchExpiry s
  | .jamTimerExpiry => Sys2Proof.Machine.execJamTimerExpiry s
  | .reversePhaseExpiry => Sys2Proof.Machine.execReversePhaseExpiry s
  | .forwardPhaseExpiry => Sys2Proof.Machine.execForwardPhaseExpiry s
  | .eraseCompletion => Sys2Proof.Machine.execEraseCompletion s
  | .rowCompletion => Sys2Proof.Machine.execRowCompletion s
  | .supplyLoss => Sys2Proof.Machine.execSupplyLoss s

end Sys2Proof.Machine
end

