-- ==== Sys2Proof/Safety.lean ====
section
/-! DEFINITION. The terms in which statements speak of the part: what a command may change, a request that
waits, a request served, an event made, and the invariants the manual's rules give the records. -/

namespace Sys2Proof.Machine

/-! ## Blocks -/

/-- The records that the blocks of the part own (95_what_each_step_holds.md, chapters 1 to 9). -/
inductive Block where
  | store
  | account
  | groups
  | stack
  | ring
  | plan
  | grout
  | chamber
  | cutter
  | modes
  deriving DecidableEq, Repr

/-- The chamber record of `s` with its setpoint no higher than the standstill ceiling in force in `t`
(R126). -/
def heldDown (s t : State) : Chamber :=
  { s.chamber with setpoint := min s.chamber.setpoint (activeProfile t).standstillCeiling }

/-- A block's records are in `t` what they were in `s`. The screw setpoint alone follows a rule of another
block: the standstill limit, which every event that changes the advance permit may bring (R126). -/
def Keeps : Block → State → State → Prop
  | .store, s, t => t.store = s.store
  | .account, s, t => t.account = s.account
  | .groups, s, t => t.groups = s.groups
  | .stack, s, t => t.stack = s.stack
  | .ring, s, t => t.ring = s.ring
  | .plan, s, t => t.plan = s.plan
  | .grout, s, t => t.grout = s.grout
  | .chamber, s, t => t.chamber = s.chamber ∨ (standstillLimit t = true ∧ t.chamber = heldDown s t)
  | .cutter, s, t => t.cutter = s.cutter
  | .modes, s, t => t.modes = s.modes

/-- Every block that is not listed keeps its records. -/
def OnlyChanges (l : List Block) (s t : State) : Prop := ∀ b, b ∉ l → Keeps b s t

/-- Every block. -/
def allBlocks : List Block := [.store, .account, .groups, .stack, .ring, .plan, .grout, .chamber, .cutter, .modes]

/-- The blocks that a change of the machine mode reaches: the mode itself, and the blocks that a profile
switch at an entry into STANDSTILL or HALTED brings into line (R10, R11, R168). -/
def modeBlocks : List Block := [.store, .account, .stack, .grout, .chamber, .cutter, .modes]

/-- The blocks whose records a command may change, by the step it is (95_what_each_step_holds.md). -/
def mayChange : Instr → List Block
  | .powerOn _ => allBlocks
  | .resetInput _ => .groups :: modeBlocks
  | .revolutionIndexPulse _ => [.cutter]
  | .frameReceive _ _ => []
  | .frameTimeout _ => []
  | .linkSilenceExpiry _ => modeBlocks
  | .strokeReport _ => .groups :: modeBlocks
  | .driveReport _ => [.cutter, .chamber]
  | .retractDone _ => [.groups, .stack]
  | .extendDone _ => [.groups, .account, .store, .ring]
  | .groupFault _ => [.groups, .account, .store, .ring]
  | .groupState _ => [.groups, .stack, .account, .store, .ring]
  | .claimAdvance _ => modeBlocks
  | .dropAdvance _ => modeBlocks
  | .cutterStart _ => [.cutter]
  | .cutterSpeed _ => [.cutter]
  | .cutterStop _ => [.cutter, .chamber]
  | .cutterRock _ => [.cutter]
  | .motorReadmit _ => [.cutter]
  | .claimBuild _ => modeBlocks
  | .dropBuild _ => modeBlocks
  | .ringArm _ => .ring :: modeBlocks
  | .segmentOpen _ => .ring :: .groups :: modeBlocks
  | .segmentPlaced _ => [.stack]
  | .segmentClose _ => .ring :: .groups :: modeBlocks
  | .ringAbort _ => .ring :: .groups :: modeBlocks
  | .doseTake _ => [.grout]
  | .doseClose _ => [.grout, .account]
  | .lineState _ => [.grout]
  | .spoilReport _ => [.chamber, .cutter, .account]
  | .constantsWrite _ => .groups :: modeBlocks
  | .profileWrite _ => [.store]
  | .profileSelect _ => modeBlocks
  | .planErase _ => [.plan]
  | .planBlankCheck _ => []
  | .planWrite _ => [.plan]
  | .planWriteNext _ => [.plan]
  | .planVerify _ => []
  | .planStatus _ => []
  | .conditionAck _ => [.cutter]
  | .flagsClear _ => [.stack]
  | .halt _ => modeBlocks
  | .haltClear _ => modeBlocks
  | .warmReset _ => .groups :: modeBlocks
  | .read _ => []
  | .unknownRequest _ => []
  | .retractTimerExpiry _ => [.groups]
  | .releaseTimerExpiry _ => [.stack]
  | .advanceSpeedExpiry => [.account]
  | .estimateLossExpiry => [.chamber, .cutter]
  | .rampStep => [.cutter]
  | .deviationTimerExpiry _ => [.cutter, .chamber]
  | .indexWatchExpiry => [.cutter]
  | .jamTimerExpiry => [.cutter, .chamber]
  | .reversePhaseExpiry => [.cutter]
  | .forwardPhaseExpiry => [.cutter]
  | .eraseCompletion => [.plan]
  | .rowCompletion => [.plan]
  | .supplyLoss => []

/-! ## Requests -/

/-- The port a command takes its frame from, or on whose link it happens. -/
def portOf : Instr → Option Port
  | .powerOn _ | .resetInput _ | .revolutionIndexPulse _ => none
  | .frameReceive p _ | .frameTimeout p | .linkSilenceExpiry p | .strokeReport p | .driveReport p
  | .retractDone p | .extendDone p | .groupFault p | .groupState p | .claimAdvance p | .dropAdvance p
  | .cutterStart p | .cutterSpeed p | .cutterStop p | .cutterRock p | .motorReadmit p | .claimBuild p
  | .dropBuild p | .ringArm p | .segmentOpen p | .segmentPlaced p | .segmentClose p | .ringAbort p
  | .doseTake p | .doseClose p | .lineState p | .spoilReport p | .constantsWrite p | .profileWrite p
  | .profileSelect p | .planErase p | .planBlankCheck p | .planWrite p | .planWriteNext p | .planVerify p
  | .planStatus p | .conditionAck p | .flagsClear p | .halt p | .haltClear p | .warmReset p | .read p
  | .unknownRequest p => some p
  | .retractTimerExpiry _ | .releaseTimerExpiry _ | .advanceSpeedExpiry | .estimateLossExpiry | .rampStep
  | .deviationTimerExpiry _ | .indexWatchExpiry | .jamTimerExpiry | .reversePhaseExpiry
  | .forwardPhaseExpiry | .eraseCompletion | .rowCompletion | .supplyLoss => none

/-- A command changes the record of no link but its own; a power-on and a warm reset change all (R196,
R205). -/
def touchesLink (c : Instr) (q : Port) : Bool :=
  match c with
  | .powerOn _ | .resetInput _ | .warmReset _ => true
  | _ => portOf c = some q

/-- The links on which the catalogue has a request (10.8). -/
def rolesOf (n : Nat) : List Port :=
  if n = 11 then [.drive, .cabin]
  else if n ≤ 13 then [.drive]
  else if n ≤ 19 then [.erector]
  else if n = 20 then [.erector, .cabin]
  else if n ≤ 23 then [.grout]
  else if n = 24 then [.spoil]
  else if n ≤ 38 then [.cabin]
  else allPorts

/-- The fields of a request's body, after its identifier, are those of its rule (R199, step 3; R206). -/
def bodyReads (n : Nat) (fields : List Byte) : Bool :=
  match n with
  | 1 => (readWhole readStrokes fields).isSome
  | 2 => (readWhole readDrive fields).isSome
  | 3 | 4 => (readWhole readConfirmation fields).isSome
  | 5 | 13 | 17 | 18 | 21 | 27 => (readWhole readByte fields).isSome
  | 6 => (readWhole readGroupState fields).isSome
  | 9 => (readWhole readCutterStart fields).isSome
  | 10 => (readWhole readWide fields).isSome
  | 16 | 28 => (readWhole readWord fields).isSome
  | 19 => (readWhole readSegmentClose fields).isSome
  | 22 => (readWhole readDoseClose fields).isSome
  | 23 => (readWhole readLineState fields).isSome
  | 24 => (readWhole readSpoil fields).isSome
  | 25 => (readWhole readConstants fields).isSome
  | 26 => (readWhole readProfileWrite fields).isSome
  | 30 | 32 => (readWhole readFirstAndRows fields).isSome
  | 31 => (readWhole readPlanRows fields).isSome
  | 34 => (readWhole readAck fields).isSome
  | 39 => (readWhole readSelector fields).isSome
  | _ => (readWhole readNothing fields).isSome

/-- The requests that are taken while the part is UNCOMMISSIONED (R5). -/
def takenEarly (n : Nat) : Bool := (25 ≤ n && n ≤ 35) || n = 38 || n = 39

/-- A row with a field outside its range (R184). -/
def rowOutside (r : PlanRow) : Bool :=
  7 < r.ringType || 15 < r.keySector || 5 < r.start || r.fill.any (fun v => v < 1000 || 1600 < v)
    || r.profile.any (3 < ·)

/-- Steps 1 to 3 of the table of R188, which PLAN VERIFY makes too (R191): whether the check fails, and the refusal. The
span is carried as its first and its last ring (DESIGN CHOICE, assumption 15). -/
def rowChecks (first : Nat) (rows : List PlanRow) (k : PlanStore) : List (Bool × Code × List Field) :=
  [(decide (rows.length < 1 ∨ 16 < rows.length), .range, []),
   (rows.any rowOutside, .range, [.u64 (first + rows.findIdx rowOutside)]),
   (decide (first < k.base ∨ min (k.base + 2047) 65535 < first + (rows.length - 1)), .range,
    [.u16 k.base, .u16 (min (k.base + 2047) 65535)])]

/-- The table of R188. -/
def writeChecks (first : Nat) (rows : List PlanRow) (s : State) : List (Bool × Code × List Field) :=
  let written := (List.range rows.length).filter fun j => (rowOfRing s.plan (first + j)).isSome
  rowChecks first rows s.plan ++
    [(decide (s.ring.state ≠ .idle ∧ first ≤ s.ring.number ∧ s.ring.number < first + rows.length), .locked,
      [.u16 s.ring.number]),
     (!written.isEmpty, .notBlank, [.u16 (first + written.headD 0)])]

/-- A request of identifier `n` with the arguments `a` stands at the head of the list of port `p`, in the
frame `f`, of a part with supply. -/
structure Asks {α : Type} (s : State) (p : Port) (n : Nat) (reader : Reader α) (f : Frame) (a : α) : Prop where
  supplied : s.powered = true
  heads    : headRequest p n s = some f
  reads    : readWhole reader f.body.tail = some a

/-- The state after a request is answered without changing a record: the frame is taken and answered
(R198, R199). -/
def answeredOnly (p : Port) (f : Frame) (code : Code) (fields : List Field) (s : State) : State :=
  let t := afterAnswer p (dropHead p (quiet s))
  { t with sent := responseTo p f code fields :: t.sent }

/-- What no request and no timer changes: the supply, the timebase, and the model's own queue and counter. -/
structure Stands (s t : State) : Prop where
  powered : t.powered = s.powered
  now     : t.now = s.now
  pending : t.pending = s.pending
  choices : t.choices = s.choices

/-- Each entry of the condition table is its former self brought up to date, once, at the levels and in the
classes of the state after the event (R177). -/
def CondsFollow (s t : State) : Prop := t.conds = s.conds.map (evalEntry t)

/-- The permit notices of an event that computes the permits again several times, coming from `a` (R176). -/
def permitTrail : Permits → List Permits → List Sent
  | _, [] => []
  | a, b :: rest => permitNotices a b ++ permitTrail b rest

/-- A frame is a CUTTER PERMIT. -/
def isCutterPermit (x : Sent) : Bool :=
  match x.message with
  | .notice (.cutterPermit _) => true
  | _ => false

/-- The notices that close an event, in the order of R178 and R205: MODE CHANGE, the permit notices, the cutter's
after the advance's (R176), with SCREW SETPOINT, CONDITION CHANGE. `steps` are the permits as they stood at the recomputations
before the last one. That an event sends one MODE CHANGE and one SCREW SETPOINT, and when it computes the permits
again, is assumption 10. -/
def closingNotices (steps : List Permits) (s t : State) : List Sent :=
  let trail := permitTrail s.permits (steps ++ [t.permits])
  modeNotices s t ++ trail.filter (fun x => !isCutterPermit x) ++ trail.filter isCutterPermit ++ screwNotices s t
    ++ conditionNotices s t

/-- The orders that are outstanding in `t`, as R66 has them sent again: one RETRACT ORDER for every RETRACTING group
and one EXTEND ORDER for every RETURNING group, each with its transition number, where there is one, the cause
absent. -/
def outstandingOrders (t : State) : List Sent :=
  let of (x : GroupState) : List (Fin 16 × Nat) :=
    ((List.finRange 16).filter fun g => t.groups[g].state = x).map fun g => (g, t.groups[g].transition)
  (if of .retracting = [] then [] else [{ port := .drive, message := .notice (.retractOrder (of .retracting) none) }]) ++
    (if of .returning = [] then [] else [{ port := .drive, message := .notice (.extendOrder (of .returning) none) }])

/-- What a request sends after its response, of the owning blocks' notices `told` and the closing notices `closing`:
those, unless the response is the one that something held back on the link waits for; then the held notices and, on the
Drive link, the outstanding orders go out with them, in the order of R178 (R66, R203, assumption 28). -/
def afterResponse (p : Port) (told closing : List Sent) (s t : State) : List Sent :=
  match s.held[portIndex p] with
  | none => told ++ closing
  | some h =>
    if 1 < h.after then told ++ closing
    else arranged (h.notices ++ told ++ (if h.orders then outstandingOrders t else []) ++ closing)

/-- A request has been served: its frame is taken from its link and from no other, the response comes first, then
what the owning blocks tell, then the notices of R178, with what waited on the link for the answer; no block but those listed has changed. `steps`
are the permits of the recomputations before the last one. The order of the frames sent rests on assumptions 10 and
28. -/
structure ServedBy (steps : List Permits) (p : Port) (f : Frame) (code : Code) (fields : List Field)
    (told : List Sent) (changed : List Block) (s t : State) : Prop where
  stands  : Stands s t
  links   : t.links = (dropHead p s).links
  orders  : t.held = (afterAnswer p s).held
  sent    : t.sent = responseTo p f code fields :: afterResponse p told (closingNotices steps s t) s t
  frame   : OnlyChanges changed s t
  permits : t.permits = permitsOf t

/-- A request served with one recomputation of the permits, at its end (assumption 10). -/
abbrev Served (p : Port) (f : Frame) (code : Code) (fields : List Field) (told : List Sent)
    (changed : List Block) (s t : State) : Prop :=
  ServedBy [] p f code fields told changed s t

/-- An event that is no request has been made: the links stay, the owning blocks' notices and those of
R178 are sent; no block but those listed has changed. The order of the frames sent rests on assumption 10. -/
structure Made (told : List Sent) (changed : List Block) (s t : State) : Prop where
  stands  : Stands s t
  links   : t.links = s.links
  orders  : t.held = s.held
  sent    : t.sent = told ++ closingNotices [] s t
  frame   : OnlyChanges changed s t
  permits : t.permits = permitsOf t

/-- The notice of a port. -/
def noticeOn (p : Port) (n : Notice) : Sent := { port := p, message := .notice n }

/-! ## Invariants -/

/-- The permits are those of the records (R176), and the condition table lists every entry in order, each
at the level and in the class its owning rule gives it (R177, R178). -/
structure DerivedFollow (s : State) : Prop where
  permits : s.permits = permitsOf s
  keys    : s.conds.map (fun e => (e.name, e.subject)) = condKeys
  levels  : ∀ e ∈ s.conds, e.active = level s e.name e.subject ∧ e.cls = classOf s e.name e.subject

/-- The screw is held as R125, R126 and R128 say: the setpoint is no higher than the standstill ceiling
while the estimate is LOST or the standstill limit applies, and the gate may open exactly when the part is
commissioned and the estimate is not LOST. -/
structure ScrewHeld (s : State) : Prop where
  permits    : s.permits = permitsOf s
  lost       : s.chamber.status = .lost → s.chamber.setpoint ≤ (activeProfile s).standstillCeiling
  standstill : standstillLimit s = true → s.chamber.setpoint ≤ (activeProfile s).standstillCeiling
  gate       : s.chamber.gateAllowed = (commissioned s && s.chamber.status ≠ .lost)

/-- The integrator and the standstill snapshot stay within 0 … 1,000 × screw maximum (R11, R123). -/
structure IntegratorBounded (s : State) : Prop where
  integrator : s.chamber.integrator ≤ 1000 * (activeProfile s).screwMax
  snapshot   : ∀ v, s.chamber.snapshot = some v → v ≤ 1000 * (activeProfile s).screwMax

/-- The mode follows the claims (R167), the halt output follows the mode, an active HALT-class condition
holds a commissioned part in HALTED (R169), and a PENDING claim has the other one HELD (R163). -/
structure ModeFollows (s : State) : Prop where
  derived  : s.modes.mode ≠ .uncommissioned → s.modes.mode ≠ .halted →
    s.modes.mode = derivedMode s.modes.advance s.modes.build
  output   : s.modes.haltOutput = decide (s.modes.mode = .halted)
  held     : s.modes.mode ≠ .uncommissioned → activeHalts s ≠ [] → s.modes.mode = .halted
  advanceWaits : s.modes.advance = .pending → s.modes.build = .held
  buildWaits   : s.modes.build = .pending → s.modes.advance = .held
  halted   : s.modes.mode = .halted → s.modes.advance = .absent
  early    : s.modes.mode = .uncommissioned → s.modes.advance = .absent ∧ s.modes.build = .absent

/-- Each group's hold count is the number of stack entries whose cover contains it (R44). -/
def HoldCountsMatch (s : State) : Prop :=
  ∀ g : Fin 16, s.groups[g].holdCount = s.stack.entries.countP fun e => e.cover.contains g

/-- The number of held groups is within the release limit of the present mode, and in no stored profile is the
continuous limit above the build limit (R6, R48). -/
structure ReleaseWithinLimit (s : State) : Prop where
  held   : heldGroups s ≤ releaseLimit s
  limits : ∀ i : Fin 4, s.store.profiles[i].releaseContinuous ≤ s.store.profiles[i].releaseBuild

/-- Where a position is: in the queue, in the release stack or in the set list, and how often (R70). -/
def placesOf (s : State) (p : Fin 7) : Nat :=
  s.ring.queue.count p + s.stack.entries.countP (fun e => e.position = p) + s.ring.setList.count p

/-- The seven positions are where R70 has them; the stack holds entries in BUILDING alone, the key only once the
ordinary positions are set (R75), and every row that a build may follow has its start in 0–5 (R184), from which the queue
is formed (R73). -/
structure PositionsPlaced (s : State) : Prop where
  idle     : s.ring.state = .idle → ∀ p, placesOf s p = 0
  once     : s.ring.state ≠ .idle → ∀ p, placesOf s p = 1
  closing  : s.ring.state = .closing → ∀ p, p ∈ s.ring.setList
  building : s.stack.entries ≠ [] → s.ring.state = .building
  key      : (∃ e ∈ s.stack.entries, e.position = 6) → ∀ p, p ≠ 6 → p ∈ s.ring.setList
  rows     : (∀ r ∈ s.plan.rows, r.2.start ≤ 5) ∧ (∀ j, s.plan.job = some j → ∀ r ∈ j.rows, r.start ≤ 5) ∧
    ∀ r, s.ring.row = some r → r.start ≤ 5

/-- The grout required since power-on is what has been injected and the debt, as long as neither total has
saturated (R35, R98, R102, R111). -/
def GroutConserved (s : State) : Prop :=
  s.account.totals.required.saturated = false → s.account.totals.injected.saturated = false →
    (s.account.totals.required.value : Int) = s.account.totals.injected.value + debtOf s.grout

/-- The plan store is in its canonical form (R184): the WRITTEN rows rise, lie in the store and are as many
as the written count; a write in progress has only BLANK rows of the store before it (R188, R189); a command is in
progress exactly while the status is not IDLE. -/
structure PlanSound (s : State) : Prop where
  rising  : rowsRising s.plan.rows = true
  inStore : ∀ r ∈ s.plan.rows, r.1 < Config.planRows
  written : s.plan.written = s.plan.rows.length
  running : s.plan.running.isSome = decide (s.plan.status ≠ .idle)
  job     : ∀ j, s.plan.job = some j → s.plan.status = .writing ∧ s.plan.base ≤ j.nextRing ∧
    ∀ i, i < j.rows.length → j.nextRing + i - s.plan.base < Config.planRows ∧
      lookupRow s.plan.rows (j.nextRing + i - s.plan.base) = none

/-- Every collection keeps the size the manual gives it: the request lists (R196), the histories (R25, R34,
R150), the release stack (R45) and the descriptors of a line (R95). -/
structure CollectionsBounded (s : State) : Prop where
  requests    : ∀ p : Port, (linkOf s p).requests.length ≤ 8
  increments  : s.account.increments.length ≤ 16
  cycles      : s.account.cycles.length ≤ 8
  revolutions : s.cutter.revolutions.length ≤ 16
  entries     : s.stack.entries.length ≤ 3
  descriptors : ∀ i : Fin 6, s.grout.lines[i].descriptors.length ≤ 4

/-- The run state is one of the three in which the cutterhead does not turn and none is ordered. -/
def atRest (r : RunState) : Bool := r = .stopped || r = .jammed || r = .tripped

/-- The cutterhead unit is sound: the torque ceiling is the product of R140; while STOPPED, JAMMED or TRIPPED
the reference is 0 and no timer of the run runs (R142, R147, R154, R157); the rocking phase and the rock
timer are present exactly while ROCKING (R137). -/
structure CutterSound (s : State) : Prop where
  ceiling : s.cutter.torqueCeiling = torqueCeilingOf s
  rest    : atRest s.cutter.run = true → s.cutter.reference = 0 ∧ s.cutter.ramp = none ∧ s.cutter.jam = none
  phase   : s.cutter.phase.isSome = decide (s.cutter.run = .rocking)
  rock    : s.cutter.rock.isSome = decide (s.cutter.run = .rocking)

/-- The cutterhead turns, or is being rocked, only in ADVANCE or CONTINUOUS, with an estimate that is not LOST and
no fewer IN motors than the minimum (R146). -/
def TurningAllowed (s : State) : Prop :=
  turning s.cutter.run = true ∨ s.cutter.run = .rocking →
    advancing s.modes.mode = true ∧ s.chamber.status ≠ .lost ∧ motorsLow s = false

end Sys2Proof.Machine
end

