-- ==== Sys2Proof/Certificates/Slice0/Obligations.lean ====
section
/-! DEFINITION. The statements for the provers, chapter by chapter. A request is asked by `Asks`, served by
`Served`; an event that is no request is made by `Made` (Sys2Proof/Safety.lean). The invariants they name are
defined there too. Where a statement rests on a choice of the model, its docstring names the log entry. The order
and the number of the frames that `Served`, `ServedBy` and `Made` give rest on log 10 throughout. -/

section Statements

open Sys2Proof Sys2Proof.Machine

/-! ## The step -/

/-- A command at the front of the queue is what the step runs, on the state with the queue's rest. -/
def Obligations.StepRunsFrontCommand : Prop :=
  ∀ (c : Instr) (rest : List Instr) (s : State), s.pending = c :: rest →
    step s = exec c { s with pending := rest }

/-- The model's choice (log 2): on an empty queue a part without supply does nothing; with supply one event
that is due is queued, and with none due the timebase counts one. -/
def Obligations.EmptyQueueStep : Prop :=
  ∀ s : State, s.pending = [] →
    (s.powered = false → step s = .next (quiet s)) ∧
    (s.powered = true → dueEvents s = [] → step s = .next { quiet s with now := s.now + 1 }) ∧
    (s.powered = true → dueEvents s ≠ [] →
      ∃ c ∈ dueEvents s, ∃ k, step s = .next { quiet s with pending := [c], choices := k })

/-- No command stops the part: each one answers a next state, which leaves the waiting commands, the counter of
the free order and, but for a power-on, the timebase as they are (R198, R207). -/
def Obligations.EveryCommandGoesOn : Prop :=
  ∀ (c : Instr) (s : State), ∃ t, exec c s = .next t ∧ t.pending = s.pending ∧ t.choices = s.choices ∧
    ((∀ failed, c ≠ .powerOn failed) → t.now = s.now)

/-- The frame of the whole machine: a command changes the records of no block but those that its step reaches
(95_what_each_step_holds.md), and the record of no link but its own. -/
def Obligations.WholeMachineFrame : Prop :=
  ∀ (c : Instr) (s t : State), exec c s = .next t →
    OnlyChanges (mayChange c) s t ∧ ∀ q, touchesLink c q = false → linkOf t q = linkOf s q

/-! ## Invariants that every step keeps -/

/-- R176, R177, R178: permits and condition table follow the records after every step. -/
def Obligations.PermitsAndConditionsFollow : Prop :=
  ∀ s t : State, DerivedFollow s → step s = .next t → DerivedFollow t

/-- R125, R126, R128: the screw stays held; R11, R123: the integrator and the standstill snapshot stay in 0 … 1,000 ×
screw maximum. -/
def Obligations.ScrewStaysHeld : Prop :=
  (∀ s t : State, ScrewHeld s → step s = .next t → ScrewHeld t) ∧
    ∀ s t : State, IntegratorBounded s → step s = .next t → IntegratorBounded t

/-- R163, R167, R169: the mode follows the claims and the halts. -/
def Obligations.ModeKeepsFollowing : Prop :=
  ∀ s t : State, ModeFollows s → step s = .next t → ModeFollows t

/-- R44: hold counts and release stack agree after every step. R48: the held groups never exceed the release limit of
the present mode, and no stored profile has a continuous limit above its build limit; with the mode following the
claims, every step keeps this. R70: each of the seven positions stays in exactly one of the queue, the release stack
and the set list while the ring record is ARMED, BUILDING or ABORTING, all seven in the set list in CLOSING, none
anywhere in IDLE. -/
def Obligations.HoldCountsFollowStack : Prop :=
  (∀ s t : State, HoldCountsMatch s → step s = .next t → HoldCountsMatch t) ∧
  (∀ s t : State, ModeFollows s → ReleaseWithinLimit s → step s = .next t → ReleaseWithinLimit t) ∧
    ∀ s t : State, PositionsPlaced s → step s = .next t → PositionsPlaced t

/-- R35, R98, R102, R111: no grout is lost or made, by any step. -/
def Obligations.GroutIsConserved : Prop :=
  ∀ s t : State, GroutConserved s → step s = .next t → GroutConserved t

/-- R184, R188, R189, R194: the plan store keeps its canonical form. -/
def Obligations.PlanStoreStaysSound : Prop :=
  ∀ s t : State, PlanSound s → step s = .next t → PlanSound t

/-- R25, R34, R45, R95, R150, R196, R198: no collection grows beyond its size. -/
def Obligations.CollectionsStayBounded : Prop :=
  ∀ s t : State, CollectionsBounded s → step s = .next t → CollectionsBounded t

/-- R137, R140, R142, R147, R154, R156, R157: torque ceiling, rest states and rocking phase agree. -/
def Obligations.CutterheadStaysSound : Prop :=
  ∀ s t : State, CutterSound s → step s = .next t → CutterSound t

/-- The machine right after the power-on of a new part meets every invariant, and holds what the rules give it
(R5, R6, R13, R38, R64, R90, R114, R133, R159, R180, R194, R196). -/
def Obligations.NewPartAfterPowerOn : Prop :=
  (DerivedFollow State.reset ∧ ScrewHeld State.reset ∧ IntegratorBounded State.reset ∧
    ModeFollows State.reset ∧ HoldCountsMatch State.reset ∧ GroutConserved State.reset ∧
    PlanSound State.reset ∧ CollectionsBounded State.reset ∧ CutterSound State.reset ∧
    TurningAllowed State.reset ∧ ReleaseWithinLimit State.reset ∧ PositionsPlaced State.reset) ∧
  State.reset.modes.mode = .uncommissioned ∧ State.reset.store.constants = none ∧
    (∀ i : Fin 4, State.reset.store.profiles[i] = Profile.default) ∧
    State.reset.store.lastClosed = 0 ∧ State.reset.ring.number = 1 ∧ State.reset.ring.state = .idle ∧
    State.reset.account.counter = 0 ∧ State.reset.account.accumulator = 0 ∧
    (∀ g : Fin 16, State.reset.groups[g].state = .uncertain ∧ State.reset.groups[g].holdCount = 0) ∧
    State.reset.stack.entries = [] ∧ State.reset.plan.rows = [] ∧ State.reset.plan.base = 1 ∧
    (∀ i : Fin 6, State.reset.grout.lines[i] = Line.initial) ∧ State.reset.grout.pool = 0 ∧
    State.reset.chamber.status = .lost ∧ State.reset.chamber.gateAllowed = false ∧
    State.reset.cutter.run = .stopped ∧ State.reset.cutter.governor = 1000 ∧
    (∀ m : Fin 8, State.reset.cutter.motors[m].membership = .out .notReady) ∧
    State.reset.modes.advance = .absent ∧ State.reset.modes.build = .absent ∧
    State.reset.modes.haltOutput = false ∧
    (∀ p : Port, linkOf State.reset p = LinkRec.initial) ∧
    (∀ e ∈ State.reset.conds, e.latched = true → e.name = .powerOn)

/-- R5, R170, R181: HALTED is left by HALT CLEAR and by a power-on alone, UNCOMMISSIONED by CONSTANTS WRITE
and by a power-on alone, and only a power-on enters UNCOMMISSIONED. -/
def Obligations.HaltedAndUncommissionedLastUntil : Prop :=
  ∀ (c : Instr) (s t : State), exec c s = .next t → (∀ failed, c ≠ .powerOn failed) →
    (s.modes.mode = .halted → (∀ p, c ≠ .haltClear p) → t.modes.mode = .halted) ∧
    (s.modes.mode = .uncommissioned → (∀ p, c ≠ .constantsWrite p) → t.modes.mode = .uncommissioned) ∧
    (t.modes.mode = .uncommissioned → s.modes.mode = .uncommissioned)

/-! ## Links and requests -/

/-- R5, R199: a request on a link that is not its role's is refused ROLE, one whose body is not that of its rule
FORMAT, and one that R5 does not let through is refused STATE while the part is UNCOMMISSIONED; a frame that is no
request of the catalogue is answered FORMAT. Each refusal takes the frame and changes no record, but that R185 has a
ROLE or FORMAT refusal of PLAN ERASE, PLAN WRITE and PLAN WRITE NEXT replace the last command record: with the first
ring and the number of rows of the body where it can be read, with free values where it cannot (the model's choice,
log 17). The body of a rule is read by the model's widths and layouts where the manual leaves them open: the 8 bytes
of the speed of CUTTER SPEED, whose range no rule states (log 14), the order of the fields of DRIVE REPORT (log 15),
FORMAT for a yes/no or presence byte other than 0 and 1 (log 16). With another frame at the head, or none, a request
command changes nothing but what was last sent (the model's choice, log 3). -/
def Obligations.FirstChecksOfRequests : Prop :=
  (∀ (c : Instr) (n : Nat) (p : Port) (f : Frame) (s : State),
    requestId c = some n → portOf c = some p → s.powered = true →
    (headRequest p n s = some f →
      (p ∉ rolesOf n → n ∉ [28, 30, 31] → exec c s = .next (answeredOnly p f .role [] s)) ∧
      (p ∈ rolesOf n → bodyReads n f.body.tail = false → n ∉ [28, 30, 31] →
        exec c s = .next (answeredOnly p f .format [] s)) ∧
      (p ∈ rolesOf n → bodyReads n f.body.tail = true → commissioned s = false → takenEarly n = false →
        exec c s = .next (answeredOnly p f .state [.u8 0] s))) ∧
    (headRequest p n s = none → exec c s = .next (quiet s))) ∧
  (∀ (p : Port) (f : Frame) (rest : List Frame) (s : State), s.powered = true →
    (linkOf s p).requests = f :: rest → isRequestFrame f = false →
    exec (.unknownRequest p) s = .next (answeredOnly p f .format [] s)) ∧
  (∀ (n : Nat) (c : Instr) (k : PlanCommand) (p : Port) (f : Frame) (code : Code) (s : State),
    (n, c, k) ∈ [(28, .planErase p, .erase), (30, .planWrite p, .write), (31, .planWriteNext p, .writeNext)] →
    s.powered = true → headRequest p n s = some f →
    (p ∉ rolesOf n ∧ code = .role ∨ p ∈ rolesOf n ∧ bodyReads n f.body.tail = false ∧ code = .format) →
    ∃ t first rows, exec c s = .next t ∧ Served p f code [] [] [.plan] s t ∧ CondsFollow s t ∧
      t.plan =
        { s.plan with last := some { command := k, first, rows, written := 0, result := .refused code } } ∧
      (k = .erase → rows = 0 ∧ ∀ base, readWhole readWord f.body.tail = some base → first = base) ∧
      (k = .write → ∀ b l, readWhole readFirstAndRows f.body.tail = some (b, l) → first = b ∧ rows = l.length) ∧
      (k = .writeNext → first = s.plan.cursor ∧
        ∀ l, readWhole readPlanRows f.body.tail = some l → rows = l.length))

/-- R79, R80, R75, R101, R102, R106, R149: a motor, position or line outside its range is refused RANGE, and
nothing changes. -/
def Obligations.NamesOutOfRange : Prop :=
  (∀ (s : State) (f : Frame) (m : Nat), commissioned s = true → 8 ≤ m → Asks s .drive 13 readByte f m →
    exec (.motorReadmit .drive) s = .next (answeredOnly .drive f .range [] s)) ∧
  (∀ (s : State) (f : Frame) (q : Nat), commissioned s = true → 7 ≤ q →
    (Asks s .erector 17 readByte f q →
      exec (.segmentOpen .erector) s = .next (answeredOnly .erector f .range [] s)) ∧
    (Asks s .erector 18 readByte f q →
      exec (.segmentPlaced .erector) s = .next (answeredOnly .erector f .range [] s)) ∧
    (∀ o, Asks s .erector 19 readSegmentClose f (q, o) →
      exec (.segmentClose .erector) s = .next (answeredOnly .erector f .range [] s))) ∧
  (∀ (s : State) (f : Frame), commissioned s = true →
    (∀ l, 6 ≤ l → Asks s .grout 21 readByte f l →
      exec (.doseTake .grout) s = .next (answeredOnly .grout f .range [] s)) ∧
    (∀ a, 6 ≤ a.line ∨ 100000 < a.actual ∨ 2000 < a.peak → Asks s .grout 22 readDoseClose f a →
      exec (.doseClose .grout) s = .next (answeredOnly .grout f .range [] s)) ∧
    (∀ a, 6 ≤ a.line → Asks s .grout 23 readLineState f a →
      exec (.lineState .grout) s = .next (answeredOnly .grout f .range [] s)))

/-- R197, R198, R203, R206: the bytes of any frame, arriving whole on a link that is waiting for a start marker, are
taken for that frame: it joins the end of the request list, or is dropped when the list holds 8; the link is ACTIVE
and its last frame time is now; no block changes. R66, R178: on a SILENT link that the frame makes ACTIVE, the event's
notices on the link itself wait for the frame's answer (the model's choice, log 28), and so do, on a Drive link that
was ACTIVE before, the outstanding RETRACT and EXTEND orders; a frame dropped from a full list is never answered, and
the orders go out at once. What waits goes out with the answer, in the order of R178: READ, as the frame that makes the
Drive link ACTIVE again, is answered, and one RETRACT ORDER for every RETRACTING group and one EXTEND ORDER for every
RETURNING one follow, each group with the transition number that it has, then the notices that waited; at the first
activation after power-on no order is sent. -/
def Obligations.FrameArrives : Prop :=
  (∀ (s : State) (p : Port) (f : Frame), s.powered = true → (linkOf s p).rx = [] →
    1 ≤ f.body.length → f.body.length ≤ 1024 →
    ∃ t, exec (.frameReceive p f.bytes) s = .next t ∧
      linkOf t p =
        { active := true, ever := true, lastFrame := some s.now, rx := []
          requests :=
            if (linkOf s p).requests.length < 8 then (linkOf s p).requests ++ [f]
            else (linkOf s p).requests } ∧
      Stands s t ∧ OnlyChanges [] s t ∧ (∀ q, q ≠ p → linkOf t q = linkOf s q) ∧
      ((linkOf s p).active = true → t.held = s.held ∧ t.sent = closingNotices [] s t) ∧
      ((linkOf s p).active = false → (linkOf s p).requests.length < 8 →
        t.held = s.held.set (portIndex p).val
          (some
            { after := (linkOf s p).requests.length + 1
              orders := decide (p = .drive) && (linkOf s p).ever
              notices := ((s.held[portIndex p].map (·.notices)).getD []) ++
                (closingNotices [] s t).filter (·.port = p) }) (portIndex p).isLt ∧
        t.sent = (closingNotices [] s t).filter (·.port ≠ p)) ∧
      ((linkOf s p).active = false → 8 ≤ (linkOf s p).requests.length →
        t.held = s.held ∧
        t.sent = (if p = .drive ∧ (linkOf s p).ever = true then outstandingOrders s else []) ++
          closingNotices [] s t)) ∧
  (∀ (p : Port) (f : Frame) (code : Code) (fields : List Field) (s : State),
    (answeredOnly p f code fields s).sent = responseTo p f code fields :: afterResponse p [] [] s s ∧
    (answeredOnly p f code fields s).held =
      match s.held[portIndex p] with
      | none => s.held
      | some h =>
        s.held.set (portIndex p).val (if 1 < h.after then some { h with after := h.after - 1 } else none)
          (portIndex p).isLt) ∧
  ∀ (s : State) (f : Frame), s.powered = true → linkOf s .drive = { linkOf s .drive with active := false, rx := [] } →
    (linkOf s .drive).requests = [] → s.held[portIndex .drive] = none →
    1 ≤ f.body.length → f.body.length ≤ 1024 → f.isRequest 39 = true →
    ∃ t u code fields, exec (.frameReceive .drive f.bytes) s = .next t ∧ exec (.read .drive) t = .next u ∧
      u.sent = responseTo .drive f code fields ::
        ((if (linkOf s .drive).ever = true then outstandingOrders s else []) ++
          (closingNotices [] s t).filter (·.port = .drive)) ∧
      OnlyChanges [] s u

/-- R197: a frame whose bytes have not all arrived within 20 ms of its start marker is discarded; with no other
start marker among its bytes the receiver is left waiting for one, and neither the link state nor the last frame
time changes. -/
def Obligations.FrameTimesOut : Prop :=
  ∀ (s : State) (p : Port) (at_ : Nat) (rest : List (Byte × Nat)), s.powered = true →
    (linkOf s p).rx = (startMarker, at_) :: rest → (∀ b ∈ rest, b.1 ≠ startMarker) →
    (∀ h l tail, rest = h :: l :: tail → tail.length < h.1.toNat * 256 + l.1.toNat + 4) →
    at_ + 20 < s.now →
    ∃ t, exec (.frameTimeout p) s = .next t ∧ linkOf t p = { linkOf s p with rx := [] } ∧
      Stands s t ∧ OnlyChanges [] s t ∧ ∀ q, q ≠ p → linkOf t q = linkOf s q

/-- R40, R169, R182, R202: a link that has been without a valid frame for 1,000 ms becomes SILENT. On the Drive link
every previous stroke becomes absent, and a commissioned part is HALTED with the advance claim dropped and the halt
output asserted; another link's silence changes no block. R10, R168: at the entry into HALTED a pending selection
becomes active, unless more groups are held than its release limit; otherwise it waits on. -/
def Obligations.LinkGoesSilent : Prop :=
  ∀ (s : State) (p : Port) (at_ : Nat), s.powered = true → (linkOf s p).active = true →
    (linkOf s p).lastFrame = some at_ → at_ + 1000 ≤ s.now →
    ∃ t, exec (.linkSilenceExpiry p) s = .next t ∧ Stands s t ∧
      linkOf t p = { linkOf s p with active := false } ∧ (∀ q, q ≠ p → linkOf t q = linkOf s q) ∧
      (p ≠ .drive → OnlyChanges [] s t) ∧
      (p = .drive → (∀ g : Fin 16, t.account.prev[g] = none) ∧
        (commissioned s = true → s.modes.mode ≠ .halted →
          t.modes.mode = .halted ∧ t.modes.advance = .absent ∧ t.modes.haltOutput = true ∧
            t.modes.build = (if s.modes.build = .pending then .held else s.modes.build) ∧
            (∀ n, s.store.pendingProfile = some n → heldGroups s ≤ s.store.profiles[n].releaseBuild →
              t.store = { s.store with active := n, pendingProfile := none }) ∧
            ((∀ n, s.store.pendingProfile = some n → s.store.profiles[n].releaseBuild < heldGroups s) →
              t.store = s.store)) ∧
        (commissioned s = false ∨ s.modes.mode = .halted → OnlyChanges [.account] s t))

/-! ## Supply, resets, stored records -/

/-- R14, R38, R64, R90, R114, R133, R159, R180, R194, R196: a power-on keeps the stored records that pass their check
and brings everything else to its power-on values: the plan store's written count as stored, or formed anew where a
check fails, its command in progress INTERRUPTED; the mode is STANDSTILL with constants stored and UNCOMMISSIONED
without, no claim and no halt; every condition entry stands at its level, POWER_ON alone latched. After a supply loss
the halt contact is open, and until the next power-on no command changes anything but the record of what was last sent
(the model's choice, log 7). -/
def Obligations.SupplyComesAndGoes : Prop :=
  (∀ (failed : StoredFailures) (s : State), ∃ t, exec (.powerOn failed) s = .next t ∧
    t.powered = true ∧ t.now = 0 ∧ t.pending = s.pending ∧
    t.store.constants = (if failed.constants then none else s.store.constants) ∧
    (∀ i : Fin 4, t.store.profiles[i] =
      if i ∈ failed.profiles then Profile.default else s.store.profiles[i]) ∧
    t.store.active = (if failed.active then 0 else s.store.active) ∧ t.store.pendingProfile = none ∧
    t.store.lastClosed = (if failed.lastClosed then 0 else s.store.lastClosed) ∧
    t.ring = RingRec.initial (t.store.lastClosed + 1) ∧
    (failed.base = true ∨ failed.cursor = true →
      t.plan.rows = [] ∧ t.plan.base = 1 ∧ t.plan.cursor = 1 ∧ t.plan.written = 0) ∧
    (failed.base = false → failed.cursor = false →
      t.plan.base = s.plan.base ∧ t.plan.cursor = s.plan.cursor ∧
      t.plan.written =
        (if failed.written = true ∨ failed.rows ≠ [] then t.plan.rows.length else s.plan.written) ∧
      ∀ i, lookupRow t.plan.rows i = if i ∈ failed.rows then none else lookupRow s.plan.rows i) ∧
    t.plan.status = .idle ∧ t.plan.opEnd = none ∧ t.plan.running = none ∧ t.plan.job = none ∧
    t.plan.last =
      (if failed.last then none
      else
        match s.plan.running with
        | some c => some { c with result := .interrupted }
        | none => s.plan.last) ∧
    t.account = Account.initial ∧
    (∀ g : Fin 16, t.groups[g] = GroupRec.initial) ∧ t.stack = ReleaseStack.initial ∧
    t.grout = Grout.initial ∧ t.chamber = Chamber.initial ∧ t.cutter = Cutter.initial ∧
    t.modes.mode = (if t.store.constants.isSome then .standstill else .uncommissioned) ∧
    t.modes.advance = .absent ∧ t.modes.build = .absent ∧ t.modes.haltOutput = false ∧
    t.modes.operatorHalt = false ∧ t.permits = permitsOf t ∧
    t.conds.map (fun e => (e.name, e.subject)) = condKeys ∧
    (∀ e ∈ t.conds, e.active = level t e.name e.subject ∧ e.cls = classOf t e.name e.subject ∧
      e.latched = decide (e.name = .powerOn) ∧ e.changedAt = 0) ∧
    (∀ p : Port, linkOf t p = LinkRec.initial) ∧ t.held = Vector.replicate 5 none) ∧
  (∀ s : State, ∃ t, exec .supplyLoss s = .next t ∧ t.powered = false ∧ contactOpen t = true ∧
    OnlyChanges [] s t ∧ t.links = s.links ∧ t.pending = s.pending ∧ t.permits = s.permits ∧ t.conds = s.conds) ∧
  (∀ (c : Instr) (s : State), s.powered = false → (∀ failed, c ≠ .powerOn failed) →
    exec c s = .next (quiet s))

/-- R39, R65, R91, R115, R134, R160, R181, R194, R196, R204, R205: WARM RESET and an assertion of the reset
input of at least 1 ms bring each block to its warm reset values and keep the rest; the conditions follow, and the
response carries the mode. R10, R15: with no selection pending, or one that the held groups defer, nothing else happens;
a selection that is not deferred is made active, after the blocks have their warm reset values. A shorter assertion does
nothing. The code of the mode (log 13), what becomes of what waits for an answer (log 28) and that a WARM RESET which
waits in the Cabin list is dropped with the other requests (log 37) are the model's choices. -/
def Obligations.WarmResetOfBlocks : Prop :=
  (∀ (s : State) (i : Instr),
    (i = .warmReset .cabin ∧ ∃ f, Asks s .cabin 38 readNothing f ()) ∨
      (s.powered = true ∧ ∃ ms, 1 ≤ ms ∧ i = .resetInput ms) →
    (∀ n, s.store.pendingProfile = some n → s.store.profiles[n].releaseBuild < heldGroups s) →
    ∃ t, exec i s = .next t ∧ Stands s t ∧
      t.store = s.store ∧ t.ring = s.ring ∧ t.plan = s.plan ∧ t.grout = s.grout ∧
      t.account = { s.account with prev := Vector.replicate 16 none, speed := 0 } ∧
      (∀ g : Fin 16, t.groups[g] =
        if s.groups[g].state = .retracting ∨ s.groups[g].state = .returning then
          { s.groups[g] with state := .uncertain, stateTime := s.now, slow := false }
        else { s.groups[g] with slow := false }) ∧
      t.stack =
        { s.stack with entries := s.stack.entries.map fun e => { e with openedAt := s.now, overtime := false } } ∧
      (∀ k : Fin 5, t.chamber.transducers[k] =
        { s.chamber.transducers[k] with valid := false, referred := none }) ∧
      t.chamber =
        { s.chamber with
          transducers := t.chamber.transducers, status := .lost, lastReport := none, validCount := 0
          snapshot := some s.chamber.integrator, setpoint := 0, gateAllowed := false, beltRef := none
          lastBelt := none } ∧
      (∀ m : Fin 8, t.cutter.motors[m] =
        { s.cutter.motors[m] with
          inShare := s.cutter.motors[m].inShare || decide (s.cutter.motors[m].membership = .isIn)
          deviation := none }) ∧
      t.cutter =
        { s.cutter with
          run :=
            match s.cutter.run with
            | .tripped => .tripped
            | .jammed | .rocking => .jammed
            | .stopped | .starting | .running | .stopping => .stopped
          phase := none, reference := 0, ramp := none, rampSteps := 0, jam := none, rock := none, watch := none
          indexRef := none, revAdvance := 0, indexLost := false, penetrationHigh := false, governor := 1000
          motors := t.cutter.motors } ∧
      t.modes.advance = .absent ∧ t.modes.build = .absent ∧ t.modes.operatorHalt = s.modes.operatorHalt ∧
      t.modes.mode =
        (match s.modes.mode with
          | .uncommissioned => .uncommissioned
          | .halted => .halted
          | .standstill | .advance | .build | .continuous => .standstill) ∧
      t.modes.haltOutput = decide (s.modes.mode = .halted) ∧
      (∀ p : Port, linkOf t p = { linkOf s p with requests := [] }) ∧ t.held = Vector.replicate 5 none ∧
      t.permits = permitsOf t ∧ CondsFollow s t) ∧
  (∀ (s : State) (i : Instr) (n : Fin 4) (p : Profile),
    (i = .warmReset .cabin ∧ ∃ f, Asks s .cabin 38 readNothing f ()) ∨
      (s.powered = true ∧ ∃ ms, 1 ≤ ms ∧ i = .resetInput ms) →
    s.store.pendingProfile = some n → p = s.store.profiles[n] → heldGroups s ≤ p.releaseBuild →
    ∃ t, exec i s = .next t ∧ Stands s t ∧
      t.store = { s.store with active := n, pendingProfile := none } ∧ t.ring = s.ring ∧ t.plan = s.plan ∧
      t.chamber.status = .lost ∧ t.chamber.setpoint = 0 ∧ t.chamber.gateAllowed = false ∧
      t.chamber.integrator = min s.chamber.integrator (1000 * p.screwMax) ∧
      t.chamber.snapshot = some (min s.chamber.integrator (1000 * p.screwMax)) ∧
      t.cutter.governor = 1000 ∧ t.cutter.reference = 0 ∧ t.cutter.torqueCeiling = torqueCeilingOf t ∧
      t.modes.advance = .absent ∧ t.modes.build = .absent ∧
      (∀ g : Fin 16, t.groups[g].holdCount = s.groups[g].holdCount)) ∧
  (∀ (s : State) (f : Frame), Asks s .cabin 38 readNothing f () → ∃ t, exec (.warmReset .cabin) s = .next t ∧
    t.sent.head? = some (responseTo .cabin f .done [.u8 t.modes.mode.code])) ∧
  (∀ s : State, s.powered = true → ∃ t, exec (.resetInput 0) s = .next t ∧ Made [] [] s t)

/-- R3, R4, R5: CONSTANTS WRITE from UNCOMMISSIONED or STANDSTILL, with no position open and the ring IDLE, stores a
valid record; last strokes and previous strokes come down to the new stroke maximum, the THRUST mean stroke and
the torque ceiling are computed again, and the part is commissioned. It is refused STATE otherwise, and RANGE with
a record that is not valid. -/
def Obligations.ConstantsWritten : Prop :=
  ∀ (s : State) (f : Frame) (c : Constants), Asks s .cabin 25 readConstants f c →
    (constantsWritable s = false → exec (.constantsWrite .cabin) s = .next (answeredOnly .cabin f .state [.u8 0] s)) ∧
    (constantsWritable s = true → constantsValid c = false →
      exec (.constantsWrite .cabin) s = .next (answeredOnly .cabin f .range [] s)) ∧
    (constantsWritable s = true → constantsValid c = true → ∃ t, exec (.constantsWrite .cabin) s = .next t ∧
      t.sent.head? = some (responseTo .cabin f .done []) ∧ Stands s t ∧ t.store.constants = some c ∧
      (∀ g : Fin 16, t.groups[g] = { s.groups[g] with lastStroke := min s.groups[g].lastStroke c.strokeMax }) ∧
      (∀ g : Fin 16, t.account.prev[g] =
        s.account.prev[g].map fun q => { q with stroke := min q.stroke c.strokeMax }) ∧
      commissioned t = true ∧ t.ring = s.ring ∧ t.plan = s.plan ∧
      (s.modes.mode = .standstill → t.modes = s.modes ∧ t.grout = s.grout ∧ t.stack = s.stack ∧
        t.account.thrustMean = meanOfThrust t.groups ∧ t.cutter.torqueCeiling = torqueCeilingOf t) ∧
      (s.modes.mode = .uncommissioned → s.modes.advance = .absent → s.modes.build = .absent →
        t.modes.mode = if activeHalts s = [] then .standstill else .halted))

/-- R7: PROFILE WRITE stores a valid profile at an index that is neither active nor pending, changes nothing else,
and is refused ACTIVE for a protected index and RANGE for a fourth index or values out of range.
R8, R9, R10, R11: PROFILE SELECT of the active index clears the selection (CLEARED); of another index, in a mode
in which the machine stands and with no more groups held than the new profile's release limit, it makes the switch
at once (SWITCHED): the index is stored, integrator and snapshot are clamped to the new screw maximum (a cutterhead that
the new minimum of motors stops takes its snapshot then, R11, R127), the setpoint is computed again from the estimate,
the clamped integrator and the advance speed with the new profile's target, Kp and Kf, no higher than the standstill
ceiling while the cutterhead is STOPPED (R124, R126), that of a LOST estimate is limited to the new standstill ceiling,
and the torque ceiling is computed again. That the setpoint takes the advance speed that stood before the closures which
the same switch may make, and that the snapshot of a cutterhead which the switch stops is the integrator already
clamped, rests on the order of the parts of a switch, which is the model's choice (log 19). Otherwise the selection
waits (PENDING) and nothing else changes. An index outside 0–3 is refused RANGE. -/
def Obligations.ProfilesWrittenAndSelected : Prop :=
  (∀ (s : State) (f : Frame) (n : Nat) (q : Profile), Asks s .cabin 26 readProfileWrite f (n, q) →
    (n = s.store.active.val ∨ s.store.pendingProfile.map (·.val) = some n →
      exec (.profileWrite .cabin) s = .next (answeredOnly .cabin f .active [] s)) ∧
    (n ≠ s.store.active.val → s.store.pendingProfile.map (·.val) ≠ some n →
      4 ≤ n ∨ profileValid q = false →
      exec (.profileWrite .cabin) s = .next (answeredOnly .cabin f .range [] s)) ∧
    (n ≠ s.store.active.val → s.store.pendingProfile.map (·.val) ≠ some n → profileValid q = true →
      ∀ h : n < 4, ∃ t, exec (.profileWrite .cabin) s = .next t ∧
        Served .cabin f .done [] [] [.store] s t ∧ CondsFollow s t ∧
        t.store = { s.store with profiles := s.store.profiles.set n q h })) ∧
  (∀ (s : State) (f : Frame) (n : Nat), Asks s .cabin 27 readByte f n → 4 ≤ n →
    exec (.profileSelect .cabin) s = .next (answeredOnly .cabin f .range [] s)) ∧
  ∀ (s : State) (f : Frame) (n : Fin 4), Asks s .cabin 27 readByte f n.val →
    (n = s.store.active → ∃ t, exec (.profileSelect .cabin) s = .next t ∧
      Served .cabin f .done [.u8 0] [] [.store] s t ∧ t.store = { s.store with pendingProfile := none }) ∧
    (n ≠ s.store.active →
      stands s.modes.mode = false ∨ releaseLimitIn s.store.profiles[n] s.modes.mode < heldGroups s →
      ∃ t, exec (.profileSelect .cabin) s = .next t ∧ Served .cabin f .done [.u8 2] [] [.store] s t ∧
        t.store = { s.store with pendingProfile := some n }) ∧
    (n ≠ s.store.active → stands s.modes.mode = true →
      heldGroups s ≤ releaseLimitIn s.store.profiles[n] s.modes.mode →
      ∃ t, exec (.profileSelect .cabin) s = .next t ∧
        t.sent.head? = some (responseTo .cabin f .done [.u8 1]) ∧ Stands s t ∧
        t.store = { s.store with active := n, pendingProfile := none } ∧ activeProfile t = s.store.profiles[n] ∧
        t.groups = s.groups ∧ t.ring = s.ring ∧ t.plan = s.plan ∧ t.modes = s.modes ∧
        t.chamber.integrator = min s.chamber.integrator (1000 * (activeProfile t).screwMax) ∧
        t.chamber.snapshot =
          (if s.cutter.run = .running ∧ motorsLow t = true then some t.chamber.integrator
          else s.chamber.snapshot.map (min · (1000 * (activeProfile t).screwMax))) ∧
        (s.chamber.status = .lost →
          t.chamber.setpoint = min s.chamber.setpoint (activeProfile t).standstillCeiling) ∧
        (s.chamber.status ≠ .lost → ∀ (p : Profile) (v : Int), p = s.store.profiles[n] →
          v = roundHalfUp (p.kp * (s.chamber.estimate - p.faceTarget) + t.chamber.integrator
            + p.kf * s.account.speed) 1000 →
          t.chamber.setpoint =
            if s.cutter.run = .stopped then min (min v.toNat p.screwMax) p.standstillCeiling
            else min v.toNat p.screwMax) ∧
        t.cutter.torqueCeiling = torqueCeilingOf t)

/-! ## The advance account -/

/-- R21: the report advance is the mean of the contributing deltas, rounded to nearest with ties away from zero;
without a contributor it is 0. -/
def Obligations.ReportAdvanceIsRoundedMean : Prop :=
  reportAdvance [] = 0 ∧
  ∀ deltas : List Int, deltas ≠ [] →
    2 * (reportAdvance deltas * deltas.length - deltas.sum).natAbs ≤ deltas.length ∧
    (2 * (reportAdvance deltas * deltas.length - deltas.sum).natAbs = deltas.length →
      deltas.sum.natAbs < (reportAdvance deltas * deltas.length).natAbs)

/-- R18, R19, R20: the deltas that count are those of the THRUST groups with a valid stroke, an eligible previous one
and a difference of at most 500 between the two; a larger difference makes the stroke suspect.
R18 to R24, R36: a STROKE REPORT that brings no increment to its length. Each stroke is classed, the report
advance is the rounded mean of the deltas that count, a negative one raises the residue (at most to 500), a
positive one pays it off first, and what is left is counted in ADVANCE and CONTINUOUS and discarded otherwise. -/
def Obligations.StrokeReportCounts : Prop :=
  (∀ (s : State) (a : StrokeArgs),
    (∀ g : Fin 16, isSuspect s a g = true ↔
      s.groups[g].state = .thrust ∧ a.flags[g] = true ∧ ∃ q, s.account.prev[g] = some q ∧ q.eligible = true ∧
        500 < ((min a.strokes[g] (constantsOf s).strokeMax : Nat) - (q.stroke : Int)).natAbs) ∧
    contributions s a = (List.finRange 16).filterMap fun g =>
      match s.account.prev[g] with
      | some q =>
        if s.groups[g].state = .thrust ∧ a.flags[g] = true ∧ q.eligible = true ∧
            ((min a.strokes[g] (constantsOf s).strokeMax : Nat) - (q.stroke : Int)).natAbs ≤ 500 then
          some ((min a.strokes[g] (constantsOf s).strokeMax : Nat) - (q.stroke : Int))
        else none
      | none => none) ∧
  ∀ (s : State) (f : Frame) (a : StrokeArgs), Asks s .drive 1 readStrokes f a → commissioned s = true →
    ∀ (d : Int) (left counted : Nat), d = reportAdvance (contributions s a) →
    left = d.toNat - s.account.residue →
    counted = (if s.modes.mode = .advance ∨ s.modes.mode = .continuous then left else 0) →
    s.account.accumulator + counted < (activeProfile s).incrementLength →
    ∃ t, exec (.strokeReport .drive) s = .next t ∧
      Served .drive f .done
        [.u8 (contributions s a).length, .i16 d, .u16 counted, .u16 (left - counted), .u8 0,
          .u16 t.account.accumulator, .u16 t.account.residue] []
        [.account, .groups, .cutter] s t ∧ CondsFollow s t ∧
      t.account =
        { s.account with
          residue := if d < 0 then min (s.account.residue + d.natAbs) 500 else s.account.residue - d.toNat
          accumulator := s.account.accumulator + counted
          cycle := { s.account.cycle with advance := satAdd s.account.cycle.advance counted }
          totals := { s.account.totals with advance := s.account.totals.advance.add counted }
          prev := t.account.prev, thrustMean := meanOfThrust t.groups } ∧
      (∀ g : Fin 16, t.groups[g] =
        if a.flags[g] = true then
          { s.groups[g] with
            lastStroke := min a.strokes[g] (constantsOf s).strokeMax
            validity := if isSuspect s a g then .suspect else .valid }
        else { s.groups[g] with validity := .invalid }) ∧
      (∀ g : Fin 16, t.account.prev[g] =
        if a.flags[g] = true then
          some { stroke := min a.strokes[g] (constantsOf s).strokeMax
                 eligible := decide (s.groups[g].state = .thrust ∧ t.groups[g].validity = .valid) }
        else none) ∧
      t.cutter =
        { s.cutter with
          revAdvance :=
            if s.cutter.run = .running ∧ s.cutter.indexRef.isSome = true then
              min (s.cutter.revAdvance + counted) 65535
            else s.cutter.revAdvance }

/-- R24 to R32, R96, R98, R99, R100, R131: a STROKE REPORT that brings the accumulator to the increment length once
closes one increment: the counter rises (1 after the last number), the record joins the history with the volumes, the
grout and the mass of R26 to R29, each with its remainder kept, cycle and totals follow, the advance speed is taken
from the time and the length since the last closures, the grout required with the pool carry is spread over the
recipients, each order cut into pieces of the line's cap and posted while descriptors are free, and the cycle gets its
spoil verdict. So it is with no selection pending and with one that is deferred. R9, R10, R11, R12: a selection that
is not deferred becomes active after the closure, which is still computed with the old profile; in CONTINUOUS a
profile that does not allow it makes the advance claim PENDING and the mode BUILD. -/
def Obligations.StrokeReportCloses : Prop :=
  (∀ (s : State) (f : Frame) (a : StrokeArgs) (p : Profile) (d : Int) (counted len v w x m inst : Nat)
    (base : Option Nat) (shares : Vector Nat 6),
    Asks s .drive 1 readStrokes f a → commissioned s = true → s.account.counter ≤ 4294967295 →
    (∀ n, s.store.pendingProfile = some n → releaseLimitIn s.store.profiles[n] s.modes.mode < heldGroups s) →
    s.modes.mode = .advance ∨ s.modes.mode = .continuous → p = activeProfile s → 1000 ≤ p.maxDose →
    d = reportAdvance (contributions s a) → counted = d.toNat - s.account.residue →
    len = p.incrementLength → 0 < len →
    len ≤ s.account.accumulator + counted → s.account.accumulator + counted < 2 * len →
    v = ((constantsOf s).excavationArea * len + s.account.remVolume) / 100 →
    w = ((constantsOf s).tailVoidArea * len + s.account.remTail) / 100 →
    x = (w * fillFactor s + s.account.remGrout) / 1000 →
    m = (v * p.density + s.account.remMass) / 1000000 →
    (base, inst) =
      (match s.account.increments.getLast? with
        | none => (none, len)
        | some r =>
          if r.time < s.now then (some r.time, len)
          else (s.account.speedBase, s.account.instantLength + len)) →
    shares = Vector.ofFn (fun i => if s.grout.lines[i].service = .inService then p.shares[i] else 0) →
    ∃ t number lagged steps told, exec (.strokeReport .drive) s = .next t ∧
      number = (if s.account.counter < 4294967295 then s.account.counter + 1 else 1) ∧
      ServedBy steps .drive f .done
        [.u8 (contributions s a).length, .i16 d, .u16 counted, .u16 0, .u8 1, .u16 t.account.accumulator,
          .u16 t.account.residue] told [.account, .groups, .grout, .chamber, .cutter] s t ∧
      (t.chamber = s.chamber ∨ t.chamber = heldDown s s) ∧
      lagged = satAdd s.account.cycle.expected m -
        ((t.account.increments.reverse.take (min p.spoilLag t.account.cycle.increments)).map (·.mass)).sum ∧
      t.account =
        { s.account with
          residue := if d < 0 then min (s.account.residue + d.natAbs) 500 else s.account.residue - d.toNat
          accumulator := s.account.accumulator + counted - len
          remVolume := ((constantsOf s).excavationArea * len + s.account.remVolume) % 100
          remTail := ((constantsOf s).tailVoidArea * len + s.account.remTail) % 100
          remGrout := (w * fillFactor s + s.account.remGrout) % 1000
          remMass := (v * p.density + s.account.remMass) % 1000000
          counter := number
          increments := pushCapped 16 s.account.increments
            { number, time := s.now, length := len, volume := v, tailVoid := w, grout := x, mass := m
              mode := s.modes.mode }
          cycle :=
            { s.account.cycle with
              advance := satAdd s.account.cycle.advance counted
              increments := satAdd s.account.cycle.increments 1, volume := satAdd s.account.cycle.volume v
              tailVoid := satAdd s.account.cycle.tailVoid w, required := satAdd s.account.cycle.required x
              expected := satAdd s.account.cycle.expected m, lagged := some lagged
              verdict := some (
                if lagged = 0 ∨ lagged < p.minExpected then .undetermined
                else if 1000 + p.surplus < s.account.cycle.measured * 1000 / lagged then .over
                else if s.account.cycle.measured * 1000 / lagged < 1000 - p.deficit then .under
                else .balanced) }
          totals :=
            { s.account.totals with
              advance := s.account.totals.advance.add counted, volume := s.account.totals.volume.add v
              tailVoid := s.account.totals.tailVoid.add w, required := s.account.totals.required.add x }
          speedBase := base, instantLength := inst
          speed :=
            match base with
            | some b => min (inst * 6000 / (s.now - b)) 999
            | none => s.account.speed
          prev := t.account.prev, thrustMean := meanOfThrust t.groups } ∧
      (sumNat shares = 0 →
        told = [] ∧ t.grout = { s.grout with pool := s.grout.pool + x, judged := true }) ∧
      (sumNat shares ≠ 0 → ∃ pieces : Fin 6 → List Nat,
        (∀ i : Fin 6, s.grout.lines[i].service ≠ .inService →
          pieces i = [] ∧ t.grout.lines[i] = s.grout.lines[i]) ∧
        (∀ (i : Fin 6) (order : Int) (cap : Nat) (kept : List Descriptor),
          s.grout.lines[i].service = .inService →
          order = (signedPortions shares (x + s.grout.pool))[i] + s.grout.lines[i].carry →
          cap = (match s.grout.lines[i].capacity with
            | .full => p.maxDose
            | .half => p.maxDose / 2
            | .quarter => p.maxDose / 4) →
          kept = s.grout.lines[i].descriptors.filter (fun e => decide (e.state = .posted ∨ e.state = .taken)) →
          (order ≤ 0 → pieces i = [] ∧ t.grout.lines[i] = { s.grout.lines[i] with carry := order }) ∧
          (0 < order →
            pieces i =
              (List.replicate (order.toNat / cap) cap ++
                if order.toNat % cap = 0 then [] else [order.toNat % cap]).take (4 - kept.length) ∧
            t.grout.lines[i] =
              { s.grout.lines[i] with
                carry := order - ((pieces i).sum : Nat)
                nextSequence := (s.grout.lines[i].nextSequence + (pieces i).length) % 256
                descriptors := kept ++ (pieces i).mapIdx fun j piece =>
                  { dose :=
                      { sequence := (s.grout.lines[i].nextSequence + j) % 256, increment := number
                        target := piece, limit := p.pressureLimits[i] }
                    state := .posted } })) ∧
        t.grout.pool = 0 ∧ t.grout.judged = true ∧
        told =
          if ∀ i : Fin 6, pieces i = [] then []
          else
            [noticeOn .grout (.dosePosted number x
              ((List.finRange 6).flatMap fun i => (pieces i).mapIdx fun j piece =>
                { line := i, sector := (constantsOf s).lineSectors[i]
                  sequence := (s.grout.lines[i].nextSequence + j) % 256, target := piece
                  limit := p.pressureLimits[i] })
              (Vector.ofFn fun i => t.grout.lines[i].carry) 0 (debtOf t.grout))])) ∧
  (∀ (s : State) (f : Frame) (a : StrokeArgs) (n : Fin 4) (p q : Profile) (counted len v w : Nat),
    Asks s .drive 1 readStrokes f a → commissioned s = true → s.store.pendingProfile = some n →
    s.modes.mode = .advance ∨ s.modes.mode = .continuous → p = activeProfile s → q = s.store.profiles[n] →
    heldGroups s ≤ releaseLimitIn q s.modes.mode →
    counted = (reportAdvance (contributions s a)).toNat - s.account.residue →
    len = p.incrementLength → 0 < len → len ≤ s.account.accumulator + counted →
    s.account.accumulator + counted - len < q.incrementLength →
    v = ((constantsOf s).excavationArea * len + s.account.remVolume) / 100 →
    w = ((constantsOf s).tailVoidArea * len + s.account.remTail) / 100 →
    ∃ t number, exec (.strokeReport .drive) s = .next t ∧ Stands s t ∧
      number = (if s.account.counter < 4294967295 then s.account.counter + 1 else 1) ∧
      t.store = { s.store with active := n, pendingProfile := none } ∧
      t.account.accumulator = s.account.accumulator + counted - len ∧
      t.account.increments = pushCapped 16 s.account.increments
        { number, time := s.now, length := len, volume := v, tailVoid := w
          grout := (w * fillFactor s + s.account.remGrout) / 1000
          mass := (v * p.density + s.account.remMass) / 1000000, mode := s.modes.mode } ∧
      t.chamber.integrator = min s.chamber.integrator (1000 * q.screwMax) ∧
      t.cutter.torqueCeiling = torqueCeilingOf t ∧
      t.stack.entries = s.stack.entries.map (fun e =>
        { e with overtime := e.overtime || decide (e.openedAt + q.releaseTime < s.now) }) ∧
      (s.modes.mode = .continuous → q.continuousAllowed = false →
        t.modes.mode = .build ∧ t.modes.advance = .pending ∧ t.modes.build = s.modes.build) ∧
      (s.modes.mode = .advance ∨ q.continuousAllowed = true → t.modes = s.modes) ∧
      t.ring = s.ring ∧ t.plan = s.plan)

/-! ## Groups and the release stack -/

/-- R46, R51: RETRACT DONE with the newest number makes a RETRACTING group RELEASED; each OPENING entry whose cover
holds it and is now RELEASED throughout becomes OPEN and is granted, bottom entry first (the model's choice, log 20);
the permits follow each grant (R174, R176; the model's choice, log 10). In any other case it is answered STALE with
the group's state and number; a group outside 0–15 is refused RANGE; neither changes anything. -/
def Obligations.RetractDoneReleases : Prop :=
  (∀ (s : State) (f : Frame) (g : Fin 16), Asks s .drive 3 readConfirmation f (g.val, s.groups[g].transition) →
    commissioned s = true → s.groups[g].state = .retracting →
    ∃ t opens granted, exec (.retractDone .drive) s = .next t ∧
      (∀ e, opens e = true ↔
        e.state = .opening ∧ g ∈ e.cover ∧ ∀ h ∈ e.cover, h = g ∨ s.groups[h].state = .released) ∧
      granted = (s.stack.entries.filter opens).reverse ∧
      ServedBy
        ((List.range granted.length).map fun k =>
          { t.permits with build :=
              { t.permits.build with
                entries := s.stack.entries.reverse.map fun e =>
                  (e.position, if e ∈ granted.take (k + 1) then .opened else e.state) } })
        .drive f .done [.u8 2]
        (granted.map fun e => noticeOn .erector (.segmentGranted e.position e.cover s.stack.entries.length))
        [.groups, .stack] s t ∧ CondsFollow s t ∧
      t.groups = s.groups.set g.val
        { s.groups[g] with state := .released, stateTime := s.now, slow := false } g.isLt ∧
      t.stack =
        { s.stack with
          entries := s.stack.entries.map fun e => if opens e then { e with state := .opened } else e }) ∧
  (∀ (s : State) (f : Frame) (g n : Nat), Asks s .drive 3 readConfirmation f (g, n) → commissioned s = true →
    (16 ≤ g → exec (.retractDone .drive) s = .next (answeredOnly .drive f .range [] s)) ∧
    (∀ h : g < 16, s.groups[g].state ≠ .retracting ∨ s.groups[g].transition ≠ n →
      exec (.retractDone .drive) s = .next
        (answeredOnly .drive f .stale [.u8 s.groups[g].state.code, .u8 s.groups[g].transition] s)))

/-- R52, R63: EXTEND DONE with the newest number makes a RETURNING group THRUST; the THRUST mean stroke follows, and
nothing else changes, but where the group was the last for which the ring builder waits. R34, R85, R86: the EXTEND DONE
that leaves no group held, RETURNING or UNCERTAIN while the ring is CLOSING closes the ring: its number is stored, the
cycle is recorded and a new one begins, and the record is IDLE for the next ring. R89: the one that leaves no group
RETURNING or UNCERTAIN while the ring is ABORTING, with the stack empty, completes the abort: the ring is ARMED again,
its queue as it stands. In any other case EXTEND DONE is answered STALE; a group outside 0–15 is refused RANGE. -/
def Obligations.ExtendDoneReturns : Prop :=
  (∀ (s : State) (f : Frame) (g n : Nat), Asks s .drive 4 readConfirmation f (g, n) → commissioned s = true →
    (16 ≤ g → exec (.extendDone .drive) s = .next (answeredOnly .drive f .range [] s)) ∧
    (∀ h : g < 16, s.groups[g].state ≠ .returning ∨ s.groups[g].transition ≠ n →
      exec (.extendDone .drive) s = .next
        (answeredOnly .drive f .stale [.u8 s.groups[g].state.code, .u8 s.groups[g].transition] s))) ∧
  ∀ (s : State) (f : Frame) (g : Fin 16) (settled : Bool),
    Asks s .drive 4 readConfirmation f (g.val, s.groups[g].transition) → commissioned s = true →
    s.groups[g].state = .returning →
    settled = decide (∀ h : Fin 16, h ≠ g → s.groups[h].state ≠ .returning ∧ s.groups[h].state ≠ .uncertain) →
    ∃ t told changed, exec (.extendDone .drive) s = .next t ∧
      Served .drive f .done [.u8 0] told changed s t ∧ CondsFollow s t ∧
      t.groups = s.groups.set g.val
        { s.groups[g] with state := .thrust, stateTime := s.now, slow := false } g.isLt ∧
      (s.ring.state = .closing ∧ settled = true ∧ heldGroups s = 0 →
        changed = [.groups, .account, .store, .ring] ∧
        told = [noticeOn .erector (.ringState (s.ring.number + 1) .idle .closed [] [])] ∧
        t.store = { s.store with lastClosed := s.ring.number } ∧
        t.ring = RingRec.initial (s.ring.number + 1) ∧
        t.account =
          { s.account with
            thrustMean := meanOfThrust t.groups
            cycles := pushCapped 8 s.account.cycles { ring := s.ring.number, cycle := s.account.cycle }
            cycle := Cycle.start }) ∧
      (s.ring.state = .aborting ∧ settled = true ∧ s.stack.entries = [] →
        changed = [.groups, .account, .ring] ∧
        told = [noticeOn .erector
          (.ringState s.ring.number .armed .abortComplete s.ring.queue s.ring.setList)] ∧
        t.ring = { s.ring with state := .armed } ∧
        t.account = { s.account with thrustMean := meanOfThrust t.groups }) ∧
      (¬(s.ring.state = .closing ∧ settled = true ∧ heldGroups s = 0) →
        ¬(s.ring.state = .aborting ∧ settled = true ∧ s.stack.entries = []) →
        changed = [.groups, .account] ∧ told = [] ∧
        t.account = { s.account with thrustMean := meanOfThrust t.groups })

/-- R55: GROUP FAULT makes a group LOCKED_OUT, its hold count and transition number kept, and answers its former
state; a group already LOCKED_OUT changes nothing. Only the group and the THRUST mean stroke change, but where the fault
takes away the last group for which the ring builder waits (R34, R63, R85, R86, R89): then a CLOSING ring closes, its
cycle recorded, and an ABORTING one is ARMED again. A group outside 0–15 is refused RANGE. -/
def Obligations.GroupFaultLocksOut : Prop :=
  (∀ (s : State) (f : Frame) (g : Nat), Asks s .drive 5 readByte f g → commissioned s = true → 16 ≤ g →
    exec (.groupFault .drive) s = .next (answeredOnly .drive f .range [] s)) ∧
  ∀ (s : State) (f : Frame) (g : Fin 16) (settled : Bool), Asks s .drive 5 readByte f g.val →
    commissioned s = true →
    (s.groups[g].state = .lockedOut →
      exec (.groupFault .drive) s = .next (answeredOnly .drive f .done [.u8 4] s)) ∧
    (s.groups[g].state ≠ .lockedOut →
      settled = decide ((s.groups[g].state = .returning ∨ s.groups[g].state = .uncertain) ∧
        ∀ h : Fin 16, h ≠ g → s.groups[h].state ≠ .returning ∧ s.groups[h].state ≠ .uncertain) →
      ∃ t told changed, exec (.groupFault .drive) s = .next t ∧
        Served .drive f .done [.u8 s.groups[g].state.code] told changed s t ∧ CondsFollow s t ∧
        t.groups = s.groups.set g.val
          { s.groups[g] with state := .lockedOut, stateTime := s.now, slow := false } g.isLt ∧
        (s.ring.state = .closing ∧ settled = true ∧ heldGroups s = 0 →
          changed = [.groups, .account, .store, .ring] ∧
          told = [noticeOn .erector (.ringState (s.ring.number + 1) .idle .closed [] [])] ∧
          t.store = { s.store with lastClosed := s.ring.number } ∧
          t.ring = RingRec.initial (s.ring.number + 1) ∧
          t.account =
            { s.account with
              thrustMean := meanOfThrust t.groups
              cycles := pushCapped 8 s.account.cycles { ring := s.ring.number, cycle := s.account.cycle }
              cycle := Cycle.start }) ∧
        (s.ring.state = .aborting ∧ settled = true ∧ s.stack.entries = [] →
          changed = [.groups, .account, .ring] ∧
          told = [noticeOn .erector
            (.ringState s.ring.number .armed .abortComplete s.ring.queue s.ring.setList)] ∧
          t.ring = { s.ring with state := .armed } ∧
          t.account = { s.account with thrustMean := meanOfThrust t.groups }) ∧
        (¬(s.ring.state = .closing ∧ settled = true ∧ heldGroups s = 0) →
          ¬(s.ring.state = .aborting ∧ settled = true ∧ s.stack.entries = []) →
          changed = [.groups, .account] ∧ told = [] ∧
          t.account = { s.account with thrustMean := meanOfThrust t.groups }))

/-- R56: GROUP STATE brings an UNCERTAIN or LOCKED_OUT group to the state that its reported position and its hold
count give, with a raised number and an order where one is issued, and grants as RETRACT DONE does (bottom entry
first, the permits following each grant: the model's choices, log 20 and 10); a group in another state is refused
STATE, and one outside 0–15 RANGE. R34, R63, R85, R86, R89: the resolution of the last UNCERTAIN group for which the
ring builder waits closes a CLOSING ring, with no group held or RETURNING, its cycle recorded, and completes an ABORTING
one, with the stack empty and no group RETURNING. The resolution of a LOCKED_OUT group does neither. -/
def Obligations.GroupStateResolves : Prop :=
  (∀ (s : State) (f : Frame) (g : Nat) (x : GroupPosition), Asks s .drive 6 readGroupState f (g, x) →
    commissioned s = true → 16 ≤ g →
    exec (.groupState .drive) s = .next (answeredOnly .drive f .range [] s)) ∧
  ∀ (s : State) (f : Frame) (g : Fin 16) (x : GroupPosition), Asks s .drive 6 readGroupState f (g.val, x) →
    commissioned s = true →
    (s.groups[g].state ≠ .uncertain → s.groups[g].state ≠ .lockedOut →
      exec (.groupState .drive) s = .next (answeredOnly .drive f .state [.u8 0] s)) ∧
    (∀ last closes completes : Bool, s.groups[g].state = .uncertain ∨ s.groups[g].state = .lockedOut →
      last = decide (s.groups[g].state = .uncertain ∧ (x = .retracted → s.groups[g].holdCount ≠ 0) ∧
        ∀ h : Fin 16, h ≠ g → s.groups[h].state ≠ .returning ∧ s.groups[h].state ≠ .uncertain) →
      closes = decide (s.ring.state = .closing ∧ last = true ∧ heldGroups s = 0) →
      completes = decide (s.ring.state = .aborting ∧ last = true ∧ s.stack.entries = []) →
      ∃ t state number own granted, exec (.groupState .drive) s = .next t ∧
        granted =
          (if x = .retracted ∧ s.groups[g].holdCount ≠ 0 then
            (s.stack.entries.filter fun e => decide (e.state = .opening ∧ g ∈ e.cover ∧
              ∀ h ∈ e.cover, h = g ∨ s.groups[h].state = .released)).reverse
          else []) ∧
        ServedBy
          ((List.range granted.length).map fun k =>
            { t.permits with build :=
                { t.permits.build with
                  entries := s.stack.entries.reverse.map fun e =>
                    (e.position, if e ∈ granted.take (k + 1) then .opened else e.state) } })
          .drive f .done
          (.u8 state.code :: optU8 (if number = s.groups[g].transition then none else some number))
          (own ++
            (if closes then [noticeOn .erector (.ringState (s.ring.number + 1) .idle .closed [] [])] else []) ++
            (if completes then
              [noticeOn .erector (.ringState s.ring.number .armed .abortComplete s.ring.queue s.ring.setList)]
            else []))
          ([.groups, .stack, .account] ++ (if closes then [.store] else []) ++
            (if closes || completes then [.ring] else [])) s t ∧ CondsFollow s t ∧
        t.groups = s.groups.set g.val
          { s.groups[g] with state := state, stateTime := s.now, slow := false, transition := number } g.isLt ∧
        t.account =
          { s.account with
            thrustMean := meanOfThrust t.groups
            cycles :=
              if closes then pushCapped 8 s.account.cycles { ring := s.ring.number, cycle := s.account.cycle }
              else s.account.cycles
            cycle := if closes then Cycle.start else s.account.cycle } ∧
        (closes = true → t.store = { s.store with lastClosed := s.ring.number } ∧
          t.ring = RingRec.initial (s.ring.number + 1)) ∧
        (completes = true → t.ring = { s.ring with state := .armed }) ∧
        (match x, decide (s.groups[g].holdCount = 0) with
          | .extended, true => state = .thrust ∧ number = s.groups[g].transition ∧ own = [] ∧ t.stack = s.stack
          | .extended, false => state = .retracting ∧ number = (s.groups[g].transition + 1) % 256 ∧
              own = [noticeOn .drive (.retractOrder [(g, number)] none)] ∧ t.stack = s.stack
          | .retracted, false => state = .released ∧ number = s.groups[g].transition ∧
              own = (granted.map fun e =>
                noticeOn .erector (.segmentGranted e.position e.cover s.stack.entries.length)) ∧
              t.stack.entries = s.stack.entries.map fun e =>
                if e.state = .opening ∧ g ∈ e.cover ∧ ∀ h ∈ e.cover, h = g ∨ s.groups[h].state = .released then
                  { e with state := .opened }
                else e
          | .retracted, true => state = .returning ∧ number = (s.groups[g].transition + 1) % 256 ∧
              own = [noticeOn .drive (.extendOrder [(g, number)] none)] ∧ t.stack = s.stack))

/-- R31, R60, R61: a group RETRACTING or RETURNING for longer than the retract time limit is marked slow; an entry in
the stack for longer than the release time limit is marked overtime; 60,000 ms after the newest closure the advance
speed becomes 0, its basis kept. Each timer does this and nothing else. -/
def Obligations.GroupAndSpeedTimers : Prop :=
  (∀ (s : State) (g : Fin 16), s.powered = true →
    s.groups[g].state = .retracting ∨ s.groups[g].state = .returning → s.groups[g].slow = false →
    s.groups[g].stateTime + (activeProfile s).retractTime < s.now →
    ∃ t, exec (.retractTimerExpiry g) s = .next t ∧ Made [] [.groups] s t ∧ CondsFollow s t ∧
      t.groups = s.groups.set g.val { s.groups[g] with slow := true } g.isLt) ∧
  (∀ (s : State) (p : Fin 7) (e : StackEntry), s.powered = true → e ∈ s.stack.entries → e.position = p →
    e.overtime = false → e.openedAt + (activeProfile s).releaseTime < s.now →
    ∃ t, exec (.releaseTimerExpiry p) s = .next t ∧ Made [] [.stack] s t ∧ CondsFollow s t ∧
      t.stack =
        { s.stack with
          entries := s.stack.entries.map fun e =>
            if e.position = p ∧ e.openedAt + (activeProfile s).releaseTime < s.now then
              { e with overtime := true }
            else e }) ∧
  (∀ (s : State) (r : IncrementRec), s.powered = true → 0 < s.account.speed →
    s.account.increments.getLast? = some r → r.time + 60000 ≤ s.now →
    ∃ t, exec .advanceSpeedExpiry s = .next t ∧ Made [] [.account] s t ∧ CondsFollow s t ∧
      t.account = { s.account with speed := 0 })

/-! ## The ring -/

/-- R47, R75, R76, R77: SEGMENT OPEN is refused by the first check of R75 that fails, with the head of the queue or
the two figures of R76 or R77, and then, on a stack of fewer than three entries, by the first check of R47 that fails:
STATE for a group of the cover that is UNCERTAIN or LOCKED_OUT, LIMIT with the position of the oldest overtime entry,
LIMIT with the count of R48, LOCKED_OUT groups included, and the limit in force (what these carry: log 34; the reason:
the model's choice, log 15; the width of what has no stated range: log 14). Nothing changes then. R46, R49, R50, R78:
a SEGMENT OPEN that passes the checks of R75 and R47 pushes the position's entry, raises the hold count of each group
of its cover, sends the groups that were not held to RETRACTING under one RETRACT ORDER, grants the entry when its
whole cover was RELEASED already, and takes the position from the head of the queue; the first open makes the ring
BUILDING. R167: where the open changes the held groups in ADVANCE or BUILD and both claims may then stand together, a
PENDING advance claim is granted and the mode is CONTINUOUS. -/
def Obligations.SegmentOpenPushes : Prop :=
  (∀ (s : State) (f : Frame) (p : Fin 7) (cover : List (Fin 16)) (count : Nat)
    (builder stack : List (Bool × Code × List Field)),
    Asks s .erector 17 readByte f p.val → commissioned s = true → cover = ringCover s.ring p →
    count = (List.finRange 16).countP (fun g =>
      decide (0 < s.groups[g].holdCount ∨ g ∈ cover ∨ s.groups[g].state = .lockedOut)) →
    builder =
      [(decide (s.ring.state ≠ .armed ∧ s.ring.state ≠ .building), .state, [.u8 0]),
       (decide (s.modes.build ≠ .held), .state, [.u8 0]),
       (!s.permits.build.allowed, .state, [.u8 0]),
       (decide (s.ring.queue.head? ≠ some p), .order, optU8 (s.ring.queue.head?.map (·.val))),
       (decide (p = 6 ∧ ∃ q : Fin 7, q ≠ 6 ∧ q ∉ s.ring.setList), .order, []),
       (decide (s.ring.state = .armed ∧
          s.account.cycle.advance < (constantsOf s).ringWidth + (activeProfile s).buildClearance), .state,
        [.u8 0, .u64 s.account.cycle.advance, .u64 ((constantsOf s).ringWidth + (activeProfile s).buildClearance)]),
       (decide (s.ring.state = .armed ∧ s.modes.mode = .continuous) &&
          (match s.account.thrustMean with
          | some m => decide ((constantsOf s).strokeMax < m + (activeProfile s).strokeReserve)
          | none => true), .state,
        .u8 0 :: optU64 s.account.thrustMean ++ [.u16 (activeProfile s).strokeReserve])] →
    stack =
      [(cover.any fun g => s.groups[g].state = .uncertain || s.groups[g].state = .lockedOut, .state, [.u8 0]),
       (s.stack.entries.any (·.overtime), .limit,
        ((s.stack.entries.filter (·.overtime)).getLast?.map fun e => Field.u8 e.position.val).toList),
       (decide (releaseLimit s < count), .limit, [.u64 count, .u8 (releaseLimit s)])] →
    (∀ c, builder.find? (·.1) = some c →
      exec (.segmentOpen .erector) s = .next (answeredOnly .erector f c.2.1 c.2.2 s)) ∧
    (builder.find? (·.1) = none → s.stack.entries.length < 3 → ∀ c, stack.find? (·.1) = some c →
      exec (.segmentOpen .erector) s = .next (answeredOnly .erector f c.2.1 c.2.2 s))) ∧
  ∀ (s : State) (f : Frame) (p : Fin 7) (rest : List (Fin 7)) (cover listed : List (Fin 16)) (after : Nat)
    (granted grants : Bool),
    Asks s .erector 17 readByte f p.val → commissioned s = true →
    s.ring.state = .armed ∨ s.ring.state = .building → s.modes.build = .held →
    s.permits.build.allowed = true → s.ring.queue = p :: rest →
    (p = 6 → ∀ q : Fin 7, q ≠ 6 → q ∈ s.ring.setList) →
    (s.ring.state = .armed →
      (constantsOf s).ringWidth + (activeProfile s).buildClearance ≤ s.account.cycle.advance) →
    (s.ring.state = .armed → s.modes.mode = .continuous →
      ∃ m, s.account.thrustMean = some m ∧ m + (activeProfile s).strokeReserve ≤ (constantsOf s).strokeMax) →
    cover = ringCover s.ring p → s.stack.entries.length < 3 →
    (∀ g ∈ cover, s.groups[g].state ≠ .uncertain ∧ s.groups[g].state ≠ .lockedOut) →
    (∀ e ∈ s.stack.entries, e.overtime = false ∧ e.position ≠ p) →
    countAfterOpen s cover ≤ releaseLimit s → after = (List.finRange 16).countP (fun g =>
      decide (0 < s.groups[g].holdCount ∨ g ∈ cover)) →
    grants = decide (s.modes.advance = .pending ∧ (s.modes.mode = .advance ∨ s.modes.mode = .build) ∧
      after ≠ heldGroups s ∧ (activeProfile s).continuousAllowed = true ∧
      after ≤ (activeProfile s).releaseContinuous) →
    listed = cover.filter (fun g => s.groups[g].holdCount = 0) →
    granted = cover.all (fun g => s.groups[g].holdCount ≠ 0 && s.groups[g].state = .released) →
    ∃ t, exec (.segmentOpen .erector) s = .next t ∧
      Served .erector f .done
        ([.u8 (if granted then 1 else 0), .u8 (s.stack.entries.length + 1), .u64 after] ++ positionList rest)
        ((if listed = [] then []
          else [noticeOn .drive
            (.retractOrder (listed.map fun g => (g, (s.groups[g].transition + 1) % 256)) (some p))])
        ++ (if granted then
            [noticeOn .erector (.segmentGranted p cover (s.stack.entries.length + 1))] else [])
        ++ (if s.ring.state = .armed then
            [noticeOn .erector (.ringState s.ring.number .building .firstOpen rest s.ring.setList)] else []))
        ([.groups, .stack, .ring, .account] ++ if grants then [.modes] else []) s t ∧ CondsFollow s t ∧
      t.modes =
        (if grants then
          { s.modes with
            advance := .held, build := .held, mode := .continuous, haltOutput := false, cause := .grant }
        else s.modes) ∧
      t.stack =
        { s.stack with
          entries :=
            { position := p, cover, state := if granted then .opened else .opening, openedAt := s.now
              overtime := false } :: s.stack.entries } ∧
      (∀ g : Fin 16, t.groups[g] =
        if g ∈ cover then
          if s.groups[g].holdCount = 0 then
            { s.groups[g] with
              state := .retracting, stateTime := s.now, slow := false, holdCount := 1
              transition := (s.groups[g].transition + 1) % 256 }
          else { s.groups[g] with holdCount := s.groups[g].holdCount + 1 }
        else s.groups[g]) ∧
      t.ring =
        { s.ring with
          queue := rest, state := .building
          failed := s.ring.failed && !decide (s.ring.state = .armed) } ∧
      t.account = { s.account with thrustMean := meanOfThrust t.groups }

/-- R54, R58: a SEGMENT OPEN that the ring builder would take finds a stack of three entries: STACK_FULL. The
stack-full flag is set, with the class that the policy gives it, and the HALT policy halts the machine; groups and
ring stay. A SEGMENT CLOSE on an empty stack is answered STACK_EMPTY and sets the stack-underflow flag, nothing
else. -/
def Obligations.FullAndEmptyStack : Prop :=
  (∀ (s : State) (f : Frame) (p : Fin 7), Asks s .erector 17 readByte f p.val → commissioned s = true →
    builderRefusal p s = none → 3 ≤ s.stack.entries.length →
    ∃ t, exec (.segmentOpen .erector) s = .next t ∧
      t.sent.head? = some (responseTo .erector f .stackFull []) ∧ Stands s t ∧
      t.stack.full = true ∧ t.groups = s.groups ∧ t.ring = s.ring ∧
      ((activeProfile s).stackPolicy = .halt → t.stack.fullClass = some .halt ∧ t.modes.mode = .halted) ∧
      ((activeProfile s).stackPolicy = .refuse →
        t.stack.fullClass = if s.stack.full then s.stack.fullClass else some .limit) ∧
      (t.stack.fullClass ≠ some .halt →
        Served .erector f .stackFull [] [] [.stack] s t ∧ t.stack.entries = s.stack.entries)) ∧
  (∀ (s : State) (f : Frame) (q : Nat) (o : CloseOutcome), Asks s .erector 19 readSegmentClose f (q, o) →
    commissioned s = true → q < 7 → s.stack.entries = [] →
    ∃ t, exec (.segmentClose .erector) s = .next t ∧
      Served .erector f .stackEmpty [] [] [.stack] s t ∧ CondsFollow s t ∧
      t.stack = { s.stack with underflow := true })

/-- R79: SEGMENT PLACED of a position outside 0–6 is refused RANGE; of the OPEN top entry it makes that entry PLACED and
changes nothing else; its other refusals and its repetition change nothing. -/
def Obligations.SegmentPlacedOnTop : Prop :=
  ∀ (s : State) (f : Frame) (q : Nat), Asks s .erector 18 readByte f q → commissioned s = true →
    (7 ≤ q → exec (.segmentPlaced .erector) s = .next (answeredOnly .erector f .range [] s)) ∧
    (q < 7 → s.stack.entries = [] →
      exec (.segmentPlaced .erector) s = .next (answeredOnly .erector f .stackEmpty [] s)) ∧
    (∀ e rest, q < 7 → s.stack.entries = e :: rest →
      (q ≠ e.position.val →
        exec (.segmentPlaced .erector) s = .next (answeredOnly .erector f .order [.u8 e.position.val] s)) ∧
      (q = e.position.val → e.state = .opening →
        exec (.segmentPlaced .erector) s = .next (answeredOnly .erector f .state [.u8 0] s)) ∧
      (q = e.position.val → e.state = .placed →
        exec (.segmentPlaced .erector) s = .next (answeredOnly .erector f .done [] s)) ∧
      (q = e.position.val → e.state = .opened →
        ∃ t, exec (.segmentPlaced .erector) s = .next t ∧
          Served .erector f .done [] [] [.stack] s t ∧ CondsFollow s t ∧
          t.stack = { s.stack with entries := { e with state := .placed } :: rest }))

/-- R53, R80, R81, R82: a SEGMENT CLOSE that is taken pops the top entry: hold counts fall, the groups no longer held
go back to the push under one EXTEND ORDER. SET adds an ordinary position to the set list; the key's SET makes the ring
CLOSING, and with no group held, RETURNING or UNCERTAIN after the pop closes it at once (R34, R85, R86); the first and
second NOT SET raise the skip count and return the position to the queue, just ahead of the key or, for the key, to its
end. A position that is not the top entry's is refused ORDER with the top position, a SET of an entry that is not PLACED
STATE. R167: where the number of held groups falls in ADVANCE or BUILD to where both claims may stand together, a
PENDING claim is granted and the mode is CONTINUOUS. R10: where it falls in STANDSTILL or HALTED, a pending selection
whose release limit it keeps becomes active; otherwise a pending selection waits on. The permits follow the pop and the
closing (log 10), and the items of the EXTEND ORDER stand in the order of the cover (log 20): the model's choices. -/
def Obligations.SegmentClosePops : Prop :=
  (∀ (s : State) (f : Frame) (e : StackEntry) (rest : List StackEntry) (q : Nat) (o : CloseOutcome),
    Asks s .erector 19 readSegmentClose f (q, o) → commissioned s = true → q < 7 → s.stack.entries = e :: rest →
    (q ≠ e.position.val →
      exec (.segmentClose .erector) s = .next (answeredOnly .erector f .order [.u8 e.position.val] s)) ∧
    (q = e.position.val → o = .set → e.state ≠ .placed →
      exec (.segmentClose .erector) s = .next (answeredOnly .erector f .state [.u8 0] s))) ∧
  ∀ (s : State) (f : Frame) (e : StackEntry) (rest : List StackEntry) (o : CloseOutcome) (ring : RingRec)
    (listed : List (Fin 16)) (after : Nat) (closes grants falls : Bool),
    Asks s .erector 19 readSegmentClose f (e.position.val, o) → commissioned s = true →
    s.stack.entries = e :: rest →
    listed = e.cover.filter (fun g => s.groups[g].holdCount ≤ 1 &&
      (s.groups[g].state = .retracting || s.groups[g].state = .released)) →
    after = (List.finRange 16).countP (fun g =>
      if g ∈ e.cover then 1 < s.groups[g].holdCount else 0 < s.groups[g].holdCount) →
    (match o with
      | .set => e.state = .placed ∧
          ring =
            { s.ring with
              setList := s.ring.setList ++ [e.position]
              state := if e.position = 6 then .closing else s.ring.state }
      | .notSet => s.ring.skips[e.position] < 2 ∧
          ring =
            { s.ring with
              skips := s.ring.skips.set e.position.val (s.ring.skips[e.position] + 1) e.position.isLt
              queue :=
                if e.position = 6 then s.ring.queue ++ [6]
                else s.ring.queue.takeWhile (· ≠ 6) ++ e.position :: s.ring.queue.dropWhile (· ≠ 6) }) →
    closes = decide (e.position = 6 ∧ o = .set ∧ after = 0 ∧ listed = [] ∧
      ∀ g : Fin 16, s.groups[g].state ≠ .returning ∧ s.groups[g].state ≠ .uncertain) →
    grants = decide ((s.modes.mode = .advance ∨ s.modes.mode = .build) ∧ after ≠ heldGroups s ∧
      (activeProfile s).continuousAllowed = true ∧ after ≤ (activeProfile s).releaseContinuous ∧
      (s.modes.advance = .pending ∧ s.modes.build = .held ∨ s.modes.build = .pending ∧ s.modes.advance = .held)) →
    falls = decide (after < heldGroups s ∧ stands s.modes.mode = true) →
    ∃ t fields, exec (.segmentClose .erector) s = .next t ∧ Stands s t ∧
      fields = [.u8 (match o with | .set => 0 | .notSet => 1), .u8 t.ring.state.code, .u8 t.ring.skips[e.position]]
        ++ positionList t.ring.queue ++ positionList t.ring.setList ∧
      t.sent.head? = some (responseTo .erector f .done fields) ∧
      t.ring = (if closes then RingRec.initial (s.ring.number + 1) else ring) ∧
      (∀ g : Fin 16, t.groups[g] =
        if g ∈ e.cover then
          if g ∈ listed then
            { s.groups[g] with
              state := .returning, stateTime := s.now, slow := false, holdCount := s.groups[g].holdCount - 1
              transition := (s.groups[g].transition + 1) % 256 }
          else { s.groups[g] with holdCount := s.groups[g].holdCount - 1 }
        else s.groups[g]) ∧
      t.modes =
        (if grants then
          { s.modes with
            advance := .held, build := .held, mode := .continuous, haltOutput := false, cause := .grant }
        else s.modes) ∧ t.plan = s.plan ∧
      (∀ n, s.store.pendingProfile = some n → falls = true → after ≤ s.store.profiles[n].releaseBuild →
        t.store =
          { s.store with
            active := n, pendingProfile := none
            lastClosed := if closes then s.ring.number else s.store.lastClosed } ∧
        t.stack =
          { s.stack with
            entries := rest.map fun x =>
              { x with
                overtime := x.overtime || decide (x.openedAt + s.store.profiles[n].releaseTime < s.now) } } ∧
        t.cutter.torqueCeiling = torqueCeilingOf t) ∧
      ((∀ n, s.store.pendingProfile = some n → falls = true → s.store.profiles[n].releaseBuild < after) →
        t.stack = { s.stack with entries := rest } ∧
        t.account =
          { s.account with
            cycles :=
              if closes then pushCapped 8 s.account.cycles { ring := s.ring.number, cycle := s.account.cycle }
              else s.account.cycles
            cycle := if closes then Cycle.start else s.account.cycle } ∧
        (closes = true → t.store = { s.store with lastClosed := s.ring.number } ∧
          (t.chamber = s.chamber ∨ t.chamber = heldDown s s)) ∧
        (closes = false → CondsFollow s t) ∧
        ServedBy [permitsOf { t with account := s.account }] .erector f .done fields
          ((if listed = [] then []
            else [noticeOn .drive
              (.extendOrder (listed.map fun g => (g, (s.groups[g].transition + 1) % 256)) (some e.position))])
          ++ (if e.position = 6 ∧ o = .set then
              [noticeOn .erector (.ringState ring.number ring.state .keySet ring.queue ring.setList)] else [])
          ++ (if closes then
              [noticeOn .erector (.ringState (s.ring.number + 1) .idle .closed [] [])] else []))
          ([.groups, .stack, .ring] ++ (if closes then [.account, .store, .chamber] else []) ++
            (if grants then [.modes] else [])) s t)

/-- R53, R74, R83, R84, R87, R88, R89: RING ABORT, from either of its links, takes an ARMED ring to IDLE; an ABORTING
one changes nothing, an IDLE one is refused STATE. A BUILDING or CLOSING ring gives its build up: every entry is
popped from the top, each pop returns the groups no longer held to the push under one EXTEND ORDER, the set list is
empty and the queue in placement order again; the ring is ARMED when no group is then RETURNING or UNCERTAIN, and
ABORTING otherwise; RING STATE tells the abort and, with it, its completion. A third NOT SET for a position gives the
build up in the same way and raises RING_FAILED; the state in its response is the one after the close (the model's
choice, log 35). R167: in ADVANCE or BUILD the fall of the held groups to 0 grants a PENDING claim where the profile
allows both claims together. R10: in STANDSTILL, HALTED and UNCOMMISSIONED it makes a pending selection active. The
permits follow each pop (log 10), and the items of each EXTEND ORDER stand in the order of the cover (log 20): the
model's choices. -/
def Obligations.BuildGivenUp : Prop :=
  (∀ (s : State) (f : Frame) (p : Port), p = .erector ∨ p = .cabin → Asks s p 20 readNothing f () →
    commissioned s = true →
    (s.ring.state = .idle → exec (.ringAbort p) s = .next (answeredOnly p f .state [.u8 0] s)) ∧
    (s.ring.state = .aborting → exec (.ringAbort p) s = .next (answeredOnly p f .done [.u8 4] s)) ∧
    (s.ring.state = .armed → ∃ t, exec (.ringAbort p) s = .next t ∧
      Served p f .done [.u8 0] [noticeOn .erector (.ringState s.ring.number .idle .abort [] [])] [.ring] s t ∧
      CondsFollow s t ∧ t.ring = RingRec.initial s.ring.number)) ∧
  ∀ (s : State) (f : Frame) (p : Port) (i : Instr) (cause : RingCause),
    (i = .ringAbort p ∧ cause = .abort ∧ (p = .erector ∨ p = .cabin) ∧ Asks s p 20 readNothing f () ∧
        (s.ring.state = .building ∨ s.ring.state = .closing)) ∨
      (i = .segmentClose p ∧ cause = .ringFailed ∧ p = .erector ∧ ∃ e rest, s.stack.entries = e :: rest ∧
        2 ≤ s.ring.skips[e.position] ∧ Asks s p 19 readSegmentClose f (e.position.val, .notSet)) →
    commissioned s = true → HoldCountsMatch s →
    ∃ t fields, exec i s = .next t ∧ Stands s t ∧ t.sent.head? = some (responseTo p f .done fields) ∧
      (cause = .abort → fields = [.u8 t.ring.state.code]) ∧
      (cause = .ringFailed →
        fields = [.u8 1, .u8 t.ring.state.code, .u8 0] ++ positionList t.ring.queue ++ positionList []) ∧
      t.stack.entries = [] ∧ t.plan = s.plan ∧
      t.modes =
        (if (s.modes.mode = .advance ∨ s.modes.mode = .build) ∧ heldGroups s ≠ 0 ∧
            (activeProfile s).continuousAllowed = true ∧
            (s.modes.advance = .pending ∧ s.modes.build = .held ∨
              s.modes.build = .pending ∧ s.modes.advance = .held) then
          { s.modes with
            advance := .held, build := .held, mode := .continuous, haltOutput := false, cause := .grant }
        else s.modes) ∧
      (∀ n, s.store.pendingProfile = some n → stands s.modes.mode = true → heldGroups s ≠ 0 →
        t.store = { s.store with active := n, pendingProfile := none }) ∧
      (s.store.pendingProfile = none ∨ stands s.modes.mode = false ∨ heldGroups s = 0 → t.store = s.store) ∧
      (∀ g : Fin 16, t.groups[g] =
        if 0 < s.groups[g].holdCount ∧ (s.groups[g].state = .retracting ∨ s.groups[g].state = .released) then
          { s.groups[g] with
            state := .returning, stateTime := s.now, slow := false, holdCount := 0
            transition := (s.groups[g].transition + 1) % 256 }
        else { s.groups[g] with holdCount := 0 }) ∧
      t.ring =
        { s.ring with
          queue := placementOrder ((s.ring.row.map (·.start)).getD 0), setList := []
          skips := Vector.replicate 7 0, failed := s.ring.failed || decide (cause = .ringFailed)
          state :=
            if ∀ g : Fin 16, t.groups[g].state ≠ .returning ∧ t.groups[g].state ≠ .uncertain then .armed
            else .aborting } ∧
      (s.modes.advance ≠ .pending → s.modes.build ≠ .pending → s.store.pendingProfile = none →
        (t.chamber = s.chamber ∨ t.chamber = heldDown s s) ∧
        ∃ steps : List Permits, steps.length = s.stack.entries.length ∧
          ServedBy steps p f .done fields
            ((s.stack.entries.tails.flatMap fun l =>
                match l with
                | [] => []
                | e :: rest =>
                  let listed := e.cover.filter fun g =>
                    (rest.all fun x => !x.cover.contains g) &&
                      (s.groups[g].state = .retracting || s.groups[g].state = .released)
                  if listed = [] then []
                  else [noticeOn .drive
                    (.extendOrder (listed.map fun g => (g, (s.groups[g].transition + 1) % 256))
                      (some e.position))])
              ++ [noticeOn .erector (.ringState s.ring.number .aborting cause t.ring.queue [])]
              ++ (if t.ring.state = .armed then
                  [noticeOn .erector (.ringState s.ring.number .armed .abortComplete t.ring.queue [])] else []))
            [.groups, .stack, .ring, .chamber] s t)

/-- R1, R71, R72: RING ARM of the ring that the record expects copies its WRITTEN row, computes the seven covers
(k + offset + j) mod 16, forms the queue from the start position and makes the record ARMED; with a profile index in
the row a selection is raised. R8, R10: the selection of the active profile clears what was pending; another one waits
while the machine moves or more groups are held than its release limit, and in STANDSTILL or HALTED becomes active at
once otherwise; the response carries what became of it. Its refusals change nothing. -/
def Obligations.RingArms : Prop :=
  ∀ (s : State) (f : Frame) (n : Nat), Asks s .erector 16 readWord f n → commissioned s = true →
    (s.ring.state ≠ .idle → exec (.ringArm .erector) s = .next (answeredOnly .erector f .state [.u8 0] s)) ∧
    (s.ring.state = .idle → n ≠ s.ring.number →
      exec (.ringArm .erector) s = .next (answeredOnly .erector f .range [.u16 s.ring.number] s)) ∧
    (s.ring.state = .idle → n = s.ring.number → n = 65535 →
      exec (.ringArm .erector) s = .next (answeredOnly .erector f .range [] s)) ∧
    (s.ring.state = .idle → n = s.ring.number → n < 65535 → s.plan.status = .erasing →
      exec (.ringArm .erector) s = .next (answeredOnly .erector f .busy [] s)) ∧
    (s.ring.state = .idle → n = s.ring.number → n < 65535 → s.plan.status ≠ .erasing →
      (rowOfRing s.plan n = none →
        exec (.ringArm .erector) s = .next (answeredOnly .erector f .noPlan [] s)) ∧
      ∀ row, rowOfRing s.plan n = some row →
        (typeDefined (constantsOf s) row.ringType = false →
          exec (.ringArm .erector) s = .next (answeredOnly .erector f .noPlan [] s)) ∧
        (typeDefined (constantsOf s) row.ringType = true →
          ∃ t covers fields status, exec (.ringArm .erector) s = .next t ∧
            fields = [.u16 n] ++ positionList (placementOrder row.start) ++ covers.toList.flatMap groupList
              ++ optU8 status ∧
            t.sent.head? = some (responseTo .erector f .done fields) ∧ Stands s t ∧
            t.ring =
              { s.ring with
                state := .armed, row := some row, covers := some covers, queue := placementOrder row.start
                setList := [], skips := Vector.replicate 7 0 } ∧
            (∀ h : row.ringType < 8, ∀ q : Fin 7,
              covers[q].map (·.val) =
                (List.range (constantsOf s).ringTypes[row.ringType][q].count).map fun j =>
                  (row.keySector + (constantsOf s).ringTypes[row.ringType][q].offset + j) % 16) ∧
            t.groups = s.groups ∧ t.plan = s.plan ∧
            (status ≠ some 1 →
              Served .erector f .done fields
                [noticeOn .erector
                  (.ringState s.ring.number .armed .arm (placementOrder row.start) [])] [.ring, .store] s t ∧
              CondsFollow s t) ∧
            (row.profile = none → status = none ∧ t.store = s.store) ∧
            (∀ k : Fin 4, row.profile = some k.val →
              (k = s.store.active → status = some 0 ∧ t.store = { s.store with pendingProfile := none }) ∧
              (k ≠ s.store.active →
                stands s.modes.mode = false ∨ s.store.profiles[k].releaseBuild < heldGroups s →
                status = some 2 ∧ t.store = { s.store with pendingProfile := some k }) ∧
              (k ≠ s.store.active → stands s.modes.mode = true →
                heldGroups s ≤ s.store.profiles[k].releaseBuild →
                status = some 1 ∧ t.store = { s.store with active := k, pendingProfile := none } ∧
                t.modes = s.modes ∧ t.cutter.torqueCeiling = torqueCeilingOf t ∧
                t.chamber.integrator =
                  min s.chamber.integrator (1000 * s.store.profiles[k].screwMax)))))

/-- R73: the placement order of each start position, and the queue that RING ARM builds from it. -/
def Obligations.PlacementOrderTable : Prop :=
  (placementOrder 0 = [0, 1, 2, 3, 4, 5, 6] ∧ placementOrder 1 = [1, 2, 0, 3, 4, 5, 6] ∧
    placementOrder 2 = [2, 3, 1, 4, 0, 5, 6] ∧ placementOrder 3 = [3, 4, 2, 5, 1, 0, 6] ∧
    placementOrder 4 = [4, 5, 3, 2, 1, 0, 6] ∧ placementOrder 5 = [5, 4, 3, 2, 1, 0, 6]) ∧
  ∀ (s : State) (f : Frame) (n : Nat) (row : PlanRow), Asks s .erector 16 readWord f n → commissioned s = true →
    s.ring.state = .idle → n = s.ring.number → n < 65535 → s.plan.status ≠ .erasing →
    rowOfRing s.plan n = some row → typeDefined (constantsOf s) row.ringType = true →
    ∃ t, exec (.ringArm .erector) s = .next t ∧ t.ring.queue = placementOrder row.start

/-! ## Claims, mode, halt -/

/-- R164, R165, R167: a first claim on a commissioned part that is not HALTED makes it HELD, or PENDING beside a HELD
one with which it may not stand, and the mode follows; CLAIM ADVANCE is refused STATE while HALTED and while positions
are open without the build claim; CLAIM BUILD while HALTED changes the claim alone; a repeated claim is answered with
its state and the mode (the model's reading, log 33) and changes nothing. The codes of the modes are the model's
choice (log 13). -/
def Obligations.ClaimsTaken : Prop :=
  (∀ (s : State) (f : Frame) (c : Claim), Asks s .drive 7 readNothing f () → commissioned s = true →
    (s.modes.mode = .halted →
      exec (.claimAdvance .drive) s = .next (answeredOnly .drive f .state [.u8 14] s)) ∧
    (s.modes.mode ≠ .halted → s.modes.advance ≠ .absent →
      exec (.claimAdvance .drive) s =
        .next (answeredOnly .drive f .done [.u8 s.modes.advance.code, .u8 s.modes.mode.code] s)) ∧
    (s.modes.mode ≠ .halted → s.modes.advance = .absent → s.stack.entries ≠ [] → s.modes.build ≠ .held →
      exec (.claimAdvance .drive) s = .next (answeredOnly .drive f .state [.u8 15] s)) ∧
    (s.modes.mode ≠ .halted → s.modes.advance = .absent → s.stack.entries = [] ∨ s.modes.build = .held →
      s.modes.mode = derivedMode .absent s.modes.build →
      c = (if s.modes.build = .held ∧ mayStandTogether s = false then .pending else .held) →
      ∃ t, exec (.claimAdvance .drive) s = .next t ∧
        Served .drive f .done [.u8 c.code, .u8 t.modes.mode.code] [] [.modes] s t ∧ CondsFollow s t ∧
        t.modes.advance = c ∧ t.modes.build = s.modes.build ∧ t.modes.operatorHalt = s.modes.operatorHalt ∧
        t.modes.mode =
          (if s.modes.build = .held then (if c = .held then .continuous else .build) else .advance))) ∧
  (∀ (s : State) (f : Frame) (c : Claim), Asks s .erector 14 readNothing f () → commissioned s = true →
    (s.modes.build ≠ .absent →
      exec (.claimBuild .erector) s =
        .next (answeredOnly .erector f .done [.u8 s.modes.build.code, .u8 s.modes.mode.code] s)) ∧
    (s.modes.build = .absent → s.modes.mode = .halted → s.modes.advance = .absent →
      ∃ t, exec (.claimBuild .erector) s = .next t ∧
        Served .erector f .done [.u8 1, .u8 1] [] [.modes] s t ∧ CondsFollow s t ∧
        t.modes = { s.modes with build := .held }) ∧
    (s.modes.build = .absent → s.modes.mode = derivedMode s.modes.advance .absent →
      c = (if s.modes.advance = .held ∧ mayStandTogether s = false then .pending else .held) →
      ∃ t, exec (.claimBuild .erector) s = .next t ∧
        Served .erector f .done [.u8 c.code, .u8 t.modes.mode.code] [] [.modes] s t ∧ CondsFollow s t ∧
        t.modes.build = c ∧ t.modes.advance = s.modes.advance ∧ t.modes.operatorHalt = s.modes.operatorHalt ∧
        t.modes.mode =
          (if s.modes.advance = .held then (if c = .held then .continuous else .advance) else .build)))

/-- R146, R166, R167: a dropped claim becomes ABSENT, a PENDING other claim is granted, and the mode follows the
claims; the advance claim's drop stops a turning cutterhead. DROP BUILD is refused STATE while a build is in progress.
The drop of an ABSENT claim changes nothing, that of a PENDING one, and that of a HELD one while HALTED, the claims
alone. R10, R168: at an entry into STANDSTILL a pending selection becomes active, unless more groups are held than its
release limit; otherwise it waits on. The codes of the modes are the model's reading (log 13). -/
def Obligations.ClaimsDropped : Prop :=
  (∀ (s : State) (f : Frame), Asks s .drive 8 readNothing f () → commissioned s = true →
    (s.modes.advance = .absent →
      exec (.dropAdvance .drive) s = .next (answeredOnly .drive f .done
        [.u8 0, .u8 s.modes.build.code, .u8 s.modes.mode.code] s)) ∧
    (s.modes.advance = .pending → ∃ t, exec (.dropAdvance .drive) s = .next t ∧
      Served .drive f .done [.u8 0, .u8 s.modes.build.code, .u8 s.modes.mode.code] [] [.modes] s t ∧
      CondsFollow s t ∧ t.modes = { s.modes with advance := .absent }) ∧
    (s.modes.advance = .held → s.modes.mode = derivedMode .held s.modes.build →
      ∃ t, exec (.dropAdvance .drive) s = .next t ∧ Stands s t ∧
        t.sent.head? = some (responseTo .drive f .done [.u8 0, .u8 t.modes.build.code, .u8 t.modes.mode.code]) ∧
        t.modes.advance = .absent ∧
        t.modes.build = (if s.modes.build = .pending then .held else s.modes.build) ∧
        t.modes.mode = (if t.modes.build = .held then .build else .standstill) ∧ t.groups = s.groups ∧
        t.ring = s.ring ∧ (∀ n, s.store.pendingProfile = some n → t.modes.mode = .standstill →
          heldGroups s ≤ s.store.profiles[n].releaseBuild →
          t.store = { s.store with active := n, pendingProfile := none }) ∧
        ((∀ n, s.store.pendingProfile = some n → t.modes.mode = .standstill →
            s.store.profiles[n].releaseBuild < heldGroups s) → t.store = s.store) ∧
        t.cutter.run = (if turning s.cutter.run then .stopping
          else if s.cutter.run = .rocking then .jammed else s.cutter.run)) ∧
    (s.modes.advance = .held → s.modes.mode = .halted → ∃ t, exec (.dropAdvance .drive) s = .next t ∧
      Served .drive f .done [.u8 0, .u8 t.modes.build.code, .u8 1] [] [.modes] s t ∧ CondsFollow s t ∧
      t.modes =
        { s.modes with
          advance := .absent, build := if s.modes.build = .pending then .held else s.modes.build })) ∧
  (∀ (s : State) (f : Frame), Asks s .erector 15 readNothing f () → commissioned s = true →
    (s.modes.build = .absent →
      exec (.dropBuild .erector) s = .next (answeredOnly .erector f .done
        [.u8 s.modes.advance.code, .u8 0, .u8 s.modes.mode.code] s)) ∧
    (s.modes.build = .pending → ∃ t, exec (.dropBuild .erector) s = .next t ∧
      Served .erector f .done [.u8 s.modes.advance.code, .u8 0, .u8 s.modes.mode.code] [] [.modes] s t ∧
      CondsFollow s t ∧ t.modes = { s.modes with build := .absent }) ∧
    (s.modes.build = .held →
      s.stack.entries ≠ [] ∨ s.ring.state = .building ∨ s.ring.state = .closing ∨ s.ring.state = .aborting →
      exec (.dropBuild .erector) s = .next (answeredOnly .erector f .state
        [.u8 16, .u8 s.stack.entries.length, .u8 s.ring.state.code] s)) ∧
    (s.modes.build = .held → s.stack.entries = [] → s.ring.state = .idle ∨ s.ring.state = .armed →
      s.modes.mode = derivedMode s.modes.advance .held →
      ∃ t, exec (.dropBuild .erector) s = .next t ∧ Stands s t ∧
        t.sent.head? = some (responseTo .erector f .done [.u8 t.modes.advance.code, .u8 0, .u8 t.modes.mode.code]) ∧
        t.modes.build = .absent ∧
        t.modes.advance = (if s.modes.advance = .pending then .held else s.modes.advance) ∧
        t.modes.mode = (if t.modes.advance = .held then .advance else .standstill) ∧ t.groups = s.groups ∧
        t.ring = s.ring ∧ (∀ n, s.store.pendingProfile = some n → t.modes.mode = .standstill →
          heldGroups s ≤ s.store.profiles[n].releaseBuild →
          t.store = { s.store with active := n, pendingProfile := none }) ∧
        ((∀ n, s.store.pendingProfile = some n → t.modes.mode = .standstill →
            s.store.profiles[n].releaseBuild < heldGroups s) → t.store = s.store)) ∧
    (s.modes.build = .held → s.stack.entries = [] → s.ring.state = .idle ∨ s.ring.state = .armed →
      s.modes.mode = .halted → ∃ t, exec (.dropBuild .erector) s = .next t ∧
      Served .erector f .done [.u8 t.modes.advance.code, .u8 0, .u8 1] [] [.modes] s t ∧ CondsFollow s t ∧
      t.modes =
        { s.modes with
          build := .absent, advance := if s.modes.advance = .pending then .held else s.modes.advance }))

/-- R169: HALT makes a commissioned part HALTED: OPERATOR_HALT is active, the halt output asserted, the advance claim
dropped and a PENDING build claim granted, a turning cutterhead stopped; a part already HALTED keeps its claims. The
response carries the mode and the HALT-class conditions. R170: HALT CLEAR is refused STATE while the part is not
HALTED and while another HALT-class condition is active; otherwise OPERATOR_HALT clears and the mode is derived from
the claims, the halt output released. R10, R168: at the entry into HALTED, and into STANDSTILL, a pending selection
becomes active, unless more groups are held than its release limit; otherwise it waits on. The code of the mode HALTED
(log 13) and the layout of a list of conditions (log 12) are the model's choices. -/
def Obligations.HaltTakenAndCleared : Prop :=
  (∀ (s : State) (f : Frame), Asks s .cabin 36 readNothing f () → commissioned s = true →
    ∃ t, exec (.halt .cabin) s = .next t ∧ Stands s t ∧
      t.sent.head? = some (responseTo .cabin f .done (.u8 1 :: listFields keyFields (activeHalts t))) ∧
      t.modes.mode = .halted ∧ t.modes.operatorHalt = true ∧ ((CondName.operatorHalt, none) : CondKey) ∈ activeHalts t ∧
      (s.modes.mode = .halted → t.modes = { s.modes with operatorHalt := true }) ∧
      (s.modes.mode ≠ .halted → t.modes.haltOutput = true ∧ t.modes.advance = .absent ∧
        t.modes.build = (if s.modes.build = .pending then .held else s.modes.build)) ∧
      (s.modes.mode = .advance ∨ s.modes.mode = .continuous → turning s.cutter.run = true →
        t.cutter.run = .stopping) ∧
      (∀ n, s.store.pendingProfile = some n → s.modes.mode ≠ .halted →
        heldGroups s ≤ s.store.profiles[n].releaseBuild →
        t.store = { s.store with active := n, pendingProfile := none }) ∧
      ((∀ n, s.store.pendingProfile = some n → s.modes.mode ≠ .halted →
          s.store.profiles[n].releaseBuild < heldGroups s) → t.store = s.store) ∧
      t.groups = s.groups ∧ t.ring = s.ring ∧ t.plan = s.plan) ∧
  ∀ (s : State) (f : Frame), Asks s .cabin 37 readNothing f () → commissioned s = true →
    (s.modes.mode ≠ .halted → exec (.haltClear .cabin) s = .next (answeredOnly .cabin f .state [.u8 17] s)) ∧
    (s.modes.mode = .halted → (∃ k ∈ activeHalts s, k.1 ≠ .operatorHalt) →
      exec (.haltClear .cabin) s =
        .next (answeredOnly .cabin f .state (.u8 18 :: listFields keyFields (activeHalts s)) s)) ∧
    (s.modes.mode = .halted → (∀ k ∈ activeHalts s, k.1 = .operatorHalt) →
      ∃ t, exec (.haltClear .cabin) s = .next t ∧ Stands s t ∧
        t.sent.head? = some (responseTo .cabin f .done [.u8 t.modes.mode.code]) ∧
        t.modes.operatorHalt = false ∧ t.modes.haltOutput = false ∧
        t.modes.advance = s.modes.advance ∧ t.modes.build = s.modes.build ∧
        t.modes.mode = derivedMode s.modes.advance s.modes.build ∧ activeHalts t = [] ∧
        (∀ n, s.store.pendingProfile = some n → t.modes.mode = .standstill →
          heldGroups s ≤ s.store.profiles[n].releaseBuild →
          t.store = { s.store with active := n, pendingProfile := none }) ∧
        ((∀ n, s.store.pendingProfile = some n → t.modes.mode = .standstill →
            s.store.profiles[n].releaseBuild < heldGroups s) → t.store = s.store) ∧
        t.groups = s.groups ∧ t.ring = s.ring ∧ t.plan = s.plan)

/-! ## The cutterhead -/

/-- R139, R140, R143, R146, R147, R148, R153, R156: a DRIVE REPORT records the measured speed and every motor's ready
flag and torque; the first report admits each ready motor, a later one takes out each IN motor that is not ready; the
torque ceiling follows. Too few IN motors stop a turning cutterhead and interrupt rocking; otherwise STARTING becomes
RUNNING within 10 % of the requested speed, with the snapshot back in the integrator; STOPPING becomes STOPPED at
speed 0; a FORWARD phase that passes the success test, against the rock speed that the phase began with, ends in STOPPED
with no attempt left to count; in RUNNING each IN
motor is tested for its share; the jam timer runs in STARTING and RUNNING exactly while the jam conditions hold. R158:
the response carries the run state, the reference, the direction the motors are to turn (the other one in the REVERSE
phase), the torque ceiling, the number of IN motors and each motor's membership and removal: the width of that number,
whose range no rule states (log 14), and the layout of a membership (log 15) are the model's reading. -/
def Obligations.DriveReportTaken : Prop :=
  ∀ (s : State) (f : Frame) (a : DriveArgs), Asks s .drive 2 readDrive f a → commissioned s = true →
    ∃ t, exec (.driveReport .drive) s = .next t ∧
      Served .drive f .done
        ([.u8 t.cutter.run.code, .u8 t.cutter.reference,
            .u8 (match t.cutter.phase, t.cutter.direction with
              | some .reverse, .clockwise => 1
              | some .reverse, .anticlockwise => 0
              | _, .clockwise => 0
              | _, .anticlockwise => 1),
            .u16 t.cutter.torqueCeiling, .u64 (inMotors t.cutter)]
          ++ t.cutter.motors.toList.flatMap fun m =>
            match m.membership with
            | .isIn => [.u8 0, .u8 0, .u8 0]
            | .out .notReady => [.u8 1, .u8 1, .u8 0]
            | .out .share => [.u8 1, .u8 1, .u8 1])
        [] [.cutter, .chamber] s t ∧ CondsFollow s t ∧
      t.cutter.direction = s.cutter.direction ∧ t.cutter.requested = s.cutter.requested ∧
      t.cutter.reference =
        (if t.cutter.run = s.cutter.run ∨ atRest t.cutter.run = false then s.cutter.reference else 0) ∧
      t.cutter.measured = a.speed ∧ t.cutter.firstPending = false ∧
      (∀ m : Fin 8, t.cutter.motors[m].ready = a.motors[m].1 ∧ t.cutter.motors[m].torque = a.motors[m].2 ∧
        t.cutter.motors[m].membership =
          if s.cutter.firstPending then (if a.motors[m].1 then .isIn else .out .notReady)
          else if s.cutter.motors[m].membership = .isIn ∧ a.motors[m].1 = false then .out .notReady
          else s.cutter.motors[m].membership) ∧
      t.cutter.torqueCeiling = torqueCeilingOf t ∧
      (motorsLow t = true → t.cutter.run =
        if turning s.cutter.run then (if a.speed = 0 then .stopped else .stopping)
        else if s.cutter.run = .rocking then .jammed
        else if s.cutter.run = .stopping ∧ a.speed = 0 then .stopped else s.cutter.run) ∧
      (motorsLow t = false →
        (s.cutter.run = .starting → t.cutter.run =
          if ((a.speed : Int) - s.cutter.requested).natAbs * 10 ≤ s.cutter.requested then .running
          else .starting) ∧
        (s.cutter.run = .running → t.cutter.run = .running) ∧
        (s.cutter.run = .stopping → t.cutter.run = if a.speed = 0 then .stopped else .stopping) ∧
        (s.cutter.run = .rocking → t.cutter.run =
          if s.cutter.phase = some .forward ∧ s.cutter.reference ≤ a.speed * 2 ∧
              inTorque t.cutter * 1000 < (activeProfile s).breakout * t.cutter.torqueCeiling then .stopped
          else .rocking) ∧
        (s.cutter.run = .rocking → t.cutter.run = .stopped → t.cutter.attempts = 0 ∧ t.cutter.phase = none ∧
          t.cutter.rock = none ∧ t.cutter.reference = 0) ∧
        (t.cutter.run = .rocking → t.cutter.attempts = s.cutter.attempts) ∧
        (atRest s.cutter.run = true → t.cutter.run = s.cutter.run)) ∧
      (t.cutter.run = .running → s.cutter.run = .starting →
        t.chamber.integrator = s.chamber.snapshot.getD s.chamber.integrator ∧ t.chamber.snapshot = none) ∧
      (motorsLow t = false → s.cutter.run = .running →
        ∀ m : Fin 8, t.cutter.motors[m].membership = .isIn →
          t.cutter.motors[m].inShare =
            torqueInShare (activeProfile s).shareWindow (inTorque t.cutter / inMotors t.cutter) a.motors[m].2 ∧
          t.cutter.motors[m].deviation =
            if t.cutter.motors[m].inShare then none else some (s.cutter.motors[m].deviation.getD s.now)) ∧
      (turning t.cutter.run = true → t.cutter.jam =
        if (activeProfile s).breakout * t.cutter.torqueCeiling ≤ inTorque t.cutter * 1000 ∧
            a.speed * 10 < t.cutter.reference then some (s.cutter.jam.getD s.now)
        else none)

/-- R141: CUTTER START on a STOPPED cutterhead is refused with the reason of the first check that fails, and otherwise
makes it STARTING in the direction asked for, with the speed clamped to 1–40 and the ramp begun from 0. The
number of IN motors in the refusal MOTORS, whose range no rule states, takes 8 bytes (log 14). -/
def Obligations.CutterStarts : Prop :=
  ∀ (s : State) (f : Frame) (d : Direction) (v : Nat), Asks s .drive 9 readCutterStart f (d, v) →
    commissioned s = true → s.cutter.run = .stopped →
    (s.modes.mode ≠ .advance → s.modes.mode ≠ .continuous →
      exec (.cutterStart .drive) s = .next (answeredOnly .drive f .state [.u8 5] s)) ∧
    (s.modes.mode = .advance ∨ s.modes.mode = .continuous →
      (s.chamber.status = .lost →
        exec (.cutterStart .drive) s = .next (answeredOnly .drive f .state [.u8 6] s)) ∧
      (s.chamber.status ≠ .lost →
        (activeProfile s).startBand < (s.chamber.estimate - (activeProfile s).faceTarget).natAbs →
        exec (.cutterStart .drive) s = .next (answeredOnly .drive f .state
          [.u8 7, .i16 s.chamber.estimate, .u16 (activeProfile s).faceTarget, .u8 (activeProfile s).startBand] s)) ∧
      (s.chamber.status ≠ .lost →
        (s.chamber.estimate - (activeProfile s).faceTarget).natAbs ≤ (activeProfile s).startBand →
        (motorsLow s = true →
          exec (.cutterStart .drive) s = .next (answeredOnly .drive f .state
            [.u8 8, .u64 (inMotors s.cutter), .u8 (activeProfile s).minMotors] s)) ∧
        (motorsLow s = false → s.cutter.torqueCeiling = 0 →
          exec (.cutterStart .drive) s = .next (answeredOnly .drive f .state [.u8 9] s)) ∧
        (motorsLow s = false → s.cutter.torqueCeiling ≠ 0 → 0 < s.cutter.measured →
          exec (.cutterStart .drive) s = .next (answeredOnly .drive f .state [.u8 10] s)) ∧
        (motorsLow s = false → s.cutter.torqueCeiling ≠ 0 → s.cutter.measured = 0 →
          ∃ t, exec (.cutterStart .drive) s = .next t ∧
            Served .drive f .done
              [.u8 1, .u8 d.code, .u8 (max 1 (min v 40)), .u16 s.cutter.torqueCeiling] [] [.cutter] s t ∧
            CondsFollow s t ∧
            t.cutter =
              { s.cutter with
                run := .starting, direction := d, requested := max 1 (min v 40), reference := 0
                ramp := some s.now, rampSteps := 0 })))

/-- R141, R142, R144: in STARTING and RUNNING, CUTTER SPEED, and CUTTER START in the present direction, set the
requested speed clamped to 1–40; the ramp timer becomes absent when the reference equals it, starts when it was absent,
and runs on otherwise. In another run state both are refused STATE, and so is the other direction. That CUTTER START in
the present direction is answered as CUTTER SPEED (log 33) and that the speed of CUTTER SPEED, whose range no rule
states, is read in 8 bytes (log 14) are the model's reading. -/
def Obligations.SpeedRequested : Prop :=
  (∀ (s t : State) (f : Frame) (v : Nat), commissioned s = true → turning s.cutter.run = true →
    (Asks s .drive 10 readWide f v ∧ exec (.cutterSpeed .drive) s = .next t ∨
      Asks s .drive 9 readCutterStart f (s.cutter.direction, v) ∧ exec (.cutterStart .drive) s = .next t) →
    Served .drive f .done [.u8 (max 1 (min v 40)), .u8 s.cutter.reference] [] [.cutter] s t ∧ CondsFollow s t ∧
    t.cutter =
      { s.cutter with
        requested := max 1 (min v 40)
        ramp :=
          if s.cutter.reference = max 1 (min v 40) then none
          else if s.cutter.ramp.isSome then s.cutter.ramp else some s.now
        rampSteps :=
          if s.cutter.reference = max 1 (min v 40) then 0
          else if s.cutter.ramp.isSome then s.cutter.rampSteps else 0 }) ∧
  (∀ (s : State) (f : Frame) (v : Nat), commissioned s = true → Asks s .drive 10 readWide f v →
    (turning s.cutter.run = true → ∃ t, exec (.cutterSpeed .drive) s = .next t ∧
      t.cutter.requested = max 1 (min v 40) ∧ t.cutter.run = s.cutter.run) ∧
    (turning s.cutter.run = false →
      exec (.cutterSpeed .drive) s = .next (answeredOnly .drive f .state [.u8 0] s))) ∧
  (∀ (s : State) (f : Frame) (d : Direction) (v : Nat), commissioned s = true →
    Asks s .drive 9 readCutterStart f (d, v) →
    (turning s.cutter.run = true → d ≠ s.cutter.direction →
      exec (.cutterStart .drive) s = .next (answeredOnly .drive f .state [.u8 4] s)) ∧
    (turning s.cutter.run = false → s.cutter.run ≠ .stopped →
      exec (.cutterStart .drive) s = .next (answeredOnly .drive f .state [.u8 11] s)))

/-- R127, R142, R145, R146, R147: CUTTER STOP, from either of its links, brings a STARTING or RUNNING cutterhead to
STOPPING with a ramp target of 0 and a ROCKING one to JAMMED with its attempts kept; in every other run state nothing
changes. Leaving RUNNING takes the standstill snapshot. -/
def Obligations.CutterStops : Prop :=
  ∀ (s : State) (f : Frame) (p : Port), p = .drive ∨ p = .cabin → Asks s p 11 readNothing f () →
    commissioned s = true →
    ∃ t, exec (.cutterStop p) s = .next t ∧
      Served p f .done [.u8 t.cutter.run.code] [] [.cutter, .chamber] s t ∧ CondsFollow s t ∧
      (turning s.cutter.run = true → t.cutter.run = .stopping ∧ t.cutter.reference = s.cutter.reference ∧
        t.cutter.jam = none ∧ t.cutter.ramp =
          if s.cutter.reference = 0 then none else if s.cutter.ramp.isSome then s.cutter.ramp else some s.now) ∧
      (s.cutter.run = .running → t.chamber.snapshot = some s.chamber.integrator ∧ t.cutter.indexRef = none ∧
        t.cutter.watch = none ∧ t.cutter.indexLost = false) ∧
      (s.cutter.run = .rocking → t.cutter =
        { s.cutter with
          run := .jammed, phase := none, rock := none, reference := 0, ramp := none, rampSteps := 0, jam := none } ∧
        OnlyChanges [.cutter] s t) ∧
      (s.cutter.run = .starting → OnlyChanges [.cutter] s t) ∧
      (turning s.cutter.run = false → s.cutter.run ≠ .rocking → OnlyChanges [] s t)

/-- R155, R156, R157: CUTTER ROCK on a JAMMED cutterhead begins the REVERSE phase at the rock speed, loading the
attempts when none remain; when the rock timer has run, the FORWARD phase begins, and when it has run again the attempt
has failed: JAMMED while attempts remain, TRIPPED when none do. -/
def Obligations.RockingAttempt : Prop :=
  (∀ (s : State) (f : Frame), Asks s .drive 12 readNothing f () → commissioned s = true →
    (s.cutter.run = .rocking → exec (.cutterRock .drive) s = .next (answeredOnly .drive f .busy [] s)) ∧
    (s.cutter.run ≠ .rocking → s.cutter.run ≠ .jammed →
      exec (.cutterRock .drive) s = .next (answeredOnly .drive f .state [.u8 13] s)) ∧
    (s.cutter.run = .jammed → s.modes.mode ≠ .advance → s.modes.mode ≠ .continuous →
      exec (.cutterRock .drive) s = .next (answeredOnly .drive f .state [.u8 5] s)) ∧
    (s.cutter.run = .jammed → s.modes.mode = .advance ∨ s.modes.mode = .continuous →
      (s.chamber.status = .lost →
        exec (.cutterRock .drive) s = .next (answeredOnly .drive f .state [.u8 6] s)) ∧
      (s.chamber.status ≠ .lost → motorsLow s = true →
        exec (.cutterRock .drive) s = .next (answeredOnly .drive f .state [.u8 8] s)) ∧
      (s.chamber.status ≠ .lost → motorsLow s = false → ∃ t n, exec (.cutterRock .drive) s = .next t ∧
        n = (if s.cutter.attempts = 0 then (activeProfile s).rockAttempts else s.cutter.attempts) ∧
        Served .drive f .done [.u8 n] [] [.cutter] s t ∧ CondsFollow s t ∧
        t.cutter =
          { s.cutter with
            run := .rocking, phase := some .reverse, rock := some s.now
            reference := (activeProfile s).rockSpeed, attempts := n }))) ∧
  (∀ (s : State) (began : Nat), s.powered = true → s.cutter.run = .rocking → s.cutter.rock = some began →
    began + (activeProfile s).rockTime ≤ s.now →
    (s.cutter.phase = some .reverse → ∃ t, exec .reversePhaseExpiry s = .next t ∧ Made [] [.cutter] s t ∧
      CondsFollow s t ∧
      t.cutter =
        { s.cutter with
          phase := some .forward, rock := some s.now, reference := (activeProfile s).rockSpeed }) ∧
    (s.cutter.phase = some .forward → ∃ t, exec .forwardPhaseExpiry s = .next t ∧ Made [] [.cutter] s t ∧
      CondsFollow s t ∧
      t.cutter =
        { s.cutter with
          run := if s.cutter.attempts ≤ 1 then .tripped else .jammed
          phase := none, rock := none, reference := 0, ramp := none, rampSteps := 0, jam := none
          attempts := s.cutter.attempts - 1 }))

/-- R140, R146, R148, R149: MOTOR READMIT of a ready motor that is OUT, while STOPPED or JAMMED, returns it to the
count; the checks before it refuse and change nothing. A motor that has been out of share for the share time is OUT by
SHARE. The torque ceiling follows both; too few IN motors stop a turning cutterhead. That the run state is checked
before the readiness and the readiness before the membership is the model's reading (log 33), and so are the 8 bytes
of the number of IN motors, whose range no rule states (log 14). -/
def Obligations.MotorsComeAndGo : Prop :=
  (∀ (s : State) (f : Frame) (m : Fin 8), Asks s .drive 13 readByte f m.val → commissioned s = true →
    (s.cutter.run ≠ .stopped → s.cutter.run ≠ .jammed →
      exec (.motorReadmit .drive) s = .next (answeredOnly .drive f .state [.u8 11] s)) ∧
    (s.cutter.run = .stopped ∨ s.cutter.run = .jammed →
      (s.cutter.motors[m].ready = false →
        exec (.motorReadmit .drive) s = .next (answeredOnly .drive f .state [.u8 12] s)) ∧
      (s.cutter.motors[m].ready = true → s.cutter.motors[m].membership = .isIn →
        exec (.motorReadmit .drive) s =
          .next (answeredOnly .drive f .done [.u64 (inMotors s.cutter), .u16 s.cutter.torqueCeiling] s)) ∧
      (s.cutter.motors[m].ready = true → s.cutter.motors[m].membership ≠ .isIn →
        ∃ t, exec (.motorReadmit .drive) s = .next t ∧
          Served .drive f .done [.u64 (inMotors t.cutter), .u16 (torqueCeilingOf t)] [] [.cutter] s t ∧
          CondsFollow s t ∧ inMotors t.cutter = inMotors s.cutter + 1 ∧
          t.cutter =
            { s.cutter with
              torqueCeiling := torqueCeilingOf t
              motors := s.cutter.motors.set m.val
                { s.cutter.motors[m] with membership := .isIn, inShare := true, deviation := none } m.isLt }))) ∧
  (∀ (s : State) (m : Fin 8) (began : Nat), s.powered = true → s.cutter.motors[m].membership = .isIn →
    s.cutter.motors[m].deviation = some began → began + (activeProfile s).shareTime ≤ s.now →
    ∃ t, exec (.deviationTimerExpiry m) s = .next t ∧ Made [] [.cutter, .chamber] s t ∧ CondsFollow s t ∧
      t.cutter.motors[m].membership = .out .share ∧ t.cutter.motors[m].deviation = none ∧
      (∀ k : Fin 8, k ≠ m → t.cutter.motors[k].membership = s.cutter.motors[k].membership) ∧
      inMotors t.cutter + 1 = inMotors s.cutter ∧ t.cutter.torqueCeiling = torqueCeilingOf t ∧
      t.cutter.run =
        if motorsLow t then
          if turning s.cutter.run then .stopping
          else if s.cutter.run = .rocking then .jammed else s.cutter.run
        else s.cutter.run)

/-- R150, R151, R152, R207: a pulse of at least 1 ms in RUNNING closes the revolution in progress, and the governor
factor falls by 100 (to no less than 300) when the penetration is above the limit and rises by 100 (to no more than
1,000) otherwise; without an index reference, or after INDEX_LOST, it opens a revolution only. Each restarts the index
watch. A shorter pulse, or one in another run state, is ignored. When the watch has run for its limit, INDEX_LOST is
raised and the watch becomes absent. -/
def Obligations.RevolutionIndex : Prop :=
  (∀ (s : State) (ms : Nat), s.powered = true → ms = 0 ∨ s.cutter.run ≠ .running →
    ∃ t, exec (.revolutionIndexPulse ms) s = .next t ∧ Made [] [] s t) ∧
  (∀ (s : State) (ms : Nat), s.powered = true → 1 ≤ ms → s.cutter.run = .running →
    ∃ t watch, exec (.revolutionIndexPulse ms) s = .next t ∧ Made [] [.cutter] s t ∧ CondsFollow s t ∧
      watch = (if 0 < s.cutter.reference then some s.now else none) ∧
      (s.cutter.indexRef = none ∨ s.cutter.indexLost = true →
        t.cutter =
          { s.cutter with indexLost := false, indexRef := some s.now, revAdvance := 0, watch := watch }) ∧
      (∀ start, s.cutter.indexRef = some start → s.cutter.indexLost = false →
        ∃ above factor, above = decide ((activeProfile s).penetrationLimit < s.cutter.revAdvance) ∧
          factor = (if above then max 300 (s.cutter.governor - 100) else min (s.cutter.governor + 100) 1000) ∧
          t.cutter =
            { s.cutter with
              revolutions := pushCapped 16 s.cutter.revolutions
                { time := s.now, period := s.now - start, penetration := s.cutter.revAdvance, above, factor }
              governor := factor, penetrationHigh := above, indexRef := some s.now, revAdvance := 0
              watch := watch })) ∧
  (∀ (s : State) (began : Nat), s.powered = true → s.cutter.run = .running → 0 < s.cutter.reference →
    s.cutter.watch = some began → began + 1200000 / s.cutter.reference ≤ s.now →
    ∃ t, exec .indexWatchExpiry s = .next t ∧ Made [] [.cutter] s t ∧ CondsFollow s t ∧
      t.cutter = { s.cutter with indexLost := true, watch := none })

/-- R142, R152: a ramp step, at each 500 ms from the ramp timer's start, moves the reference one unit toward the
requested speed, or toward 0 in STOPPING, and makes the timer absent at the target. R153, R154: a jam timer that has
run for the jam time makes the cutterhead JAMMED at reference 0, and a RUNNING one takes the standstill snapshot. -/
def Obligations.RampAndJamTimers : Prop :=
  (∀ (s : State) (began target : Nat), s.powered = true → s.cutter.ramp = some began →
    began + 500 * (s.cutter.rampSteps + 1) ≤ s.now →
    target = (if s.cutter.run = .stopping then 0 else s.cutter.requested) →
    ∃ t reference, exec .rampStep s = .next t ∧ Made [] [.cutter] s t ∧ CondsFollow s t ∧
      reference = (if s.cutter.reference < target then s.cutter.reference + 1
        else if target < s.cutter.reference then s.cutter.reference - 1 else s.cutter.reference) ∧
      t.cutter =
        { s.cutter with
          reference
          ramp := if reference = target then none else some began
          rampSteps := if reference = target then 0 else s.cutter.rampSteps + 1
          watch :=
            if s.cutter.run = .running then
              if reference = 0 then none else if s.cutter.reference = 0 then some s.now else s.cutter.watch
            else s.cutter.watch }) ∧
  (∀ (s : State) (began : Nat), s.powered = true → turning s.cutter.run = true → s.cutter.jam = some began →
    began + (activeProfile s).jamTime ≤ s.now →
    ∃ t, exec .jamTimerExpiry s = .next t ∧ Made [] [.cutter, .chamber] s t ∧ CondsFollow s t ∧
      t.cutter.run = .jammed ∧ t.cutter.reference = 0 ∧ t.cutter.ramp = none ∧ t.cutter.jam = none ∧
      t.cutter.attempts = s.cutter.attempts ∧ t.cutter.direction = s.cutter.direction ∧
      (s.cutter.run = .running → t.chamber.snapshot = some s.chamber.integrator) ∧
      (s.cutter.run = .starting → OnlyChanges [.cutter] s t))

/-- R146: while the cutterhead turns or rocks, the mode is ADVANCE or CONTINUOUS, the estimate is not LOST and the IN
motors are no fewer than the minimum; every step keeps this law. -/
def Obligations.TurningStaysAllowed : Prop :=
  ∀ s t : State, TurningAllowed s → step s = .next t → TurningAllowed t

/-! ## Grout -/

/-- R97: the largest remainder distribution. With a recipient, the portions of a signed amount sum to it; a line
without share gets none; each recipient gets its rounded-down part of the magnitude or one mL more, and of two
recipients the one with the larger remainder, or with the lower number among equal ones, is given that mL first. -/
def Obligations.LargestRemainder : Prop :=
  ∀ (shares : Vector Nat 6) (a : Int), sumNat shares ≠ 0 →
    sumInt (signedPortions shares a) = a ∧
    (∀ i : Fin 6, shares[i] = 0 → (signedPortions shares a)[i] = 0) ∧
    (∀ i : Fin 6, shares[i] ≠ 0 →
      ((signedPortions shares a)[i].natAbs = a.natAbs * shares[i] / sumNat shares ∨
        (signedPortions shares a)[i].natAbs = a.natAbs * shares[i] / sumNat shares + 1) ∧
      (a < 0 → (signedPortions shares a)[i] ≤ 0) ∧ (0 ≤ a → 0 ≤ (signedPortions shares a)[i])) ∧
    (∀ i j : Fin 6, shares[i] ≠ 0 → shares[j] ≠ 0 →
      (signedPortions shares a)[j].natAbs = a.natAbs * shares[j] / sumNat shares + 1 →
      a.natAbs * shares[j] % sumNat shares < a.natAbs * shares[i] % sumNat shares ∨
        (a.natAbs * shares[j] % sumNat shares = a.natAbs * shares[i] % sumNat shares ∧ i < j) →
      (signedPortions shares a)[i].natAbs = a.natAbs * shares[i] / sumNat shares + 1)

/-- R101: DOSE TAKE hands over the POSTED descriptor of the line that was posted earliest, which becomes TAKEN;
nothing else changes and the debt stays. The refusals change no record. The number of POSTED descriptors left, whose
range no rule states, takes 8 bytes (log 14). -/
def Obligations.DoseTaken : Prop :=
  ∀ (s : State) (f : Frame) (i : Fin 6), Asks s .grout 21 readByte f i.val → commissioned s = true →
    (s.permits.grout.allowed = false →
      exec (.doseTake .grout) s = .next (answeredOnly .grout f .state [.u8 1] s)) ∧
    (s.permits.grout.allowed = true → s.grout.lines[i].service ≠ .inService →
      exec (.doseTake .grout) s = .next (answeredOnly .grout f .state [.u8 2] s)) ∧
    (s.permits.grout.allowed = true → s.grout.lines[i].service = .inService →
      (∀ before d rest, s.grout.lines[i].descriptors = before ++ { dose := d, state := .taken } :: rest →
        (∀ x ∈ before, x.state ≠ .taken) →
        exec (.doseTake .grout) s = .next (answeredOnly .grout f .busy [.u8 d.sequence] s)) ∧
      ((∀ x ∈ s.grout.lines[i].descriptors, x.state ≠ .taken ∧ x.state ≠ .posted) →
        exec (.doseTake .grout) s = .next (answeredOnly .grout f .state [.u8 3] s)) ∧
      (∀ before d rest, s.grout.lines[i].descriptors = before ++ { dose := d, state := .posted } :: rest →
        (∀ x ∈ before ++ rest, x.state ≠ .taken) → (∀ x ∈ before, x.state ≠ .posted) →
        ∃ t, exec (.doseTake .grout) s = .next t ∧
          Served .grout f .done
            [.u8 d.sequence, .u32 d.increment, .u16 d.target, .u16 d.limit,
              .u64 (rest.countP fun x => x.state = .posted)] [] [.grout] s t ∧ CondsFollow s t ∧
          t.grout =
            { s.grout with
              lines := s.grout.lines.set i.val
                { s.grout.lines[i] with
                  descriptors := before ++ { dose := d, state := .taken } :: rest } i.isLt } ∧
          debtOf t.grout = debtOf s.grout))

/-- R97, R102 to R105, R109, R110, R111: DOSE CLOSE of the TAKEN descriptor closes it with its result; the actual
joins the line's, the cycle's and the cumulative injected totals; the debt falls by exactly the actual. The difference
of a PRESSURE LIMIT that stopped short is spread over the other lines; any other difference reaches the line's own
carry, which stays on an IN_SERVICE line and is spread over the others from one that is not. A FAULT leaves the line
BLOCKED: its POSTED descriptors, if it was IN_SERVICE, are cancelled, and their targets with its carry are spread.
Without another recipient what is spread goes to the pool. The response carries the outcome, the difference, the
line's carry, the portions, the numbers of the cancelled descriptors, the service state and the debt; that the
portions stand there also where nothing was spread is the model's reading (log 25). No TAKEN descriptor is refused
STATE, another sequence number SEQUENCE. -/
def Obligations.DoseClosed : Prop :=
  ∀ (s : State) (f : Frame) (i : Fin 6) (a : DoseCloseArgs), Asks s .grout 22 readDoseClose f a →
    commissioned s = true → a.line = i.val → a.actual ≤ 100000 → a.peak ≤ 2000 →
    ((∀ x ∈ s.grout.lines[i].descriptors, x.state ≠ .taken) →
      exec (.doseClose .grout) s = .next (answeredOnly .grout f .state [.u8 0] s)) ∧
    (∀ before d rest, s.grout.lines[i].descriptors = before ++ { dose := d, state := .taken } :: rest →
      (∀ x ∈ before, x.state ≠ .taken) →
      (a.sequence ≠ d.sequence →
        exec (.doseClose .grout) s = .next (answeredOnly .grout f .sequence [.u8 d.sequence] s)) ∧
      (a.sequence = d.sequence → ∀ (diff moved : Int) (posted : List Descriptor) (shares : Vector Nat 6)
        (direct leaves : Bool),
        diff = d.target - a.actual → direct = decide (a.outcome = .pressureLimit ∧ 0 < diff) →
        leaves = decide (a.outcome = .fault ∧ s.grout.lines[i].service = .inService) →
        posted = (before ++ rest).filter (fun x => decide (x.state = .posted)) →
        moved =
          (if direct then diff
          else if s.grout.lines[i].service = .inService ∧ a.outcome ≠ .fault then 0
          else s.grout.lines[i].carry + diff
            + if leaves then ((posted.map fun x => x.dose.target).sum : Nat) else 0) →
        shares = Vector.ofFn (fun k => if s.grout.lines[k].service = .inService ∧ k ≠ i then
          (activeProfile s).shares[k] else 0) →
        ∃ t portions, exec (.doseClose .grout) s = .next t ∧
          portions = (if sumNat shares = 0 then Vector.replicate 6 0 else signedPortions shares moved) ∧
          Served .grout f .done
            ([.u8 a.outcome.code, .i64 diff, .i64 t.grout.lines[i].carry] ++ portions.toList.map .i64
              ++ [.i64 (if sumNat shares = 0 then moved else 0)]
              ++ listFields (fun n => [.u8 n]) (if leaves then posted.map (·.dose.sequence) else [])
              ++ [.u8 t.grout.lines[i].service.code, .i64 (debtOf t.grout)])
            [] [.grout, .account] s t ∧ CondsFollow s t ∧
          t.account =
            { s.account with
              cycle := { s.account.cycle with injected := satAdd s.account.cycle.injected a.actual }
              totals := { s.account.totals with injected := s.account.totals.injected.add a.actual } } ∧
          debtOf t.grout = debtOf s.grout - a.actual ∧ t.grout.judged = true ∧
          t.grout.lines[i] =
            { s.grout.lines[i] with
              service := if a.outcome = .fault then .blocked else s.grout.lines[i].service
              injected := satAdd s.grout.lines[i].injected a.actual
              carry :=
                if direct then s.grout.lines[i].carry
                else if s.grout.lines[i].service = .inService ∧ a.outcome ≠ .fault then
                  s.grout.lines[i].carry + diff
                else 0
              descriptors :=
                (before ++ { dose := d, state := .closed a.actual a.peak a.outcome } :: rest).filter
                  fun x => !(leaves && decide (x.state = .posted)) } ∧
          (∀ k : Fin 6, k ≠ i → t.grout.lines[k] =
            { s.grout.lines[k] with carry := s.grout.lines[k].carry + portions[k] }) ∧
          t.grout.pool = s.grout.pool + if sumNat shares = 0 then moved else 0))

/-- R97, R106, R108, R109: LINE STATE sets the line's capacity class and service state. A line that leaves IN_SERVICE
loses its POSTED descriptors, and their targets with its carry are spread over the other lines that are IN_SERVICE and
have a share, or go to the pool without one; every other change keeps carries and descriptors. The debt never changes.
The response carries the line record, the numbers of the cancelled descriptors and the portions: its layout (log 15)
and the portions that stand there also where nothing was spread (log 25) are the model's choices. -/
def Obligations.LineStateSet : Prop :=
  ∀ (s : State) (f : Frame) (i : Fin 6) (a : LineStateArgs), Asks s .grout 23 readLineState f a →
    commissioned s = true → a.line = i.val →
    ∀ (posted : List Descriptor) (moved : Int) (shares : Vector Nat 6) (leaves : Bool),
    leaves = decide (s.grout.lines[i].service = .inService ∧ a.service ≠ .inService) →
    posted = s.grout.lines[i].descriptors.filter (fun x => decide (x.state = .posted)) →
    moved =
      (if leaves then s.grout.lines[i].carry + ((posted.map fun x => x.dose.target).sum : Nat) else 0) →
    shares = Vector.ofFn (fun k => if s.grout.lines[k].service = .inService ∧ k ≠ i then
      (activeProfile s).shares[k] else 0) →
    ∃ t portions, exec (.lineState .grout) s = .next t ∧
      portions = (if sumNat shares = 0 then Vector.replicate 6 0 else signedPortions shares moved) ∧
      Served .grout f .done
        ([.u8 a.service.code, .u8 a.capacity.code, .i64 t.grout.lines[i].carry,
            .u8 s.grout.lines[i].nextSequence, .u64 s.grout.lines[i].injected]
          ++ t.grout.lines[i].descriptorFields ++ [.u8 (constantsOf s).lineSectors[i]]
          ++ listFields (fun n => [.u8 n]) (if leaves then posted.map (·.dose.sequence) else [])
          ++ portions.toList.map .i64 ++ [.i64 (if sumNat shares = 0 then moved else 0)])
        [] [.grout] s t ∧ CondsFollow s t ∧
      t.grout.lines[i] =
        { s.grout.lines[i] with
          service := a.service, capacity := a.capacity
          carry := if leaves then 0 else s.grout.lines[i].carry
          descriptors := s.grout.lines[i].descriptors.filter fun x => !(leaves && decide (x.state = .posted)) } ∧
      (∀ k : Fin 6, k ≠ i → t.grout.lines[k] =
        { s.grout.lines[k] with carry := s.grout.lines[k].carry + portions[k] }) ∧
      t.grout.pool = s.grout.pool + (if sumNat shares = 0 then moved else 0) ∧
      t.grout.judged = s.grout.judged ∧ debtOf t.grout = debtOf s.grout

/-! ## Chamber and spoil -/

/-- R118 to R130: a SPOIL REPORT reads the transducers (a pressure above 1,000 kPa is invalid), forms the estimate of
R120 from the referred values in rising order, moves the integrator and computes the setpoint by R123, R124 and R126,
and takes the belt difference modulo 2³². With no valid value the estimate is LOST, its value kept: the setpoint comes
down to the standstill ceiling, the gate closes, and a turning cutterhead stops. The same follows when 1,000 ms have
passed since the last report. The response carries the estimate, the valid count, the setpoint, gate allowed, the belt
difference and the measured mass as they stand after the report; the mark of the difference, accepted 0 or rejected 1
(log 15), and the place of the screw actual speed and the gate state (log 36) are the model's choices. The report finds
the screw held, as every step keeps it (ScrewStaysHeld). -/
def Obligations.EstimateMadeAndLost : Prop :=
  (∀ (s : State) (f : Frame) (a : SpoilArgs) (values : List Int) (p : Profile),
    Asks s .spoil 24 readSpoil f a → commissioned s = true → ScrewHeld s → p = activeProfile s →
    values.Perm ((List.finRange 5).filterMap fun k =>
      if a.flags[k] = true ∧ a.pressures[k] ≤ 1000 then
        some (((a.pressures[k] : Nat) : Int) + roundAway ((p.unitWeight : Int) * (constantsOf s).heights[k]) 10000)
      else none) →
    values.Pairwise (· ≤ ·) →
    ∃ t, exec (.spoilReport .spoil) s = .next t ∧
      Served .spoil f .done
        ([.i16 t.chamber.estimate, .u8 t.chamber.status.code, .u8 values.length, .u16 t.chamber.setpoint,
            yesNo t.chamber.gateAllowed]
          ++ (match s.chamber.beltRef with
            | none => [.u8 0, .u32 0, .u8 0]
            | some reference =>
              [.u8 1, .u32 ((a.belt + 2 ^ 32 - reference) % 2 ^ 32),
                .u8 (if (a.belt + 2 ^ 32 - reference) % 2 ^ 32 ≤ 50000 then 0 else 1)])
          ++ [.u64 t.account.cycle.measured, .u16 a.screw, .u8 a.gate.code])
        [] [.chamber, .cutter, .account] s t ∧ CondsFollow s t ∧
      t.chamber.lastReport = some s.now ∧ t.chamber.screwActual = a.screw ∧ t.chamber.gate = a.gate ∧
      t.chamber.validCount = values.length ∧
      (∀ k : Fin 5, t.chamber.transducers[k].raw = a.pressures[k] ∧
        t.chamber.transducers[k].valid = (a.flags[k] && decide (a.pressures[k] ≤ 1000))) ∧
      (t.chamber.estimate, t.chamber.status) =
        (match values with
          | [_, _, c, _, _] => (c, .good)
          | [_, b, c, _] => ((b + c) / 2, .good)
          | [_, b, _] => (b, .good)
          | [b, c] => ((b + c) / 2, .degraded)
          | [b] => (b, .degraded)
          | _ => (s.chamber.estimate, .lost)) ∧
      (values ≠ [] → ∀ e v : Int, e = t.chamber.estimate - p.faceTarget →
        t.chamber.gateAllowed = true ∧ t.cutter = s.cutter ∧
        t.chamber.integrator =
          (if s.chamber.setpoint = 0 ∧ e < 0 ∨ s.chamber.setpoint = p.screwMax ∧ 0 < e then s.chamber.integrator
          else min (s.chamber.integrator + p.ki * e).toNat (1000 * p.screwMax)) ∧
        (v = roundHalfUp (p.kp * e + t.chamber.integrator + p.kf * s.account.speed) 1000 →
          t.chamber.setpoint =
            if standstillLimit t then min (min v.toNat p.screwMax) p.standstillCeiling
            else min v.toNat p.screwMax)) ∧
      (values = [] → s.chamber.status ≠ .lost →
        t.chamber.gateAllowed = false ∧ t.chamber.integrator = s.chamber.integrator ∧
        t.chamber.setpoint = min s.chamber.setpoint p.standstillCeiling ∧
        t.cutter.run = (if turning s.cutter.run then .stopping
          else if s.cutter.run = .rocking then .jammed else s.cutter.run)) ∧
      t.chamber.beltRef = some a.belt ∧
      (s.chamber.beltRef = none → t.chamber.lastBelt = none ∧ t.account = s.account) ∧
      (∀ reference amount, s.chamber.beltRef = some reference → amount = (a.belt + 2 ^ 32 - reference) % 2 ^ 32 →
        t.chamber.lastBelt = some { amount, accepted := decide (amount ≤ 50000) } ∧
        t.chamber.spoilCounter = !decide (amount ≤ 50000) ∧
        t.account =
          { s.account with
            cycle :=
              { s.account.cycle with
                measured :=
                  if amount ≤ 50000 then satAdd s.account.cycle.measured amount
                  else s.account.cycle.measured } })) ∧
  (∀ (s : State) (at_ : Nat), s.powered = true → s.chamber.status ≠ .lost → s.chamber.lastReport = some at_ →
    at_ + 1000 ≤ s.now →
    ∃ t, exec .estimateLossExpiry s = .next t ∧ Made [] [.chamber, .cutter] s t ∧ CondsFollow s t ∧
      t.chamber.status = .lost ∧ t.chamber.estimate = s.chamber.estimate ∧ t.chamber.gateAllowed = false ∧
      t.chamber.transducers = s.chamber.transducers ∧ t.chamber.integrator = s.chamber.integrator ∧
      t.chamber.setpoint = min s.chamber.setpoint (activeProfile s).standstillCeiling ∧
      t.cutter.run = (if turning s.cutter.run then .stopping
        else if s.cutter.run = .rocking then .jammed else s.cutter.run))

/-! ## The ring plan store -/

/-- R185, R186, R187: PLAN ERASE makes every row BLANK, moves base and cursor, and is complete 2,000 ms later; it is
refused BUSY while a command runs, RANGE for base 0 and LOCKED while the ring record is not IDLE, and the last two
refusals become the last command record. That RANGE comes before LOCKED (log 18), that the operation end is a plain
field in the answers (log 14) and that the completion stamps DONE on the last command record also where a refusal has
replaced it (log 17) are the model's choices. -/
def Obligations.PlanErased : Prop :=
  (∀ (s : State) (f : Frame) (base : Nat), Asks s .cabin 28 readWord f base →
    (s.plan.status ≠ .idle → exec (.planErase .cabin) s =
      .next (answeredOnly .cabin f .busy [.u8 s.plan.status.code, .u64 (s.plan.opEnd.getD 0)] s)) ∧
    (s.plan.status = .idle → base = 0 → ∃ t, exec (.planErase .cabin) s = .next t ∧
      Served .cabin f .range [] [] [.plan] s t ∧
      t.plan =
        { s.plan with
          last := some { command := .erase, first := base, rows := 0, written := 0, result := .refused .range } }) ∧
    (s.plan.status = .idle → 1 ≤ base → base ≤ 65535 → s.ring.state ≠ .idle →
      ∃ t, exec (.planErase .cabin) s = .next t ∧
        Served .cabin f .locked [.u16 s.ring.number, .u8 s.ring.state.code] [] [.plan] s t ∧
        t.plan =
          { s.plan with
            last := some
              { command := .erase, first := base, rows := 0, written := 0, result := .refused .locked } }) ∧
    (s.plan.status = .idle → 1 ≤ base → base ≤ 65535 → s.ring.state = .idle →
      ∃ t, exec (.planErase .cabin) s = .next t ∧
        Served .cabin f .done [.u16 base, .u64 (s.now + 2000)] [] [.plan] s t ∧ CondsFollow s t ∧
        t.plan =
          { rows := [], base, cursor := base, written := 0, status := .erasing, opEnd := some (s.now + 2000)
            last := some { command := .erase, first := base, rows := 0, written := 0, result := .inProgress }
            running := some { command := .erase, first := base, rows := 0, written := 0, result := .inProgress }
            job := none } ∧
        ∀ ring, rowOfRing t.plan ring = none)) ∧
  (∀ (s : State) (due : Nat), s.powered = true → s.plan.status = .erasing → s.plan.opEnd = some due → due ≤ s.now →
    ∃ t, exec .eraseCompletion s = .next t ∧ Made [] [.plan] s t ∧ CondsFollow s t ∧
      t.plan =
        { s.plan with
          status := .idle, opEnd := none, running := none, job := none
          last := s.plan.last.map fun c => { c with result := .done } })

/-- R185, R188, R189, R190: PLAN WRITE, and PLAN WRITE NEXT from the cursor, of 1 to 16 rows in their ranges, into
BLANK rows of the span that the ring record does not hold, begins a write that ends 4 ms a row later; each row is
stored when it completes, the cursor behind it, and the last one ends the command. The first check of the table of
R188 that fails refuses the write: RANGE for the number of rows, RANGE with the ring of the first row that has a field
out of its range, RANGE with the span, LOCKED with the ring number, NOT_BLANK with the first ring whose row is
WRITTEN. The refusal becomes the last command record and changes nothing else. That the operation end is a plain field
in the answers and the ring of step 2 takes 8 bytes (log 14), that the span is carried as two rings (log 15), and that
a row and the end of the command are noted in the last command record also where a refusal has replaced it (log 17),
are the model's choices. -/
def Obligations.RowsWritten : Prop :=
  (∀ (s : State) (f : Frame) (first : Nat) (rows : List PlanRow) (c : PlanCommand) (i : Instr),
    (c = .write ∧ i = .planWrite .cabin ∧ Asks s .cabin 30 readFirstAndRows f (first, rows) ∨
      c = .writeNext ∧ i = .planWriteNext .cabin ∧ Asks s .cabin 31 readPlanRows f rows ∧ first = s.plan.cursor) →
    (s.plan.status ≠ .idle → exec i s =
      .next (answeredOnly .cabin f .busy [.u8 s.plan.status.code, .u64 (s.plan.opEnd.getD 0)] s)) ∧
    (∀ x, s.plan.status = .idle → (writeChecks first rows s).find? (·.1) = some x →
      ∃ t, exec i s = .next t ∧ Served .cabin f x.2.1 x.2.2 [] [.plan] s t ∧
        t.plan =
          { s.plan with
            last := some { command := c, first, rows := rows.length, written := 0, result := .refused x.2.1 } }) ∧
    (s.plan.status = .idle → (writeChecks first rows s).find? (·.1) = none →
      ∃ t, exec i s = .next t ∧
        Served .cabin f .done [.u16 first, .u8 rows.length, .u64 (s.now + 4 * rows.length)] [] [.plan] s t ∧
        CondsFollow s t ∧
        t.plan =
          { s.plan with
            status := .writing, opEnd := some (s.now + 4 * rows.length)
            last := some { command := c, first, rows := rows.length, written := 0, result := .inProgress }
            running := some { command := c, first, rows := rows.length, written := 0, result := .inProgress }
            job := some { rows, nextRing := first, nextDue := s.now + 4 } })) ∧
  (∀ (s : State) (row : PlanRow) (rest : List PlanRow) (ring due : Nat), s.powered = true →
    s.plan.status = .writing → s.plan.job = some { rows := row :: rest, nextRing := ring, nextDue := due } →
    due ≤ s.now →
    ∃ t, exec .rowCompletion s = .next t ∧ Made [] [.plan] s t ∧ CondsFollow s t ∧
      lookupRow t.plan.rows (ring - s.plan.base) = some row ∧
      (∀ k, k ≠ ring - s.plan.base → lookupRow t.plan.rows k = lookupRow s.plan.rows k) ∧
      t.plan.base = s.plan.base ∧ t.plan.written = s.plan.written + 1 ∧ t.plan.cursor = ring + 1 ∧
      (rest ≠ [] → t.plan.status = .writing ∧ t.plan.opEnd = s.plan.opEnd ∧
        t.plan.job = some { rows := rest, nextRing := ring + 1, nextDue := due + 4 } ∧
        t.plan.running = (s.plan.running.map fun c => { c with written := c.written + 1 }) ∧
        t.plan.last = s.plan.last.map fun c => { c with written := c.written + 1 }) ∧
      (rest = [] → t.plan.status = .idle ∧ t.plan.opEnd = none ∧ t.plan.running = none ∧ t.plan.job = none ∧
        t.plan.last = s.plan.last.map fun c => { c with written := c.written + 1, result := .done }))

/-- R191, R192, R201: READ from any link in any mode, PLAN VERIFY, PLAN BLANK CHECK and PLAN STATUS answer from the
records as they stand once the request has been taken, and change none. PLAN VERIFY makes the checks of steps 1 to 3
of R188 and tells the first ring that differs, with BLANK or the first field that differs, or that every row matches.
That the operation end is a plain field in BUSY and the 8 bytes of the ring of step 2, of the matching rings and of
the last command record's first ring and counts, whose range no rule states (log 14), the timebase as the last field
of a READ, the span as two rings and the two optional fields of PLAN VERIFY (log 15) are the model's reading. -/
def Obligations.QueriesChangeNothing : Prop :=
  (∀ (s : State) (f : Frame) (p : Port) (x : Selector), Asks s p 39 readSelector f x →
    (∀ fields, recordFields (dropHead p (quiet s)) x = some fields →
      exec (.read p) s = .next (answeredOnly p f .done (fields ++ [.u64 s.now]) s)) ∧
    (recordFields (dropHead p (quiet s)) x = none → exec (.read p) s = .next (answeredOnly p f .range [] s)) ∧
    (x ≠ .links → recordFields (dropHead p (quiet s)) x = recordFields s x)) ∧
  (∀ (s : State) (f : Frame), Asks s .cabin 33 readNothing f () →
    exec (.planStatus .cabin) s = .next (answeredOnly .cabin f .done
      (.u8 s.plan.status.code :: optU64 s.plan.opEnd
        ++ [.u16 s.plan.base, .u32 s.plan.cursor, .u16 s.plan.written] ++ lastFields s.plan.last) s)) ∧
  (∀ (s : State) (f : Frame), Asks s .cabin 29 readNothing f () → s.plan.status = .idle →
    exec (.planBlankCheck .cabin) s = .next (answeredOnly .cabin f .done
      ([.u16 s.plan.written] ++ optU16 (s.plan.rows.head?.map fun r => s.plan.base + r.1)
        ++ optU16 (s.plan.rows.getLast?.map fun r => s.plan.base + r.1)
        ++ [.u16 s.plan.base, .u16 (min (s.plan.base + 2047) 65535)]) s)) ∧
  (∀ (s : State) (f : Frame) (first : Nat) (rows : List PlanRow), Asks s .cabin 32 readFirstAndRows f (first, rows) →
    s.plan.status = .idle →
    (∀ x, (rowChecks first rows s.plan).find? (·.1) = some x →
      exec (.planVerify .cabin) s = .next (answeredOnly .cabin f x.2.1 x.2.2 s)) ∧
    ((rowChecks first rows s.plan).find? (·.1) = none →
      (∀ (k : Nat) (h : k < rows.length), rowOfRing s.plan (first + k) = some rows[k]) →
      exec (.planVerify .cabin) s = .next (answeredOnly .cabin f .done
        [.u8 0, .u16 0, .u8 0, .u8 0, .u64 rows.length] s)) ∧
    (∀ (k kind : Nat) (h : k < rows.length), (rowChecks first rows s.plan).find? (·.1) = none →
      (∀ (j : Nat) (hj : j < k), rowOfRing s.plan (first + j) = some (rows[j]'(by omega))) →
      rowOfRing s.plan (first + k) ≠ some rows[k] →
      kind =
        (match rowOfRing s.plan (first + k) with
          | none => 0
          | some r =>
            if r.ringType ≠ rows[k].ringType then 1
            else if r.keySector ≠ rows[k].keySector then 2
            else if r.start ≠ rows[k].start then 3
            else if r.fill ≠ rows[k].fill then 4 else 5) →
      exec (.planVerify .cabin) s = .next (answeredOnly .cabin f .done
        [.u8 1, .u16 (first + k), .u8 1, .u8 kind, .u64 k] s))) ∧
  (∀ (s : State) (f : Frame) (i : Instr), s.plan.status ≠ .idle →
    (i = .planBlankCheck .cabin ∧ Asks s .cabin 29 readNothing f () ∨
      i = .planVerify .cabin ∧ ∃ a, Asks s .cabin 32 readFirstAndRows f a) →
    exec i s = .next (answeredOnly .cabin f .busy [.u8 s.plan.status.code, .u64 (s.plan.opEnd.getD 0)] s))

/-! ## Conditions and flags -/

/-- R157, R179: CONDITION ACK clears the latch of each entry named that is not active, in every mode; naming
CUTTER_TRIP while the cutterhead is TRIPPED it brings the cutterhead to STOPPED and clears the latch with the trip. A
subject that does not fit the condition is refused RANGE. That the response is a counted list is the model's reading
(log 15). -/
def Obligations.ConditionsAcknowledged : Prop :=
  ∀ (s : State) (f : Frame) (name : CondName) (subject : Option Nat), Asks s .cabin 34 readAck f (name, subject) →
    (subjectFits name subject = false →
      exec (.conditionAck .cabin) s = .next (answeredOnly .cabin f .range [] s)) ∧
    (subjectFits name subject = true → name ≠ .cutterTrip ∨ s.cutter.run ≠ .tripped →
      ∃ t fields, exec (.conditionAck .cabin) s = .next t ∧ Served .cabin f .done fields [] [] s t ∧
        t.conds = (s.conds.map fun e =>
          if e.name = name ∧ (subject = none ∨ e.subject = subject) ∧ e.latched = true ∧ e.active = false then
            { e with latched := false, changedAt := s.now }
          else e).map (evalEntry t) ∧
        (DerivedFollow s → fields =
          listFields (fun e => [yesNo e.active, yesNo e.latched])
            (t.conds.filter fun e => decide (e.name = name ∧ (subject = none ∨ e.subject = subject))))) ∧
    (name = .cutterTrip → subject = none → s.cutter.run = .tripped →
      ∃ t, exec (.conditionAck .cabin) s = .next t ∧ Stands s t ∧ OnlyChanges [.cutter] s t ∧
        t.cutter =
          { s.cutter with
            run := .stopped, phase := none, reference := 0, ramp := none, rampSteps := 0, jam := none
            rock := none } ∧
        ∀ e ∈ t.conds, e.name = .cutterTrip → e.active = false ∧ e.latched = false)

/-- R59: FLAGS CLEAR, in every mode, clears the stack-full flag, whose class becomes undetermined, and the
stack-underflow flag; the latches remain, the stack and everything else stay, and the response carries the flags as
they stood. -/
def Obligations.FlagsCleared : Prop :=
  ∀ (s : State) (f : Frame), Asks s .cabin 35 readNothing f () →
    ∃ t, exec (.flagsClear .cabin) s = .next t ∧
      Served .cabin f .done [yesNo s.stack.full, yesNo s.stack.underflow] [] [.stack] s t ∧ CondsFollow s t ∧
      t.stack = { s.stack with full := false, fullClass := none, underflow := false } ∧
      (∀ e ∈ t.conds, e.name = .stackFull ∨ e.name = .stackUnderflow → e.active = false) ∧
      ∀ k, (∃ e ∈ s.conds, (e.name, e.subject) = k ∧ e.latched = true) →
        ∃ e ∈ t.conds, (e.name, e.subject) = k ∧ e.latched = true

end Statements
end

