-- ==== Sys2Proof/Laws/State.lean ====
section
/-! SUPPORT. The laws of the record updates: for each update, the fields it keeps and the one it gives,
true by definition. -/

namespace Sys2Proof.Machine

/-- A notice changes what is sent alone (R200). -/
@[simp] theorem tell_frame (p : Port) (n : Notice) (s : State) :
    (tell p n s).powered = s.powered ∧ (tell p n s).now = s.now ∧ (tell p n s).links = s.links ∧
    (tell p n s).held = s.held ∧ (tell p n s).store = s.store ∧
    (tell p n s).account = s.account ∧ (tell p n s).groups = s.groups ∧ (tell p n s).stack = s.stack ∧
    (tell p n s).ring = s.ring ∧ (tell p n s).plan = s.plan ∧ (tell p n s).grout = s.grout ∧
    (tell p n s).chamber = s.chamber ∧ (tell p n s).cutter = s.cutter ∧ (tell p n s).modes = s.modes ∧
    (tell p n s).permits = s.permits ∧ (tell p n s).conds = s.conds ∧ (tell p n s).choices = s.choices ∧
    (tell p n s).pending = s.pending := by
  and_intros <;> rfl

/-- A new event has sent nothing yet. -/
@[simp] theorem quiet_frame (s : State) :
    (quiet s).powered = s.powered ∧ (quiet s).now = s.now ∧ (quiet s).links = s.links ∧
    (quiet s).held = s.held ∧ (quiet s).store = s.store ∧ (quiet s).account = s.account ∧
    (quiet s).groups = s.groups ∧ (quiet s).stack = s.stack ∧ (quiet s).ring = s.ring ∧
    (quiet s).plan = s.plan ∧ (quiet s).grout = s.grout ∧ (quiet s).chamber = s.chamber ∧
    (quiet s).cutter = s.cutter ∧ (quiet s).modes = s.modes ∧ (quiet s).permits = s.permits ∧
    (quiet s).conds = s.conds ∧ (quiet s).choices = s.choices ∧ (quiet s).pending = s.pending := by
  and_intros <;> rfl

/-- The torque ceiling lies in the cutterhead unit (R140). -/
@[simp] theorem updateTorque_frame (s : State) :
    (updateTorque s).powered = s.powered ∧ (updateTorque s).now = s.now ∧ (updateTorque s).links = s.links ∧
    (updateTorque s).held = s.held ∧ (updateTorque s).store = s.store ∧
    (updateTorque s).account = s.account ∧ (updateTorque s).groups = s.groups ∧
    (updateTorque s).stack = s.stack ∧ (updateTorque s).ring = s.ring ∧ (updateTorque s).plan = s.plan ∧
    (updateTorque s).grout = s.grout ∧ (updateTorque s).chamber = s.chamber ∧
    (updateTorque s).modes = s.modes ∧ (updateTorque s).permits = s.permits ∧
    (updateTorque s).conds = s.conds ∧ (updateTorque s).sent = s.sent ∧
    (updateTorque s).choices = s.choices ∧ (updateTorque s).pending = s.pending := by
  and_intros <;> rfl

/-- A group's record lies in the group map (R42). -/
@[simp] theorem setGroup_frame (g : Fin 16) (r : GroupRec) (s : State) :
    (setGroup g r s).powered = s.powered ∧ (setGroup g r s).now = s.now ∧ (setGroup g r s).links = s.links ∧
    (setGroup g r s).held = s.held ∧ (setGroup g r s).store = s.store ∧
    (setGroup g r s).account = s.account ∧ (setGroup g r s).stack = s.stack ∧
    (setGroup g r s).ring = s.ring ∧ (setGroup g r s).plan = s.plan ∧ (setGroup g r s).grout = s.grout ∧
    (setGroup g r s).chamber = s.chamber ∧ (setGroup g r s).cutter = s.cutter ∧
    (setGroup g r s).modes = s.modes ∧ (setGroup g r s).permits = s.permits ∧
    (setGroup g r s).conds = s.conds ∧ (setGroup g r s).sent = s.sent ∧
    (setGroup g r s).choices = s.choices ∧ (setGroup g r s).pending = s.pending := by
  and_intros <;> rfl

/-- A motor's record lies in the cutterhead unit (R139). -/
@[simp] theorem setMotor_frame (i : Fin 8) (m : Motor) (s : State) :
    (setMotor i m s).powered = s.powered ∧ (setMotor i m s).now = s.now ∧ (setMotor i m s).links = s.links ∧
    (setMotor i m s).held = s.held ∧ (setMotor i m s).store = s.store ∧
    (setMotor i m s).account = s.account ∧ (setMotor i m s).groups = s.groups ∧
    (setMotor i m s).stack = s.stack ∧ (setMotor i m s).ring = s.ring ∧ (setMotor i m s).plan = s.plan ∧
    (setMotor i m s).grout = s.grout ∧ (setMotor i m s).chamber = s.chamber ∧
    (setMotor i m s).modes = s.modes ∧ (setMotor i m s).permits = s.permits ∧
    (setMotor i m s).conds = s.conds ∧ (setMotor i m s).sent = s.sent ∧
    (setMotor i m s).choices = s.choices ∧ (setMotor i m s).pending = s.pending := by
  and_intros <;> rfl

/-- A link's record lies in the link unit (R196). -/
@[simp] theorem setLink_frame (p : Port) (l : LinkRec) (s : State) :
    (setLink p l s).powered = s.powered ∧ (setLink p l s).now = s.now ∧
    (setLink p l s).held = s.held ∧ (setLink p l s).store = s.store ∧
    (setLink p l s).account = s.account ∧ (setLink p l s).groups = s.groups ∧
    (setLink p l s).stack = s.stack ∧ (setLink p l s).ring = s.ring ∧ (setLink p l s).plan = s.plan ∧
    (setLink p l s).grout = s.grout ∧ (setLink p l s).chamber = s.chamber ∧
    (setLink p l s).cutter = s.cutter ∧ (setLink p l s).modes = s.modes ∧
    (setLink p l s).permits = s.permits ∧ (setLink p l s).conds = s.conds ∧ (setLink p l s).sent = s.sent ∧
    (setLink p l s).choices = s.choices ∧ (setLink p l s).pending = s.pending := by
  and_intros <;> rfl

/-- A request is taken from its link's list (R198). -/
@[simp] theorem dropHead_frame (p : Port) (s : State) :
    (dropHead p s).powered = s.powered ∧ (dropHead p s).now = s.now ∧
    (dropHead p s).held = s.held ∧ (dropHead p s).store = s.store ∧
    (dropHead p s).account = s.account ∧ (dropHead p s).groups = s.groups ∧ (dropHead p s).stack = s.stack ∧
    (dropHead p s).ring = s.ring ∧ (dropHead p s).plan = s.plan ∧ (dropHead p s).grout = s.grout ∧
    (dropHead p s).chamber = s.chamber ∧ (dropHead p s).cutter = s.cutter ∧ (dropHead p s).modes = s.modes ∧
    (dropHead p s).permits = s.permits ∧ (dropHead p s).conds = s.conds ∧ (dropHead p s).sent = s.sent ∧
    (dropHead p s).choices = s.choices ∧ (dropHead p s).pending = s.pending := by
  and_intros <;> rfl

/-- OPERATOR_HALT's level lies in the mode unit (R169). -/
@[simp] theorem setOperatorHalt_frame (b : Bool) (s : State) :
    (setOperatorHalt b s).powered = s.powered ∧ (setOperatorHalt b s).now = s.now ∧
    (setOperatorHalt b s).links = s.links ∧ (setOperatorHalt b s).held = s.held ∧
    (setOperatorHalt b s).store = s.store ∧ (setOperatorHalt b s).account = s.account ∧
    (setOperatorHalt b s).groups = s.groups ∧ (setOperatorHalt b s).stack = s.stack ∧
    (setOperatorHalt b s).ring = s.ring ∧ (setOperatorHalt b s).plan = s.plan ∧
    (setOperatorHalt b s).grout = s.grout ∧ (setOperatorHalt b s).chamber = s.chamber ∧
    (setOperatorHalt b s).cutter = s.cutter ∧ (setOperatorHalt b s).permits = s.permits ∧
    (setOperatorHalt b s).conds = s.conds ∧ (setOperatorHalt b s).sent = s.sent ∧
    (setOperatorHalt b s).choices = s.choices ∧ (setOperatorHalt b s).pending = s.pending := by
  and_intros <;> rfl

/-- The THRUST mean stroke lies in the advance account (R36). -/
@[simp] theorem updateMean_frame (s : State) :
    (updateMean s).powered = s.powered ∧ (updateMean s).now = s.now ∧ (updateMean s).links = s.links ∧
    (updateMean s).held = s.held ∧ (updateMean s).store = s.store ∧
    (updateMean s).groups = s.groups ∧ (updateMean s).stack = s.stack ∧ (updateMean s).ring = s.ring ∧
    (updateMean s).plan = s.plan ∧ (updateMean s).grout = s.grout ∧ (updateMean s).chamber = s.chamber ∧
    (updateMean s).cutter = s.cutter ∧ (updateMean s).modes = s.modes ∧ (updateMean s).permits = s.permits ∧
    (updateMean s).conds = s.conds ∧ (updateMean s).sent = s.sent ∧ (updateMean s).choices = s.choices ∧
    (updateMean s).pending = s.pending := by
  and_intros <;> rfl

/-- Gate allowed lies in the chamber unit (R128). -/
@[simp] theorem updateGate_frame (s : State) :
    (updateGate s).powered = s.powered ∧ (updateGate s).now = s.now ∧ (updateGate s).links = s.links ∧
    (updateGate s).held = s.held ∧ (updateGate s).store = s.store ∧
    (updateGate s).account = s.account ∧ (updateGate s).groups = s.groups ∧ (updateGate s).stack = s.stack ∧
    (updateGate s).ring = s.ring ∧ (updateGate s).plan = s.plan ∧ (updateGate s).grout = s.grout ∧
    (updateGate s).cutter = s.cutter ∧ (updateGate s).modes = s.modes ∧ (updateGate s).permits = s.permits ∧
    (updateGate s).conds = s.conds ∧ (updateGate s).sent = s.sent ∧ (updateGate s).choices = s.choices ∧
    (updateGate s).pending = s.pending := by
  and_intros <;> rfl

/-- The setpoint lies in the chamber unit (R125). -/
@[simp] theorem limitSetpoint_frame (s : State) :
    (limitSetpoint s).powered = s.powered ∧ (limitSetpoint s).now = s.now ∧
    (limitSetpoint s).links = s.links ∧ (limitSetpoint s).held = s.held ∧
    (limitSetpoint s).store = s.store ∧ (limitSetpoint s).account = s.account ∧
    (limitSetpoint s).groups = s.groups ∧ (limitSetpoint s).stack = s.stack ∧
    (limitSetpoint s).ring = s.ring ∧ (limitSetpoint s).plan = s.plan ∧ (limitSetpoint s).grout = s.grout ∧
    (limitSetpoint s).cutter = s.cutter ∧ (limitSetpoint s).modes = s.modes ∧
    (limitSetpoint s).permits = s.permits ∧ (limitSetpoint s).conds = s.conds ∧
    (limitSetpoint s).sent = s.sent ∧ (limitSetpoint s).choices = s.choices ∧
    (limitSetpoint s).pending = s.pending := by
  and_intros <;> rfl

/-- The setpoint lies in the chamber unit (R124). -/
@[simp] theorem computeSetpoint_frame (s : State) :
    (computeSetpoint s).powered = s.powered ∧ (computeSetpoint s).now = s.now ∧
    (computeSetpoint s).links = s.links ∧ (computeSetpoint s).held = s.held ∧
    (computeSetpoint s).store = s.store ∧ (computeSetpoint s).account = s.account ∧
    (computeSetpoint s).groups = s.groups ∧ (computeSetpoint s).stack = s.stack ∧
    (computeSetpoint s).ring = s.ring ∧ (computeSetpoint s).plan = s.plan ∧
    (computeSetpoint s).grout = s.grout ∧ (computeSetpoint s).cutter = s.cutter ∧
    (computeSetpoint s).modes = s.modes ∧ (computeSetpoint s).permits = s.permits ∧
    (computeSetpoint s).conds = s.conds ∧ (computeSetpoint s).sent = s.sent ∧
    (computeSetpoint s).choices = s.choices ∧ (computeSetpoint s).pending = s.pending := by
  and_intros <;> rfl

/-- The last command record lies in the plan store (R184). -/
@[simp] theorem record_frame (c : LastCommand) (s : State) :
    (record c s).powered = s.powered ∧ (record c s).now = s.now ∧ (record c s).links = s.links ∧
    (record c s).held = s.held ∧ (record c s).store = s.store ∧
    (record c s).account = s.account ∧ (record c s).groups = s.groups ∧ (record c s).stack = s.stack ∧
    (record c s).ring = s.ring ∧ (record c s).grout = s.grout ∧ (record c s).chamber = s.chamber ∧
    (record c s).cutter = s.cutter ∧ (record c s).modes = s.modes ∧ (record c s).permits = s.permits ∧
    (record c s).conds = s.conds ∧ (record c s).sent = s.sent ∧ (record c s).choices = s.choices ∧
    (record c s).pending = s.pending := by
  and_intros <;> rfl

/-- The evaluation changes the condition table alone (R178). -/
@[simp] theorem evalConditions_frame (s : State) :
    (evalConditions s).powered = s.powered ∧ (evalConditions s).now = s.now ∧
    (evalConditions s).links = s.links ∧ (evalConditions s).held = s.held ∧
    (evalConditions s).store = s.store ∧ (evalConditions s).account = s.account ∧
    (evalConditions s).groups = s.groups ∧ (evalConditions s).stack = s.stack ∧
    (evalConditions s).ring = s.ring ∧ (evalConditions s).plan = s.plan ∧
    (evalConditions s).grout = s.grout ∧ (evalConditions s).chamber = s.chamber ∧
    (evalConditions s).cutter = s.cutter ∧ (evalConditions s).modes = s.modes ∧
    (evalConditions s).permits = s.permits ∧ (evalConditions s).sent = s.sent ∧
    (evalConditions s).choices = s.choices ∧ (evalConditions s).pending = s.pending := by
  and_intros <;> rfl

/-- What waits on a link is the model's own record (assumption 28). -/
@[simp] theorem setHeld_frame (p : Port) (h : Option Held) (s : State) :
    (setHeld p h s).powered = s.powered ∧ (setHeld p h s).now = s.now ∧ (setHeld p h s).links = s.links ∧
    (setHeld p h s).store = s.store ∧ (setHeld p h s).account = s.account ∧ (setHeld p h s).groups = s.groups ∧
    (setHeld p h s).stack = s.stack ∧ (setHeld p h s).ring = s.ring ∧ (setHeld p h s).plan = s.plan ∧
    (setHeld p h s).grout = s.grout ∧ (setHeld p h s).chamber = s.chamber ∧ (setHeld p h s).cutter = s.cutter ∧
    (setHeld p h s).modes = s.modes ∧ (setHeld p h s).permits = s.permits ∧ (setHeld p h s).conds = s.conds ∧
    (setHeld p h s).sent = s.sent ∧ (setHeld p h s).choices = s.choices ∧
    (setHeld p h s).pending = s.pending := by
  and_intros <;> rfl

/-- The debt judged: the grout unit and the condition table (R111). -/
@[simp] theorem judgeDebt_frame (s : State) :
    (judgeDebt s).powered = s.powered ∧ (judgeDebt s).now = s.now ∧ (judgeDebt s).links = s.links ∧
    (judgeDebt s).held = s.held ∧ (judgeDebt s).store = s.store ∧ (judgeDebt s).account = s.account ∧
    (judgeDebt s).groups = s.groups ∧ (judgeDebt s).stack = s.stack ∧ (judgeDebt s).ring = s.ring ∧
    (judgeDebt s).plan = s.plan ∧ (judgeDebt s).chamber = s.chamber ∧ (judgeDebt s).cutter = s.cutter ∧
    (judgeDebt s).modes = s.modes ∧ (judgeDebt s).permits = s.permits ∧ (judgeDebt s).sent = s.sent ∧
    (judgeDebt s).choices = s.choices ∧ (judgeDebt s).pending = s.pending := by
  and_intros <;> rfl

/-- The computation changes the permits, and sends what it changes (R176). -/
@[simp] theorem computePermits_frame (s : State) :
    (computePermits s).powered = s.powered ∧ (computePermits s).now = s.now ∧
    (computePermits s).links = s.links ∧ (computePermits s).held = s.held ∧
    (computePermits s).store = s.store ∧ (computePermits s).account = s.account ∧
    (computePermits s).groups = s.groups ∧ (computePermits s).stack = s.stack ∧
    (computePermits s).ring = s.ring ∧ (computePermits s).plan = s.plan ∧
    (computePermits s).grout = s.grout ∧ (computePermits s).chamber = s.chamber ∧
    (computePermits s).cutter = s.cutter ∧ (computePermits s).modes = s.modes ∧
    (computePermits s).conds = s.conds ∧ (computePermits s).choices = s.choices ∧ (computePermits s).pending = s.pending := by
  and_intros <;> rfl

/-! ## What each update gives -/

@[simp] theorem tell_sent (p : Port) (n : Notice) (s : State) : (tell p n s).sent = s.sent ++ [noticeOn p n] := rfl

@[simp] theorem quiet_sent (s : State) : (quiet s).sent = [] := rfl

@[simp] theorem updateMean_account (s : State) :
    (updateMean s).account = { s.account with thrustMean := meanOfThrust s.groups } := rfl

@[simp] theorem updateTorque_cutter (s : State) :
    (updateTorque s).cutter = { s.cutter with torqueCeiling := torqueCeilingOf s } := rfl

@[simp] theorem setGroup_groups (g : Fin 16) (r : GroupRec) (s : State) :
    (setGroup g r s).groups = s.groups.set g.val r g.isLt := rfl

@[simp] theorem setOperatorHalt_modes (b : Bool) (s : State) :
    (setOperatorHalt b s).modes = { s.modes with operatorHalt := b } := rfl

@[simp] theorem record_plan (c : LastCommand) (s : State) :
    (record c s).plan = { s.plan with last := some c } := rfl

@[simp] theorem computePermits_permits (s : State) : (computePermits s).permits = permitsOf s := rfl

@[simp] theorem computePermits_sent (s : State) :
    (computePermits s).sent = s.sent ++ permitNotices s.permits (permitsOf s) := rfl

@[simp] theorem evalConditions_conds (s : State) : (evalConditions s).conds = s.conds.map (evalEntry s) := rfl

@[simp] theorem updateGate_chamber (s : State) :
    (updateGate s).chamber =
      { s.chamber with gateAllowed := commissioned s && s.chamber.status ≠ .lost } := rfl

@[simp] theorem setHeld_held (p : Port) (h : Option Held) (s : State) :
    (setHeld p h s).held = s.held.set (portIndex p).val h (portIndex p).isLt := rfl

@[simp] theorem judgeDebt_grout (s : State) : (judgeDebt s).grout = { s.grout with judged := true } := rfl

/-! ## Members of a changed collection -/

@[simp] theorem getElem_updateEach {α β : Type} {n : Nat} (v : Vector α n) (f : Fin n → α → β) (i : Nat)
    (h : i < n) : (updateEach v f)[i] = f ⟨i, h⟩ v[i] := by
  simp [updateEach]

theorem updateEach_self {α : Type} {n : Nat} (v : Vector α n) (f : Fin n → α → α)
    (h : ∀ (i : Nat) (hi : i < n), f ⟨i, hi⟩ v[i] = v[i]) : updateEach v f = v := by
  ext i hi
  simp [h]

end Sys2Proof.Machine
end

