-- ==== Sys2Proof/Laws/Frames.lean ====
section
/-! SUPPORT. The frames of the shared operations: for each one, every field of the state it keeps. -/

namespace Sys2Proof.Machine

/-! ## Cutterhead and chamber -/

/-- Leaving RUNNING reaches the chamber unit and the cutterhead unit (R127, R147). -/
@[simp] theorem leaveRunning_frame (s : State) :
    (leaveRunning s).powered = s.powered ∧ (leaveRunning s).now = s.now ∧ (leaveRunning s).links = s.links ∧
    (leaveRunning s).held = s.held ∧ (leaveRunning s).store = s.store ∧
    (leaveRunning s).account = s.account ∧ (leaveRunning s).groups = s.groups ∧
    (leaveRunning s).stack = s.stack ∧ (leaveRunning s).ring = s.ring ∧ (leaveRunning s).plan = s.plan ∧
    (leaveRunning s).grout = s.grout ∧ (leaveRunning s).modes = s.modes ∧
    (leaveRunning s).permits = s.permits ∧ (leaveRunning s).conds = s.conds ∧
    (leaveRunning s).sent = s.sent ∧ (leaveRunning s).choices = s.choices ∧
    (leaveRunning s).pending = s.pending := by
  and_intros <;> rfl

/-- Entering RUNNING reaches the chamber unit and the cutterhead unit (R127, R143). -/
@[simp] theorem enterRunning_frame (s : State) :
    (enterRunning s).powered = s.powered ∧ (enterRunning s).now = s.now ∧ (enterRunning s).links = s.links ∧
    (enterRunning s).held = s.held ∧ (enterRunning s).store = s.store ∧
    (enterRunning s).account = s.account ∧ (enterRunning s).groups = s.groups ∧
    (enterRunning s).stack = s.stack ∧ (enterRunning s).ring = s.ring ∧ (enterRunning s).plan = s.plan ∧
    (enterRunning s).grout = s.grout ∧ (enterRunning s).modes = s.modes ∧
    (enterRunning s).permits = s.permits ∧ (enterRunning s).conds = s.conds ∧
    (enterRunning s).sent = s.sent ∧ (enterRunning s).choices = s.choices ∧
    (enterRunning s).pending = s.pending := by
  and_intros <;> rfl

@[simp] theorem leaveIfRunning_frame (s : State) :
    (leaveIfRunning s).powered = s.powered ∧ (leaveIfRunning s).now = s.now ∧
    (leaveIfRunning s).links = s.links ∧ (leaveIfRunning s).held = s.held ∧
    (leaveIfRunning s).store = s.store ∧ (leaveIfRunning s).account = s.account ∧
    (leaveIfRunning s).groups = s.groups ∧ (leaveIfRunning s).stack = s.stack ∧
    (leaveIfRunning s).ring = s.ring ∧ (leaveIfRunning s).plan = s.plan ∧
    (leaveIfRunning s).grout = s.grout ∧ (leaveIfRunning s).modes = s.modes ∧
    (leaveIfRunning s).permits = s.permits ∧ (leaveIfRunning s).conds = s.conds ∧
    (leaveIfRunning s).sent = s.sent ∧ (leaveIfRunning s).choices = s.choices ∧
    (leaveIfRunning s).pending = s.pending := by
  unfold leaveIfRunning
  split <;> (and_intros <;> rfl)

/-- STOPPING (R145, R146). -/
@[simp] theorem enterStopping_frame (s : State) :
    (enterStopping s).powered = s.powered ∧ (enterStopping s).now = s.now ∧
    (enterStopping s).links = s.links ∧ (enterStopping s).held = s.held ∧
    (enterStopping s).store = s.store ∧ (enterStopping s).account = s.account ∧
    (enterStopping s).groups = s.groups ∧ (enterStopping s).stack = s.stack ∧
    (enterStopping s).ring = s.ring ∧ (enterStopping s).plan = s.plan ∧ (enterStopping s).grout = s.grout ∧
    (enterStopping s).modes = s.modes ∧ (enterStopping s).permits = s.permits ∧
    (enterStopping s).conds = s.conds ∧ (enterStopping s).sent = s.sent ∧
    (enterStopping s).choices = s.choices ∧ (enterStopping s).pending = s.pending := by
  simp [enterStopping]

/-- STOPPED, JAMMED and TRIPPED (R147, R154, R157). -/
@[simp] theorem enterRest_frame (r : RunState) (s : State) :
    (enterRest r s).powered = s.powered ∧ (enterRest r s).now = s.now ∧ (enterRest r s).links = s.links ∧
    (enterRest r s).held = s.held ∧ (enterRest r s).store = s.store ∧
    (enterRest r s).account = s.account ∧ (enterRest r s).groups = s.groups ∧
    (enterRest r s).stack = s.stack ∧ (enterRest r s).ring = s.ring ∧ (enterRest r s).plan = s.plan ∧
    (enterRest r s).grout = s.grout ∧ (enterRest r s).modes = s.modes ∧
    (enterRest r s).permits = s.permits ∧ (enterRest r s).conds = s.conds ∧ (enterRest r s).sent = s.sent ∧
    (enterRest r s).choices = s.choices ∧ (enterRest r s).pending = s.pending := by
  simp [enterRest]

/-- A forced stop reaches the chamber unit and the cutterhead unit (R146). -/
@[simp] theorem forcedStop_frame (s : State) :
    (forcedStop s).powered = s.powered ∧ (forcedStop s).now = s.now ∧ (forcedStop s).links = s.links ∧
    (forcedStop s).held = s.held ∧ (forcedStop s).store = s.store ∧
    (forcedStop s).account = s.account ∧ (forcedStop s).groups = s.groups ∧ (forcedStop s).stack = s.stack ∧
    (forcedStop s).ring = s.ring ∧ (forcedStop s).plan = s.plan ∧ (forcedStop s).grout = s.grout ∧
    (forcedStop s).modes = s.modes ∧ (forcedStop s).permits = s.permits ∧ (forcedStop s).conds = s.conds ∧
    (forcedStop s).sent = s.sent ∧ (forcedStop s).choices = s.choices ∧
    (forcedStop s).pending = s.pending := by
  unfold forcedStop
  split <;> simp

@[simp] theorem stopIfMotorsLow_frame (s : State) :
    (stopIfMotorsLow s).powered = s.powered ∧ (stopIfMotorsLow s).now = s.now ∧
    (stopIfMotorsLow s).links = s.links ∧ (stopIfMotorsLow s).held = s.held ∧
    (stopIfMotorsLow s).store = s.store ∧ (stopIfMotorsLow s).account = s.account ∧
    (stopIfMotorsLow s).groups = s.groups ∧ (stopIfMotorsLow s).stack = s.stack ∧
    (stopIfMotorsLow s).ring = s.ring ∧ (stopIfMotorsLow s).plan = s.plan ∧
    (stopIfMotorsLow s).grout = s.grout ∧ (stopIfMotorsLow s).modes = s.modes ∧
    (stopIfMotorsLow s).permits = s.permits ∧ (stopIfMotorsLow s).conds = s.conds ∧
    (stopIfMotorsLow s).sent = s.sent ∧ (stopIfMotorsLow s).choices = s.choices ∧
    (stopIfMotorsLow s).pending = s.pending := by
  unfold stopIfMotorsLow
  split <;> simp

/-- The loss of the estimate (R122, R125). -/
@[simp] theorem loseEstimate_frame (s : State) :
    (loseEstimate s).powered = s.powered ∧ (loseEstimate s).now = s.now ∧ (loseEstimate s).links = s.links ∧
    (loseEstimate s).held = s.held ∧ (loseEstimate s).store = s.store ∧
    (loseEstimate s).account = s.account ∧ (loseEstimate s).groups = s.groups ∧
    (loseEstimate s).stack = s.stack ∧ (loseEstimate s).ring = s.ring ∧ (loseEstimate s).plan = s.plan ∧
    (loseEstimate s).grout = s.grout ∧ (loseEstimate s).modes = s.modes ∧
    (loseEstimate s).permits = s.permits ∧ (loseEstimate s).conds = s.conds ∧
    (loseEstimate s).sent = s.sent ∧ (loseEstimate s).choices = s.choices ∧
    (loseEstimate s).pending = s.pending := by
  simp [loseEstimate]

@[simp] theorem controlScrew_frame (s : State) :
    (controlScrew s).powered = s.powered ∧ (controlScrew s).now = s.now ∧ (controlScrew s).links = s.links ∧
    (controlScrew s).held = s.held ∧ (controlScrew s).store = s.store ∧
    (controlScrew s).account = s.account ∧ (controlScrew s).groups = s.groups ∧
    (controlScrew s).stack = s.stack ∧ (controlScrew s).ring = s.ring ∧ (controlScrew s).plan = s.plan ∧
    (controlScrew s).grout = s.grout ∧ (controlScrew s).cutter = s.cutter ∧
    (controlScrew s).modes = s.modes ∧ (controlScrew s).permits = s.permits ∧
    (controlScrew s).conds = s.conds ∧ (controlScrew s).sent = s.sent ∧
    (controlScrew s).choices = s.choices ∧ (controlScrew s).pending = s.pending := by
  simp [controlScrew]

/-! ## Evaluation and the mode -/

/-- The standstill limit (R126). -/
@[simp] theorem applyStandstill_frame (s : State) :
    (applyStandstill s).powered = s.powered ∧ (applyStandstill s).now = s.now ∧
    (applyStandstill s).links = s.links ∧ (applyStandstill s).held = s.held ∧
    (applyStandstill s).store = s.store ∧ (applyStandstill s).account = s.account ∧
    (applyStandstill s).groups = s.groups ∧ (applyStandstill s).stack = s.stack ∧
    (applyStandstill s).ring = s.ring ∧ (applyStandstill s).plan = s.plan ∧
    (applyStandstill s).grout = s.grout ∧ (applyStandstill s).cutter = s.cutter ∧
    (applyStandstill s).modes = s.modes ∧ (applyStandstill s).permits = s.permits ∧
    (applyStandstill s).conds = s.conds ∧ (applyStandstill s).sent = s.sent ∧
    (applyStandstill s).choices = s.choices ∧ (applyStandstill s).pending = s.pending := by
  unfold applyStandstill
  split <;> (and_intros <;> rfl)

/-- The hand-off to the mode and permit unit (R126, R176, R178). -/
@[simp] theorem refresh_frame (s : State) :
    (refresh s).powered = s.powered ∧ (refresh s).now = s.now ∧ (refresh s).links = s.links ∧
    (refresh s).held = s.held ∧ (refresh s).store = s.store ∧
    (refresh s).account = s.account ∧ (refresh s).groups = s.groups ∧ (refresh s).stack = s.stack ∧
    (refresh s).ring = s.ring ∧ (refresh s).plan = s.plan ∧ (refresh s).grout = s.grout ∧
    (refresh s).cutter = s.cutter ∧ (refresh s).modes = s.modes ∧ (refresh s).choices = s.choices ∧ (refresh s).pending = s.pending := by
  simp [refresh]

/-- A change of the mode (R146, R168, R169). -/
@[simp] theorem changeMode_frame (m : Mode) (cause : ModeCause) (s : State) :
    (changeMode m cause s).powered = s.powered ∧ (changeMode m cause s).now = s.now ∧
    (changeMode m cause s).links = s.links ∧ (changeMode m cause s).held = s.held ∧
    (changeMode m cause s).store = s.store ∧ (changeMode m cause s).account = s.account ∧
    (changeMode m cause s).groups = s.groups ∧ (changeMode m cause s).stack = s.stack ∧
    (changeMode m cause s).ring = s.ring ∧ (changeMode m cause s).plan = s.plan ∧
    (changeMode m cause s).grout = s.grout ∧ (changeMode m cause s).sent = s.sent ∧
    (changeMode m cause s).choices = s.choices ∧ (changeMode m cause s).pending = s.pending := by
  unfold changeMode
  split
  · simp
  · simp only [evalConditions_frame]
    split <;> simp

/-- R12. -/
@[simp] theorem disallowContinuous_frame (s : State) :
    (disallowContinuous s).powered = s.powered ∧ (disallowContinuous s).now = s.now ∧
    (disallowContinuous s).links = s.links ∧ (disallowContinuous s).held = s.held ∧
    (disallowContinuous s).store = s.store ∧ (disallowContinuous s).account = s.account ∧
    (disallowContinuous s).groups = s.groups ∧ (disallowContinuous s).stack = s.stack ∧
    (disallowContinuous s).ring = s.ring ∧ (disallowContinuous s).plan = s.plan ∧
    (disallowContinuous s).grout = s.grout ∧ (disallowContinuous s).sent = s.sent ∧
    (disallowContinuous s).choices = s.choices ∧ (disallowContinuous s).pending = s.pending := by
  unfold disallowContinuous
  split <;> simp

/-! ## Closure and the profile switch -/

@[simp] theorem accountClosure_frame (s : State) :
    (accountClosure s).powered = s.powered ∧ (accountClosure s).now = s.now ∧
    (accountClosure s).links = s.links ∧ (accountClosure s).held = s.held ∧
    (accountClosure s).store = s.store ∧ (accountClosure s).groups = s.groups ∧
    (accountClosure s).stack = s.stack ∧ (accountClosure s).ring = s.ring ∧
    (accountClosure s).plan = s.plan ∧ (accountClosure s).grout = s.grout ∧
    (accountClosure s).chamber = s.chamber ∧ (accountClosure s).cutter = s.cutter ∧
    (accountClosure s).modes = s.modes ∧ (accountClosure s).permits = s.permits ∧
    (accountClosure s).conds = s.conds ∧ (accountClosure s).sent = s.sent ∧
    (accountClosure s).choices = s.choices ∧ (accountClosure s).pending = s.pending := by
  and_intros <;> rfl

/-- The orders of a closure (R98, R100). -/
@[simp] theorem groutClosure_frame (number required : Nat) (s : State) :
    (groutClosure number required s).powered = s.powered ∧ (groutClosure number required s).now = s.now ∧
    (groutClosure number required s).links = s.links ∧
    (groutClosure number required s).held = s.held ∧
    (groutClosure number required s).store = s.store ∧
    (groutClosure number required s).account = s.account ∧
    (groutClosure number required s).groups = s.groups ∧ (groutClosure number required s).stack = s.stack ∧
    (groutClosure number required s).ring = s.ring ∧ (groutClosure number required s).plan = s.plan ∧
    (groutClosure number required s).chamber = s.chamber ∧
    (groutClosure number required s).cutter = s.cutter ∧ (groutClosure number required s).modes = s.modes ∧
    (groutClosure number required s).permits = s.permits ∧
    (groutClosure number required s).conds = s.conds ∧
    (groutClosure number required s).choices = s.choices ∧
    (groutClosure number required s).pending = s.pending := by
  unfold groutClosure
  extract_lets
  split
  · simp
  · split <;> simp +zetaDelta

@[simp] theorem spoilBalance_frame (s : State) :
    (spoilBalance s).powered = s.powered ∧ (spoilBalance s).now = s.now ∧ (spoilBalance s).links = s.links ∧
    (spoilBalance s).held = s.held ∧ (spoilBalance s).store = s.store ∧
    (spoilBalance s).groups = s.groups ∧ (spoilBalance s).stack = s.stack ∧ (spoilBalance s).ring = s.ring ∧
    (spoilBalance s).plan = s.plan ∧ (spoilBalance s).grout = s.grout ∧
    (spoilBalance s).chamber = s.chamber ∧ (spoilBalance s).cutter = s.cutter ∧
    (spoilBalance s).modes = s.modes ∧ (spoilBalance s).permits = s.permits ∧
    (spoilBalance s).conds = s.conds ∧ (spoilBalance s).sent = s.sent ∧
    (spoilBalance s).choices = s.choices ∧ (spoilBalance s).pending = s.pending := by
  and_intros <;> rfl

/-- A closure reaches the advance account and the grout unit (R32). -/
@[simp] theorem closureEffects_frame (s : State) :
    (closureEffects s).powered = s.powered ∧ (closureEffects s).now = s.now ∧
    (closureEffects s).links = s.links ∧ (closureEffects s).held = s.held ∧
    (closureEffects s).store = s.store ∧ (closureEffects s).groups = s.groups ∧
    (closureEffects s).stack = s.stack ∧ (closureEffects s).ring = s.ring ∧ (closureEffects s).plan = s.plan ∧
    (closureEffects s).chamber = s.chamber ∧ (closureEffects s).cutter = s.cutter ∧
    (closureEffects s).modes = s.modes ∧ (closureEffects s).permits = s.permits ∧
    (closureEffects s).conds = s.conds ∧ (closureEffects s).choices = s.choices ∧
    (closureEffects s).pending = s.pending := by
  simp [closureEffects]

/-- What the closure of an increment reaches (R25, R32). -/
@[simp] theorem closeIncrement_frame (s : State) :
    (closeIncrement s).powered = s.powered ∧ (closeIncrement s).now = s.now ∧
    (closeIncrement s).links = s.links ∧ (closeIncrement s).held = s.held ∧
    (closeIncrement s).store = s.store ∧ (closeIncrement s).groups = s.groups ∧
    (closeIncrement s).stack = s.stack ∧ (closeIncrement s).ring = s.ring ∧
    (closeIncrement s).plan = s.plan ∧ (closeIncrement s).cutter = s.cutter ∧
    (closeIncrement s).modes = s.modes ∧ (closeIncrement s).choices = s.choices ∧
    (closeIncrement s).pending = s.pending := by
  simp [closeIncrement]

@[simp] theorem closeWhile_frame (fuel : Nat) (s : State) :
    (closeWhile fuel s).powered = s.powered ∧ (closeWhile fuel s).now = s.now ∧
    (closeWhile fuel s).links = s.links ∧ (closeWhile fuel s).held = s.held ∧
    (closeWhile fuel s).store = s.store ∧ (closeWhile fuel s).groups = s.groups ∧
    (closeWhile fuel s).stack = s.stack ∧ (closeWhile fuel s).ring = s.ring ∧
    (closeWhile fuel s).plan = s.plan ∧ (closeWhile fuel s).cutter = s.cutter ∧
    (closeWhile fuel s).modes = s.modes ∧ (closeWhile fuel s).choices = s.choices ∧
    (closeWhile fuel s).pending = s.pending := by
  induction fuel generalizing s with
  | zero => simp [closeWhile]
  | succ n ih =>
    unfold closeWhile
    split
    · simp [ih]
    · simp

@[simp] theorem screwAtSwitch_frame (s : State) :
    (screwAtSwitch s).powered = s.powered ∧ (screwAtSwitch s).now = s.now ∧
    (screwAtSwitch s).links = s.links ∧ (screwAtSwitch s).held = s.held ∧
    (screwAtSwitch s).store = s.store ∧ (screwAtSwitch s).account = s.account ∧
    (screwAtSwitch s).groups = s.groups ∧ (screwAtSwitch s).stack = s.stack ∧
    (screwAtSwitch s).ring = s.ring ∧ (screwAtSwitch s).plan = s.plan ∧ (screwAtSwitch s).grout = s.grout ∧
    (screwAtSwitch s).cutter = s.cutter ∧ (screwAtSwitch s).modes = s.modes ∧
    (screwAtSwitch s).permits = s.permits ∧ (screwAtSwitch s).conds = s.conds ∧
    (screwAtSwitch s).sent = s.sent ∧ (screwAtSwitch s).choices = s.choices ∧
    (screwAtSwitch s).pending = s.pending := by
  unfold screwAtSwitch
  extract_lets
  split <;> simp +zetaDelta

@[simp] theorem overtimeAtSwitch_frame (s : State) :
    (overtimeAtSwitch s).powered = s.powered ∧ (overtimeAtSwitch s).now = s.now ∧
    (overtimeAtSwitch s).links = s.links ∧ (overtimeAtSwitch s).held = s.held ∧
    (overtimeAtSwitch s).store = s.store ∧ (overtimeAtSwitch s).account = s.account ∧
    (overtimeAtSwitch s).groups = s.groups ∧ (overtimeAtSwitch s).ring = s.ring ∧
    (overtimeAtSwitch s).plan = s.plan ∧ (overtimeAtSwitch s).grout = s.grout ∧
    (overtimeAtSwitch s).chamber = s.chamber ∧ (overtimeAtSwitch s).cutter = s.cutter ∧
    (overtimeAtSwitch s).modes = s.modes ∧ (overtimeAtSwitch s).permits = s.permits ∧
    (overtimeAtSwitch s).conds = s.conds ∧ (overtimeAtSwitch s).sent = s.sent ∧
    (overtimeAtSwitch s).choices = s.choices ∧ (overtimeAtSwitch s).pending = s.pending := by
  and_intros <;> rfl

/-- The profile switch keeps the links, the groups, the ring record and the plan (R11). -/
@[simp] theorem makeSwitch_frame (n : Fin 4) (s : State) :
    (makeSwitch n s).powered = s.powered ∧ (makeSwitch n s).now = s.now ∧ (makeSwitch n s).links = s.links ∧
    (makeSwitch n s).held = s.held ∧ (makeSwitch n s).groups = s.groups ∧
    (makeSwitch n s).ring = s.ring ∧ (makeSwitch n s).plan = s.plan ∧ (makeSwitch n s).choices = s.choices ∧
    (makeSwitch n s).pending = s.pending := by
  simp [makeSwitch]

/-- The switch test (R10). -/
@[simp] theorem switchTest_frame (s : State) :
    (switchTest s).powered = s.powered ∧ (switchTest s).now = s.now ∧ (switchTest s).links = s.links ∧
    (switchTest s).held = s.held ∧ (switchTest s).groups = s.groups ∧
    (switchTest s).ring = s.ring ∧ (switchTest s).plan = s.plan ∧ (switchTest s).choices = s.choices ∧
    (switchTest s).pending = s.pending := by
  unfold switchTest
  split
  · simp
  · split <;> simp

/-- A selection (R8). -/
@[simp] theorem selectProfile_frame (n : Fin 4) (s : State) :
    ((selectProfile n s).1).powered = s.powered ∧ ((selectProfile n s).1).now = s.now ∧
    ((selectProfile n s).1).links = s.links ∧ ((selectProfile n s).1).held = s.held ∧
    ((selectProfile n s).1).groups = s.groups ∧ ((selectProfile n s).1).ring = s.ring ∧
    ((selectProfile n s).1).plan = s.plan ∧ ((selectProfile n s).1).choices = s.choices ∧
    ((selectProfile n s).1).pending = s.pending := by
  unfold selectProfile
  split
  · simp
  · simp only
    split <;> simp

@[simp] theorem closeAndTest_frame (fuel : Nat) (s : State) :
    (closeAndTest fuel s).powered = s.powered ∧ (closeAndTest fuel s).now = s.now ∧
    (closeAndTest fuel s).links = s.links ∧ (closeAndTest fuel s).held = s.held ∧
    (closeAndTest fuel s).groups = s.groups ∧ (closeAndTest fuel s).ring = s.ring ∧
    (closeAndTest fuel s).plan = s.plan ∧ (closeAndTest fuel s).choices = s.choices ∧
    (closeAndTest fuel s).pending = s.pending := by
  induction fuel generalizing s with
  | zero => simp [closeAndTest]
  | succ n ih =>
    unfold closeAndTest
    split
    · simp [ih]
    · simp

/-- An entry into a mode, with its switch test (R10, R168). -/
@[simp] theorem enterMode_frame (m : Mode) (cause : ModeCause) (s : State) :
    (enterMode m cause s).powered = s.powered ∧ (enterMode m cause s).now = s.now ∧
    (enterMode m cause s).links = s.links ∧ (enterMode m cause s).held = s.held ∧
    (enterMode m cause s).groups = s.groups ∧ (enterMode m cause s).ring = s.ring ∧
    (enterMode m cause s).plan = s.plan ∧ (enterMode m cause s).choices = s.choices ∧
    (enterMode m cause s).pending = s.pending := by
  unfold enterMode
  split
  · simp
  · simp only
    split <;> simp

@[simp] theorem deriveMode_frame (cause : ModeCause) (s : State) :
    (deriveMode cause s).powered = s.powered ∧ (deriveMode cause s).now = s.now ∧
    (deriveMode cause s).links = s.links ∧ (deriveMode cause s).held = s.held ∧
    (deriveMode cause s).groups = s.groups ∧ (deriveMode cause s).ring = s.ring ∧
    (deriveMode cause s).plan = s.plan ∧ (deriveMode cause s).choices = s.choices ∧
    (deriveMode cause s).pending = s.pending := by
  simp [deriveMode]

/-- The mode after a change of the claims (R167). -/
@[simp] theorem claimsChanged_frame (cause : ModeCause) (s : State) :
    (claimsChanged cause s).powered = s.powered ∧ (claimsChanged cause s).now = s.now ∧
    (claimsChanged cause s).links = s.links ∧ (claimsChanged cause s).held = s.held ∧
    (claimsChanged cause s).groups = s.groups ∧ (claimsChanged cause s).ring = s.ring ∧
    (claimsChanged cause s).plan = s.plan ∧ (claimsChanged cause s).choices = s.choices ∧
    (claimsChanged cause s).pending = s.pending := by
  unfold claimsChanged
  split <;> simp

/-- The halt (R169). -/
@[simp] theorem haltMachine_frame (s : State) :
    (haltMachine s).powered = s.powered ∧ (haltMachine s).now = s.now ∧ (haltMachine s).links = s.links ∧
    (haltMachine s).held = s.held ∧ (haltMachine s).groups = s.groups ∧
    (haltMachine s).ring = s.ring ∧ (haltMachine s).plan = s.plan ∧ (haltMachine s).choices = s.choices ∧
    (haltMachine s).pending = s.pending := by
  unfold haltMachine
  split <;> simp

/-- A PENDING claim re-examined (R167). -/
@[simp] theorem reexamine_frame (s : State) :
    (reexamine s).powered = s.powered ∧ (reexamine s).now = s.now ∧ (reexamine s).links = s.links ∧
    (reexamine s).held = s.held ∧ (reexamine s).groups = s.groups ∧
    (reexamine s).ring = s.ring ∧ (reexamine s).plan = s.plan ∧ (reexamine s).choices = s.choices ∧
    (reexamine s).pending = s.pending := by
  unfold reexamine
  split
  · split
    · simp
    · split <;> simp
  · simp

/-- A change of the held groups handed on (R10, R63, R167). -/
@[simp] theorem heldChanged_frame (before : Nat) (s : State) :
    (heldChanged before s).powered = s.powered ∧ (heldChanged before s).now = s.now ∧
    (heldChanged before s).links = s.links ∧ (heldChanged before s).held = s.held ∧
    (heldChanged before s).groups = s.groups ∧ (heldChanged before s).ring = s.ring ∧
    (heldChanged before s).plan = s.plan ∧ (heldChanged before s).choices = s.choices ∧
    (heldChanged before s).pending = s.pending := by
  unfold heldChanged
  extract_lets t
  have h : t = s ∨ t = reexamine s := by
    simp only [t]
    split <;> simp
  obtain h | h := h <;> rw [h] <;> split <;> simp

/-! ## The release stack and the ring -/

@[simp] theorem sendRetract_frame (groups : List (Fin 16)) (cause : Option (Fin 7)) (s : State) :
    (sendRetract groups cause s).powered = s.powered ∧ (sendRetract groups cause s).now = s.now ∧
    (sendRetract groups cause s).links = s.links ∧
    (sendRetract groups cause s).held = s.held ∧
    (sendRetract groups cause s).store = s.store ∧ (sendRetract groups cause s).account = s.account ∧
    (sendRetract groups cause s).groups = s.groups ∧ (sendRetract groups cause s).stack = s.stack ∧
    (sendRetract groups cause s).ring = s.ring ∧ (sendRetract groups cause s).plan = s.plan ∧
    (sendRetract groups cause s).grout = s.grout ∧ (sendRetract groups cause s).chamber = s.chamber ∧
    (sendRetract groups cause s).cutter = s.cutter ∧ (sendRetract groups cause s).modes = s.modes ∧
    (sendRetract groups cause s).permits = s.permits ∧ (sendRetract groups cause s).conds = s.conds ∧
    (sendRetract groups cause s).choices = s.choices ∧ (sendRetract groups cause s).pending = s.pending := by
  unfold sendRetract
  split <;> simp

@[simp] theorem sendExtend_frame (groups : List (Fin 16)) (cause : Option (Fin 7)) (s : State) :
    (sendExtend groups cause s).powered = s.powered ∧ (sendExtend groups cause s).now = s.now ∧
    (sendExtend groups cause s).links = s.links ∧
    (sendExtend groups cause s).held = s.held ∧
    (sendExtend groups cause s).store = s.store ∧ (sendExtend groups cause s).account = s.account ∧
    (sendExtend groups cause s).groups = s.groups ∧ (sendExtend groups cause s).stack = s.stack ∧
    (sendExtend groups cause s).ring = s.ring ∧ (sendExtend groups cause s).plan = s.plan ∧
    (sendExtend groups cause s).grout = s.grout ∧ (sendExtend groups cause s).chamber = s.chamber ∧
    (sendExtend groups cause s).cutter = s.cutter ∧ (sendExtend groups cause s).modes = s.modes ∧
    (sendExtend groups cause s).permits = s.permits ∧ (sendExtend groups cause s).conds = s.conds ∧
    (sendExtend groups cause s).choices = s.choices ∧ (sendExtend groups cause s).pending = s.pending := by
  unfold sendExtend
  split <;> simp

@[simp] theorem foldl_tell_frame {α : Type} (f : α → Notice) (p : Port) (l : List α) (s : State) :
    (l.foldl (fun s e => tell p (f e) s) s).powered = s.powered ∧
    (l.foldl (fun s e => tell p (f e) s) s).now = s.now ∧
    (l.foldl (fun s e => tell p (f e) s) s).links = s.links ∧
    (l.foldl (fun s e => tell p (f e) s) s).held = s.held ∧
    (l.foldl (fun s e => tell p (f e) s) s).store = s.store ∧
    (l.foldl (fun s e => tell p (f e) s) s).account = s.account ∧
    (l.foldl (fun s e => tell p (f e) s) s).groups = s.groups ∧
    (l.foldl (fun s e => tell p (f e) s) s).stack = s.stack ∧
    (l.foldl (fun s e => tell p (f e) s) s).ring = s.ring ∧
    (l.foldl (fun s e => tell p (f e) s) s).plan = s.plan ∧
    (l.foldl (fun s e => tell p (f e) s) s).grout = s.grout ∧
    (l.foldl (fun s e => tell p (f e) s) s).chamber = s.chamber ∧
    (l.foldl (fun s e => tell p (f e) s) s).cutter = s.cutter ∧
    (l.foldl (fun s e => tell p (f e) s) s).modes = s.modes ∧
    (l.foldl (fun s e => tell p (f e) s) s).permits = s.permits ∧
    (l.foldl (fun s e => tell p (f e) s) s).conds = s.conds ∧
    (l.foldl (fun s e => tell p (f e) s) s).choices = s.choices ∧
    (l.foldl (fun s e => tell p (f e) s) s).pending = s.pending := by
  induction l generalizing s with
  | nil => simp
  | cons a l ih => simp [ih]

/-- A grant (R46). -/
@[simp] theorem openEntry_frame (s : State) (e : StackEntry) :
    (openEntry s e).powered = s.powered ∧ (openEntry s e).now = s.now ∧ (openEntry s e).links = s.links ∧
    (openEntry s e).held = s.held ∧ (openEntry s e).store = s.store ∧ (openEntry s e).account = s.account ∧
    (openEntry s e).groups = s.groups ∧ (openEntry s e).ring = s.ring ∧ (openEntry s e).plan = s.plan ∧
    (openEntry s e).grout = s.grout ∧ (openEntry s e).chamber = s.chamber ∧ (openEntry s e).cutter = s.cutter ∧
    (openEntry s e).modes = s.modes ∧ (openEntry s e).permits = s.permits ∧ (openEntry s e).conds = s.conds ∧
    (openEntry s e).choices = s.choices ∧ (openEntry s e).pending = s.pending := by
  and_intros <;> rfl

@[simp] theorem foldl_openEntry_frame (l : List StackEntry) (s : State) :
    (l.foldl openEntry s).powered = s.powered ∧ (l.foldl openEntry s).now = s.now ∧
    (l.foldl openEntry s).links = s.links ∧ (l.foldl openEntry s).held = s.held ∧
    (l.foldl openEntry s).store = s.store ∧ (l.foldl openEntry s).account = s.account ∧
    (l.foldl openEntry s).groups = s.groups ∧ (l.foldl openEntry s).ring = s.ring ∧
    (l.foldl openEntry s).plan = s.plan ∧ (l.foldl openEntry s).grout = s.grout ∧
    (l.foldl openEntry s).chamber = s.chamber ∧ (l.foldl openEntry s).cutter = s.cutter ∧
    (l.foldl openEntry s).modes = s.modes ∧ (l.foldl openEntry s).permits = s.permits ∧
    (l.foldl openEntry s).conds = s.conds ∧ (l.foldl openEntry s).choices = s.choices ∧
    (l.foldl openEntry s).pending = s.pending := by
  induction l generalizing s with
  | nil => simp
  | cons a l ih => simp [ih]

@[simp] theorem foldl_grant_frame (l : List StackEntry) (s : State) :
    (l.foldl (fun s e => refresh (openEntry s e)) s).powered = s.powered ∧
    (l.foldl (fun s e => refresh (openEntry s e)) s).now = s.now ∧
    (l.foldl (fun s e => refresh (openEntry s e)) s).links = s.links ∧
    (l.foldl (fun s e => refresh (openEntry s e)) s).held = s.held ∧
    (l.foldl (fun s e => refresh (openEntry s e)) s).store = s.store ∧
    (l.foldl (fun s e => refresh (openEntry s e)) s).account = s.account ∧
    (l.foldl (fun s e => refresh (openEntry s e)) s).groups = s.groups ∧
    (l.foldl (fun s e => refresh (openEntry s e)) s).ring = s.ring ∧
    (l.foldl (fun s e => refresh (openEntry s e)) s).plan = s.plan ∧
    (l.foldl (fun s e => refresh (openEntry s e)) s).grout = s.grout ∧
    (l.foldl (fun s e => refresh (openEntry s e)) s).cutter = s.cutter ∧
    (l.foldl (fun s e => refresh (openEntry s e)) s).modes = s.modes ∧
    (l.foldl (fun s e => refresh (openEntry s e)) s).choices = s.choices ∧
    (l.foldl (fun s e => refresh (openEntry s e)) s).pending = s.pending := by
  induction l generalizing s with
  | nil => simp
  | cons a l ih => simp [ih]

/-- The test of R46. -/
@[simp] theorem grantEntries_frame (which : StackEntry → Bool) (s : State) :
    (grantEntries which s).powered = s.powered ∧ (grantEntries which s).now = s.now ∧
    (grantEntries which s).links = s.links ∧ (grantEntries which s).held = s.held ∧
    (grantEntries which s).store = s.store ∧ (grantEntries which s).account = s.account ∧
    (grantEntries which s).groups = s.groups ∧ (grantEntries which s).ring = s.ring ∧
    (grantEntries which s).plan = s.plan ∧ (grantEntries which s).grout = s.grout ∧
    (grantEntries which s).cutter = s.cutter ∧ (grantEntries which s).modes = s.modes ∧
    (grantEntries which s).choices = s.choices ∧ (grantEntries which s).pending = s.pending := by
  simp [grantEntries]

/-- A push (R49). -/
@[simp] theorem pushEntry_frame (p : Fin 7) (s : State) :
    (pushEntry p s).powered = s.powered ∧ (pushEntry p s).now = s.now ∧ (pushEntry p s).links = s.links ∧
    (pushEntry p s).held = s.held ∧ (pushEntry p s).store = s.store ∧
    (pushEntry p s).account = s.account ∧ (pushEntry p s).ring = s.ring ∧ (pushEntry p s).plan = s.plan ∧
    (pushEntry p s).grout = s.grout ∧ (pushEntry p s).chamber = s.chamber ∧
    (pushEntry p s).cutter = s.cutter ∧ (pushEntry p s).modes = s.modes ∧
    (pushEntry p s).permits = s.permits ∧ (pushEntry p s).conds = s.conds ∧
    (pushEntry p s).choices = s.choices ∧ (pushEntry p s).pending = s.pending := by
  simp [pushEntry]

/-- A pop, with what it hands on (R53, R63). -/
@[simp] theorem popEntry_frame (s : State) :
    (popEntry s).powered = s.powered ∧ (popEntry s).now = s.now ∧ (popEntry s).links = s.links ∧
    (popEntry s).held = s.held ∧ (popEntry s).ring = s.ring ∧ (popEntry s).plan = s.plan ∧
    (popEntry s).choices = s.choices ∧ (popEntry s).pending = s.pending := by
  unfold popEntry
  split <;> simp

@[simp] theorem popMany_frame (n : Nat) (s : State) :
    (popMany n s).powered = s.powered ∧ (popMany n s).now = s.now ∧ (popMany n s).links = s.links ∧
    (popMany n s).held = s.held ∧ (popMany n s).ring = s.ring ∧
    (popMany n s).plan = s.plan ∧ (popMany n s).choices = s.choices ∧ (popMany n s).pending = s.pending := by
  induction n generalizing s with
  | zero => simp [popMany]
  | succ n ih => simp [popMany, ih]

@[simp] theorem announceRing_frame (cause : RingCause) (s : State) :
    (announceRing cause s).powered = s.powered ∧ (announceRing cause s).now = s.now ∧
    (announceRing cause s).links = s.links ∧ (announceRing cause s).held = s.held ∧
    (announceRing cause s).store = s.store ∧ (announceRing cause s).account = s.account ∧
    (announceRing cause s).groups = s.groups ∧ (announceRing cause s).stack = s.stack ∧
    (announceRing cause s).ring = s.ring ∧ (announceRing cause s).plan = s.plan ∧
    (announceRing cause s).grout = s.grout ∧ (announceRing cause s).chamber = s.chamber ∧
    (announceRing cause s).cutter = s.cutter ∧ (announceRing cause s).modes = s.modes ∧
    (announceRing cause s).permits = s.permits ∧ (announceRing cause s).conds = s.conds ∧
    (announceRing cause s).choices = s.choices ∧ (announceRing cause s).pending = s.pending := by
  simp [announceRing]

/-- The ring builder's test (R85, R86, R89). -/
@[simp] theorem ringTest_frame (s : State) :
    (ringTest s).powered = s.powered ∧ (ringTest s).now = s.now ∧ (ringTest s).links = s.links ∧
    (ringTest s).held = s.held ∧ (ringTest s).groups = s.groups ∧
    (ringTest s).stack = s.stack ∧ (ringTest s).plan = s.plan ∧ (ringTest s).grout = s.grout ∧
    (ringTest s).chamber = s.chamber ∧ (ringTest s).cutter = s.cutter ∧ (ringTest s).modes = s.modes ∧
    (ringTest s).permits = s.permits ∧ (ringTest s).conds = s.conds ∧ (ringTest s).choices = s.choices ∧
    (ringTest s).pending = s.pending := by
  unfold ringTest
  split
  · split <;> simp [closeRing]
  · split <;> simp [completeAbort]
  all_goals simp

@[simp] theorem ringTestAfter_frame (x : GroupState) (s : State) :
    (ringTestAfter x s).powered = s.powered ∧ (ringTestAfter x s).now = s.now ∧
    (ringTestAfter x s).links = s.links ∧ (ringTestAfter x s).held = s.held ∧
    (ringTestAfter x s).groups = s.groups ∧ (ringTestAfter x s).stack = s.stack ∧
    (ringTestAfter x s).plan = s.plan ∧ (ringTestAfter x s).grout = s.grout ∧
    (ringTestAfter x s).chamber = s.chamber ∧ (ringTestAfter x s).cutter = s.cutter ∧
    (ringTestAfter x s).modes = s.modes ∧ (ringTestAfter x s).permits = s.permits ∧
    (ringTestAfter x s).conds = s.conds ∧ (ringTestAfter x s).choices = s.choices ∧
    (ringTestAfter x s).pending = s.pending := by
  unfold ringTestAfter
  split <;> simp

/-- An abort (R88). -/
@[simp] theorem abortRing_frame (cause : RingCause) (s : State) :
    (abortRing cause s).powered = s.powered ∧ (abortRing cause s).now = s.now ∧
    (abortRing cause s).links = s.links ∧ (abortRing cause s).held = s.held ∧
    (abortRing cause s).plan = s.plan ∧ (abortRing cause s).choices = s.choices ∧
    (abortRing cause s).pending = s.pending := by
  simp [abortRing]

/-! ## Links and answers -/

/-- The re-issue of orders (R66). -/
@[simp] theorem reissueOrders_frame (s : State) :
    (reissueOrders s).powered = s.powered ∧ (reissueOrders s).now = s.now ∧
    (reissueOrders s).links = s.links ∧ (reissueOrders s).held = s.held ∧
    (reissueOrders s).store = s.store ∧ (reissueOrders s).account = s.account ∧
    (reissueOrders s).groups = s.groups ∧ (reissueOrders s).stack = s.stack ∧
    (reissueOrders s).ring = s.ring ∧ (reissueOrders s).plan = s.plan ∧ (reissueOrders s).grout = s.grout ∧
    (reissueOrders s).chamber = s.chamber ∧ (reissueOrders s).cutter = s.cutter ∧
    (reissueOrders s).modes = s.modes ∧ (reissueOrders s).permits = s.permits ∧
    (reissueOrders s).conds = s.conds ∧ (reissueOrders s).choices = s.choices ∧
    (reissueOrders s).pending = s.pending := by
  simp [reissueOrders]

/-- What waited for an answer (R66, R178). -/
@[simp] theorem sendHeld_frame (h : Held) (s : State) :
    (sendHeld h s).powered = s.powered ∧ (sendHeld h s).now = s.now ∧ (sendHeld h s).links = s.links ∧
    (sendHeld h s).held = s.held ∧ (sendHeld h s).store = s.store ∧ (sendHeld h s).account = s.account ∧
    (sendHeld h s).groups = s.groups ∧ (sendHeld h s).stack = s.stack ∧ (sendHeld h s).ring = s.ring ∧
    (sendHeld h s).plan = s.plan ∧ (sendHeld h s).grout = s.grout ∧ (sendHeld h s).chamber = s.chamber ∧
    (sendHeld h s).cutter = s.cutter ∧ (sendHeld h s).modes = s.modes ∧ (sendHeld h s).permits = s.permits ∧
    (sendHeld h s).conds = s.conds ∧ (sendHeld h s).choices = s.choices ∧
    (sendHeld h s).pending = s.pending := by
  unfold sendHeld
  simp only
  split <;> simp

@[simp] theorem afterAnswer_frame (p : Port) (s : State) :
    (afterAnswer p s).powered = s.powered ∧ (afterAnswer p s).now = s.now ∧
    (afterAnswer p s).links = s.links ∧ (afterAnswer p s).store = s.store ∧
    (afterAnswer p s).account = s.account ∧ (afterAnswer p s).groups = s.groups ∧
    (afterAnswer p s).stack = s.stack ∧ (afterAnswer p s).ring = s.ring ∧ (afterAnswer p s).plan = s.plan ∧
    (afterAnswer p s).grout = s.grout ∧ (afterAnswer p s).chamber = s.chamber ∧
    (afterAnswer p s).cutter = s.cutter ∧ (afterAnswer p s).modes = s.modes ∧
    (afterAnswer p s).permits = s.permits ∧ (afterAnswer p s).conds = s.conds ∧
    (afterAnswer p s).choices = s.choices ∧ (afterAnswer p s).pending = s.pending := by
  unfold afterAnswer
  split
  · simp
  · split <;> simp

/-- A link becomes ACTIVE (R66, R203). -/
@[simp] theorem onActive_frame (p : Port) (before : LinkRec) (s : State) :
    (onActive p before s).powered = s.powered ∧ (onActive p before s).now = s.now ∧
    (onActive p before s).store = s.store ∧ (onActive p before s).account = s.account ∧
    (onActive p before s).groups = s.groups ∧ (onActive p before s).stack = s.stack ∧
    (onActive p before s).ring = s.ring ∧ (onActive p before s).plan = s.plan ∧
    (onActive p before s).grout = s.grout ∧ (onActive p before s).chamber = s.chamber ∧
    (onActive p before s).cutter = s.cutter ∧ (onActive p before s).modes = s.modes ∧
    (onActive p before s).permits = s.permits ∧ (onActive p before s).conds = s.conds ∧
    (onActive p before s).choices = s.choices ∧ (onActive p before s).pending = s.pending := by
  unfold onActive
  simp only
  split
  · simp
  · split <;> simp

@[simp] theorem deliver_frame (p : Port) (s : State) (x : Frame × Nat) :
    (deliver p s x).powered = s.powered ∧ (deliver p s x).now = s.now ∧ (deliver p s x).store = s.store ∧
    (deliver p s x).account = s.account ∧ (deliver p s x).groups = s.groups ∧
    (deliver p s x).stack = s.stack ∧ (deliver p s x).ring = s.ring ∧ (deliver p s x).plan = s.plan ∧
    (deliver p s x).grout = s.grout ∧ (deliver p s x).chamber = s.chamber ∧
    (deliver p s x).cutter = s.cutter ∧ (deliver p s x).modes = s.modes ∧
    (deliver p s x).permits = s.permits ∧ (deliver p s x).conds = s.conds ∧
    (deliver p s x).choices = s.choices ∧ (deliver p s x).pending = s.pending := by
  unfold deliver
  simp only
  split
  · simp
  · simp

@[simp] theorem foldl_deliver_frame (p : Port) (l : List (Frame × Nat)) (s : State) :
    (l.foldl (deliver p) s).powered = s.powered ∧ (l.foldl (deliver p) s).now = s.now ∧
    (l.foldl (deliver p) s).store = s.store ∧ (l.foldl (deliver p) s).account = s.account ∧
    (l.foldl (deliver p) s).groups = s.groups ∧ (l.foldl (deliver p) s).stack = s.stack ∧
    (l.foldl (deliver p) s).ring = s.ring ∧ (l.foldl (deliver p) s).plan = s.plan ∧
    (l.foldl (deliver p) s).grout = s.grout ∧ (l.foldl (deliver p) s).chamber = s.chamber ∧
    (l.foldl (deliver p) s).cutter = s.cutter ∧ (l.foldl (deliver p) s).modes = s.modes ∧
    (l.foldl (deliver p) s).permits = s.permits ∧ (l.foldl (deliver p) s).conds = s.conds ∧
    (l.foldl (deliver p) s).choices = s.choices ∧ (l.foldl (deliver p) s).pending = s.pending := by
  induction l generalizing s with
  | nil => simp
  | cons a l ih => simp [ih]

/-- The receiver (R197). -/
@[simp] theorem receive_frame (p : Port) (s : State) :
    (receive p s).powered = s.powered ∧ (receive p s).now = s.now ∧ (receive p s).store = s.store ∧
    (receive p s).account = s.account ∧ (receive p s).groups = s.groups ∧ (receive p s).stack = s.stack ∧
    (receive p s).ring = s.ring ∧ (receive p s).plan = s.plan ∧ (receive p s).grout = s.grout ∧
    (receive p s).chamber = s.chamber ∧ (receive p s).cutter = s.cutter ∧ (receive p s).modes = s.modes ∧
    (receive p s).permits = s.permits ∧ (receive p s).conds = s.conds ∧ (receive p s).choices = s.choices ∧
    (receive p s).pending = s.pending := by
  simp [receive]

@[simp] theorem addBytes_frame (p : Port) (bytes : List Byte) (s : State) :
    (addBytes p bytes s).powered = s.powered ∧ (addBytes p bytes s).now = s.now ∧
    (addBytes p bytes s).held = s.held ∧ (addBytes p bytes s).store = s.store ∧
    (addBytes p bytes s).account = s.account ∧ (addBytes p bytes s).groups = s.groups ∧
    (addBytes p bytes s).stack = s.stack ∧ (addBytes p bytes s).ring = s.ring ∧
    (addBytes p bytes s).plan = s.plan ∧ (addBytes p bytes s).grout = s.grout ∧
    (addBytes p bytes s).chamber = s.chamber ∧ (addBytes p bytes s).cutter = s.cutter ∧
    (addBytes p bytes s).modes = s.modes ∧ (addBytes p bytes s).permits = s.permits ∧
    (addBytes p bytes s).conds = s.conds ∧ (addBytes p bytes s).sent = s.sent ∧
    (addBytes p bytes s).choices = s.choices ∧ (addBytes p bytes s).pending = s.pending := by
  simp [addBytes]

/-- The end of an event (R176, R178). -/
@[simp] theorem finish_frame (before : State) (reply : List Sent) (s : State) :
    (finish before reply s).powered = s.powered ∧ (finish before reply s).now = s.now ∧
    (finish before reply s).links = s.links ∧ (finish before reply s).held = s.held ∧
    (finish before reply s).store = s.store ∧ (finish before reply s).account = s.account ∧
    (finish before reply s).groups = s.groups ∧ (finish before reply s).stack = s.stack ∧
    (finish before reply s).ring = s.ring ∧ (finish before reply s).plan = s.plan ∧
    (finish before reply s).grout = s.grout ∧ (finish before reply s).cutter = s.cutter ∧
    (finish before reply s).modes = s.modes ∧ (finish before reply s).choices = s.choices ∧
    (finish before reply s).pending = s.pending := by
  simp [finish]

end Sys2Proof.Machine
end

