-- ==== Sys2Proof/Laws/Evaluation.lean ====
section
/-! SUPPORT. What the hand-off to the mode and permit unit leaves: levels, classes and permits read neither
the permits nor the condition table nor the setpoint, so that one evaluation brings all into line. -/

namespace Sys2Proof.Machine

/-- `t` differs from `s` at most in the permits, the condition table, the setpoint, what is sent and what the
re-issue of orders waits for. -/
def SameInputs (s t : State) : Prop :=
  ∃ permits conds setpoint sent orders, t =
    { s with
      permits := permits, conds := conds, chamber := { s.chamber with setpoint := setpoint }, sent := sent
      held := orders }

theorem SameInputs.refl (s : State) : SameInputs s s :=
  ⟨s.permits, s.conds, s.chamber.setpoint, s.sent, s.held, rfl⟩

theorem SameInputs.trans {s t u : State} : SameInputs s t → SameInputs t u → SameInputs s u := by
  rintro ⟨p, c, x, e, o, rfl⟩ ⟨p', c', x', e', o', rfl⟩
  exact ⟨p', c', x', e', o', rfl⟩

theorem SameInputs.level {s t : State} (h : SameInputs s t) (name : CondName) (subject : Option Nat) :
    level t name subject = level s name subject := by
  obtain ⟨p, c, x, e, o, rfl⟩ := h
  cases name <;> rfl

theorem SameInputs.classOf {s t : State} (h : SameInputs s t) (name : CondName) (subject : Option Nat) :
    classOf t name subject = classOf s name subject := by
  obtain ⟨p, c, x, e, o, rfl⟩ := h
  cases name <;> rfl

theorem SameInputs.limiting {s t : State} (h : SameInputs s t) :
    limitingConditions t = limitingConditions s := by
  unfold limitingConditions
  congr 1
  funext k
  rw [h.level, h.classOf]

theorem SameInputs.permitsOf {s t : State} (h : SameInputs s t) : permitsOf t = permitsOf s := by
  have hl := h.limiting
  have hv := h.level
  obtain ⟨p, c, x, e, o, rfl⟩ := h
  simp only [Machine.permitsOf, advancePermitOf, hl, speedCeiling, advanceBlocked, hv]
  rfl

theorem SameInputs.evalEntry {s t : State} (h : SameInputs s t) : evalEntry t = evalEntry s := by
  have hl := h.level
  have hc := h.classOf
  have hn : t.now = s.now := by obtain ⟨p, c, x, e, o, rfl⟩ := h; rfl
  funext e
  simp only [Machine.evalEntry, hl, hc, hn]

theorem sameInputs_applyStandstill (s : State) : SameInputs s (applyStandstill s) := by
  unfold applyStandstill
  split
  · exact ⟨s.permits, s.conds, _, s.sent, s.held, rfl⟩
  · exact .refl s

theorem sameInputs_computePermits (s : State) : SameInputs s (computePermits s) :=
  ⟨permitsOf s, s.conds, s.chamber.setpoint, _, s.held, rfl⟩

theorem sameInputs_evalConditions (s : State) : SameInputs s (evalConditions s) :=
  ⟨s.permits, _, s.chamber.setpoint, s.sent, s.held, rfl⟩

theorem sameInputs_refresh (s : State) : SameInputs s (refresh s) :=
  ((sameInputs_evalConditions s).trans (sameInputs_computePermits _)).trans (sameInputs_applyStandstill _)

theorem sameInputs_finish (before : State) (reply : List Sent) (s : State) :
    SameInputs s (finish before reply s) :=
  (sameInputs_refresh s).trans ⟨(refresh s).permits, (refresh s).conds, (refresh s).chamber.setpoint, _,
    (refresh s).held, rfl⟩

/-- After the hand-off the permits are those of the state it leaves (R176). -/
theorem refresh_permits (s : State) : (refresh s).permits = permitsOf (refresh s) := by
  rw [(sameInputs_refresh s).permitsOf]
  have h : SameInputs s (evalConditions s) := ⟨s.permits, _, s.chamber.setpoint, s.sent, s.held, rfl⟩
  simp [refresh, h.permitsOf]

/-- After the hand-off every entry is its former self at the levels of the state it leaves (R177). -/
theorem refresh_conds (s : State) : (refresh s).conds = s.conds.map (evalEntry (refresh s)) := by
  rw [(sameInputs_refresh s).evalEntry]
  simp [refresh]

/-- The chamber record after the hand-off: the setpoint alone may have come down (R126). -/
theorem refresh_chamber (s : State) :
    (refresh s).chamber = if standstillLimit (refresh s) then heldDown s (refresh s) else s.chamber := by
  have h : standstillLimit (refresh s) = standstillLimit (computePermits (evalConditions s)) := by
    simp [standstillLimit, refresh]
  rw [h]
  unfold refresh applyStandstill
  split <;> rfl

theorem finish_permits (before : State) (reply : List Sent) (s : State) :
    (finish before reply s).permits = permitsOf (finish before reply s) := by
  rw [(sameInputs_finish before reply s).permitsOf, ← (sameInputs_refresh s).permitsOf, ← refresh_permits]
  rfl

theorem finish_conds (before : State) (reply : List Sent) (s : State) :
    (finish before reply s).conds = s.conds.map (evalEntry (finish before reply s)) := by
  rw [(sameInputs_finish before reply s).evalEntry, ← (sameInputs_refresh s).evalEntry, ← refresh_conds]
  rfl

theorem finish_chamber (before : State) (reply : List Sent) (s : State) :
    (finish before reply s).chamber =
      if standstillLimit (finish before reply s) then heldDown s (finish before reply s) else s.chamber :=
  refresh_chamber s

/-- What the hand-off sends: a notice for each permit it changed (R176). -/
theorem refresh_sent (s : State) :
    (refresh s).sent = s.sent ++ permitNotices s.permits (permitsOf (refresh s)) := by
  rw [(sameInputs_refresh s).permitsOf]
  simp [refresh, computePermits_sent, (sameInputs_evalConditions s).permitsOf]

theorem screwNotices_place {before s : State} : ∀ x ∈ screwNotices before s, x.message.place = 3 := by
  unfold screwNotices
  split <;> simp [Message.place]

theorem modeNotices_place {before s : State} : ∀ x ∈ modeNotices before s, x.message.place = 1 := by
  unfold modeNotices
  split
  · simp
  · simp +contextual [Message.place]

/-- The place of a permit notice: the cutter's comes after the others (R176). -/
def permitPlace (x : Sent) : Nat := if isCutterPermit x then 3 else 2

theorem permitNotices_place {a b : Permits} : ∀ x ∈ permitNotices a b, x.message.place = permitPlace x := by
  intro x
  unfold permitNotices
  simp only [List.mem_append]
  rintro (((h | h) | h) | h) <;> (split at h <;> simp_all [Message.place, permitPlace, isCutterPermit])

theorem conditionNotices_place {before s : State} : ∀ x ∈ conditionNotices before s, x.message.place = 4 := by
  unfold conditionNotices
  split
  · simp
  · simp +contextual [Message.place]

theorem permitTrail_place (a : Permits) (steps : List Permits) :
    ∀ x ∈ permitTrail a steps, x.message.place = permitPlace x := by
  induction steps generalizing a with
  | nil => simp [permitTrail]
  | cons b steps ih =>
    intro x hx
    rw [permitTrail, List.mem_append] at hx
    exact hx.elim (permitNotices_place x) (ih b x)

theorem filter_place {l : List Sent} {k : Nat} (h : ∀ x ∈ l, x.message.place = k) (j : Nat) :
    (l.filter fun x => x.message.place = j) = if j = k then l else [] := by
  split
  · subst j; simpa [List.filter_eq_self] using h
  · rw [List.filter_eq_nil_iff]
    intro x hx
    simp [h x hx, Ne.symm ‹_›]

/-- The frames of place `k` among what the blocks tell, `told`, and permit notices, `trail` (R176, R178). -/
def atPlace (told trail : List Sent) (k : Nat) : List Sent :=
  if k = 0 then told
  else if k = 2 then trail.filter fun x => !isCutterPermit x
  else if k = 3 then trail.filter isCutterPermit
  else []

/-- The notices of an event whose blocks tell none of R178's own, in the order of R178. -/
theorem arranged_told {told trail screw mode cond : List Sent}
    (hs : ∀ x ∈ screw, x.message.place = 3) (hm : ∀ x ∈ mode, x.message.place = 1)
    (hc : ∀ x ∈ cond, x.message.place = 4) (l : List Sent)
    (hl : ∀ k, (l.filter fun x => x.message.place = k) = atPlace told trail k) :
    arranged (l ++ screw ++ mode ++ cond) =
      told ++ mode ++ trail.filter (fun x => !isCutterPermit x) ++ trail.filter isCutterPermit ++ screw ++ cond := by
  simp [arranged, List.filter_append, filter_place hs, filter_place hm, filter_place hc, hl, atPlace]

/-- Permit notices by place: the cutter's, and the others (R176). -/
theorem filter_trail {trail : List Sent} (ht : ∀ x ∈ trail, x.message.place = permitPlace x) (k : Nat) :
    (trail.filter fun x => x.message.place = k) = atPlace [] trail k := by
  unfold atPlace
  split_ifs with h0 h2 h3
  · rw [List.filter_eq_nil_iff]
    intro x hx
    simp only [ht x hx, permitPlace, h0]
    split <;> simp
  · refine List.filter_congr fun x hx => ?_
    rw [ht x hx, permitPlace, h2]
    cases isCutterPermit x <;> rfl
  · refine List.filter_congr fun x hx => ?_
    rw [ht x hx, permitPlace, h3]
    cases isCutterPermit x <;> rfl
  · rw [List.filter_eq_nil_iff]
    intro x hx
    simp only [ht x hx, permitPlace]
    split <;> simp [Ne.symm h2, Ne.symm h3]

/-- Frames that the blocks tell and permit notices, put apart. -/
theorem filter_told_trail {told trail : List Sent} (h : ∀ x ∈ told, x.message.place = 0)
    (ht : ∀ x ∈ trail, x.message.place = permitPlace x) (k : Nat) :
    ((told ++ trail).filter fun x => x.message.place = k) = atPlace told trail k := by
  rw [List.filter_append, filter_place h, filter_trail ht]
  by_cases h0 : k = 0 <;> simp [h0, atPlace]

/-- What an event sends, when up to its end the blocks have told `told`, all of the first place, and the permits have
been computed again once for each of `steps`: the response, what was told, the notices of R178. -/
theorem finish_sent {before s : State} {reply l told : List Sent} {steps : List Permits}
    (hs : s.sent = l)
    (hl : ∀ k, ((l ++ permitNotices s.permits (permitsOf (finish before reply s))).filter fun x => x.message.place = k) =
      atPlace told (permitTrail before.permits (steps ++ [(finish before reply s).permits])) k) :
    (finish before reply s).sent = reply ++ told ++ closingNotices steps before (finish before reply s) := by
  have e : (finish before reply s).sent = reply ++ arranged ((refresh s).sent ++
    screwNotices before (refresh s) ++ modeNotices before (refresh s) ++ conditionNotices before (refresh s)) := rfl
  have hp : permitsOf (refresh s) = permitsOf (finish before reply s) := by
    rw [(sameInputs_finish before reply s).permitsOf, (sameInputs_refresh s).permitsOf]
  rw [e, refresh_sent, hs, hp, arranged_told screwNotices_place modeNotices_place
    conditionNotices_place _ hl]
  simp [closingNotices]
  rfl

/-- What an event sends that computes the permits again at its end alone. -/
theorem finish_sent_once {before s : State} {reply told : List Sent} (hs : s.sent = told)
    (hp : s.permits = before.permits) (h : ∀ x ∈ told, x.message.place = 0) :
    (finish before reply s).sent = reply ++ told ++ closingNotices [] before (finish before reply s) := by
  refine finish_sent hs fun k => ?_
  rw [hp, ← finish_permits]
  have e : permitTrail before.permits ([] ++ [(finish before reply s).permits]) =
    permitNotices before.permits (finish before reply s).permits := by simp [permitTrail]
  rw [e, filter_told_trail h permitNotices_place]

/-- The order of R178 sees of a list of frames its frames by place alone. -/
theorem arranged_congr {l l' : List Sent}
    (h : ∀ k, (l.filter fun x => x.message.place = k) = l'.filter fun x => x.message.place = k) :
    arranged l = arranged l' := by
  simp [arranged, h]

/-- A list put in the order of R178 is put in it once. -/
theorem arranged_arranged (l l' : List Sent) : arranged (arranged l ++ l') = arranged (l ++ l') := by
  have f : ∀ j k : Nat, ((l.filter fun x => x.message.place = k).filter fun x => x.message.place = j) =
      if j = k then l.filter fun x => x.message.place = k else [] := fun j k =>
    filter_place (fun x hx => by simpa using (List.mem_filter.mp hx).2) j
  simp [arranged, List.filter_append, f, -List.filter_filter]

/-- What an event sends whose permits are computed again at its end alone: the response, then the frames that arose
before its end, put with the closing notices into the order of R178. -/
theorem finish_sent_arranged {before s : State} {reply : List Sent} (hp : s.permits = before.permits) :
    (finish before reply s).sent = reply ++ arranged (s.sent ++ closingNotices [] before (finish before reply s)) := by
  have e : (finish before reply s).sent = reply ++ arranged ((refresh s).sent ++
    screwNotices before (refresh s) ++ modeNotices before (refresh s) ++ conditionNotices before (refresh s)) := rfl
  have hq : permitsOf (refresh s) = (finish before reply s).permits := by
    rw [finish_permits, (sameInputs_finish before reply s).permitsOf, (sameInputs_refresh s).permitsOf]
  rw [e, refresh_sent, hq, hp]
  congr 1
  have c : closingNotices [] before (finish before reply s) =
    let trail := permitNotices before.permits (finish before reply s).permits
    modeNotices before (refresh s) ++ trail.filter (fun x => !isCutterPermit x) ++ trail.filter isCutterPermit ++
      screwNotices before (refresh s) ++ conditionNotices before (refresh s) := by
    simp [closingNotices, permitTrail]
    rfl
  rw [c]
  refine arranged_congr fun k => ?_
  have ht : ∀ x ∈ permitNotices before.permits (finish before reply s).permits, x.message.place = permitPlace x :=
    permitNotices_place
  have hn : ∀ x ∈ (permitNotices before.permits (finish before reply s).permits).filter (fun x => !isCutterPermit x),
      x.message.place = 2 := by
    intro x hx
    rw [List.mem_filter] at hx
    rw [ht x hx.1, permitPlace]
    simp_all
  have hk : ∀ x ∈ (permitNotices before.permits (finish before reply s).permits).filter isCutterPermit,
      x.message.place = 3 := by
    intro x hx
    rw [List.mem_filter] at hx
    rw [ht x hx.1, permitPlace, if_pos hx.2]
  simp only [List.filter_append, filter_place screwNotices_place, filter_place modeNotices_place,
    filter_place conditionNotices_place, filter_trail ht, filter_place hn, filter_place hk, atPlace]
  split_ifs <;> simp_all

/-- An entry brought up to date twice at the same levels is brought up to date once. -/
theorem evalEntry_twice (s : State) (e : CondEntry) : evalEntry s (evalEntry s e) = evalEntry s e := by
  unfold evalEntry
  cases h : level s e.name e.subject <;> cases h2 : e.active <;> simp

/-- The hand-off made twice is made once, as far as the condition table sees. -/
theorem refresh_refresh_conds (s : State) : (refresh (refresh s)).conds = (refresh s).conds := by
  rw [refresh_conds (refresh s), (sameInputs_refresh (refresh s)).evalEntry, refresh_conds s,
    List.map_map]
  congr 1
  funext e
  exact evalEntry_twice _ _

end Sys2Proof.Machine
end

