-- ==== Sys2Proof/Laws/Requests.lean ====
section
/-! SUPPORT. What taking a request comes to: which answer the checks give, and the state that an answer and
an effect leave (R198, R199). -/

namespace Sys2Proof.Machine

/-- The state in which the owning block sees a request: the frame taken, nothing sent yet. -/
abbrev taken (p : Port) (s : State) : State := dropHead p (quiet s)

@[simp] theorem linkOf_quiet (p : Port) (s : State) : linkOf (quiet s) p = linkOf s p := rfl

theorem dropHead_quiet_links (p : Port) (s : State) : (dropHead p (quiet s)).links = (dropHead p s).links := rfl

/-- A request that passes the first checks reaches its owning block (R199). -/
theorem request_asks {α : Type} {n : Nat} {roles : List Port} {early : Bool} {reader : Reader α}
    {owner : α → State → Handled} {p : Port} {s : State} {f : Frame} {a : α}
    (h : Asks s p n reader f a) (hr : roles.contains p = true)
    (hc : commissioned s = true ∨ early = true) :
    request n roles early reader owner p s = answered s p f (taken p s) (owner a (taken p s)) := by
  have e : commissioned (taken p s) = commissioned s := rfl
  have he : (!commissioned (taken p s) && !early) = false := by
    rw [e]
    obtain h | h := hc <;> simp [h]
  simp only [request, serve, h.supplied, h.heads, handle, hr, h.reads, he]
  simp

/-- An answer without effect leaves the state of `answeredOnly`. -/
theorem answered_answer (p : Port) (f : Frame) (s : State) (code : Code) (fields : List Field) :
    answered s p f (taken p s) (.answer code fields) = answeredOnly p f code fields s := rfl

theorem afterAnswer_idle {p : Port} {s : State} (h : s.held[portIndex p] = none) : afterAnswer p s = s := by
  unfold afterAnswer
  rw [h]

/-- What goes out with a response: the orders of R66 and the notices held back, in the order of R178. -/
theorem sendHeld_sent (h : Held) (s : State) :
    (sendHeld h s).sent = arranged (h.notices ++ s.sent ++ if h.orders then outstandingOrders s else []) := by
  unfold sendHeld
  split
  · have e : ∀ x, (membersWhere s.groups fun g => g.state = x) = (List.finRange 16).filter fun g => s.groups[g].state = x :=
      fun _ => rfl
    simp only [reissueOrders, sendRetract, sendExtend, tell, e, orderItems, outstandingOrders, List.map_eq_nil_iff,
      List.isEmpty_iff]
    split_ifs <;> simp
  · simp

theorem outstandingOrders_congr {s t : State} (h : t.groups = s.groups) :
    outstandingOrders t = outstandingOrders s := by
  unfold outstandingOrders
  rw [h]

theorem afterAnswer_orders {p : Port} {s t : State} (h : t.held = s.held) :
    (afterAnswer p t).held = (afterAnswer p s).held := by
  unfold afterAnswer
  rw [h]
  split
  · exact h
  · split <;> simp [h]

/-- The blocks an event keeps are kept by its end, the setpoint apart. -/
theorem OnlyChanges.finish {l : List Block} {s t : State} (h : OnlyChanges l s t)
    (hc : .chamber ∉ l → t.chamber = s.chamber) (before : State) (reply : List Sent) :
    OnlyChanges l s (finish before reply t) := by
  intro b hb
  have k := h b hb
  cases b with
  | chamber =>
    show _ ∨ _
    rw [finish_chamber]
    split
    · right
      refine ⟨‹_›, ?_⟩
      simp [heldDown, hc hb]
    · left
      simp [hc hb]
  | _ => simpa [Keeps] using k

theorem OnlyChanges.afterAnswer {l : List Block} {s t : State} (h : OnlyChanges l s t) (p : Port) :
    OnlyChanges l s (afterAnswer p t) := by
  intro b hb
  have k := h b hb
  cases b <;> simpa [Keeps, standstillLimit, heldDown, activeProfile] using k

/-- A request with an effect: when the owning block leaves the supply, the clock, the queue and the links
alone and tells `told`, the request has been served. -/
theorem served_of_act {p : Port} {f : Frame} {code : Code} {fields : List Field} {told : List Sent}
    {l : List Block} {s t : State} (hs : Stands s t) (hl : t.links = (dropHead p s).links)
    (ho : t.held = s.held) (ht : t.sent = told) (hpl : ∀ x ∈ told, x.message.place = 0)
    (hpp : t.permits = s.permits) (h : OnlyChanges l s t) (hc : .chamber ∉ l → t.chamber = s.chamber) :
    Served p f code fields told l s (answered s p f (taken p s) (.act t code fields)) := by
  refine ⟨⟨?_, ?_, ?_, ?_⟩, ?_, ?_, ?_, (h.afterAnswer p).finish (by simpa using hc) _ _, finish_permits _ _ _⟩
  · simp [answered, hs.powered]
  · simp [answered, hs.now]
  · simp [answered, hs.pending]
  · simp [answered, hs.choices]
  · simp [answered, hl]
  · simpa [answered] using afterAnswer_orders ho
  · show (finish _ _ _).sent = _
    have k : (afterAnswer p t).permits = s.permits := by simp [hpp]
    cases hn : s.held[portIndex p] with
    | none =>
      have e : afterAnswer p t = t := afterAnswer_idle (by simpa [ho] using hn)
      rw [e, finish_sent_once ht hpp hpl]
      simp [answered, e, afterResponse, hn]
    | some w =>
      have hw : t.held[portIndex p] = some w := by rw [ho, hn]
      by_cases ha : w.after ≤ 1
      · rw [finish_sent_arranged k]
        have e : (afterAnswer p t).sent =
            arranged (w.notices ++ told ++ if w.orders then outstandingOrders t else []) := by
          simp only [afterAnswer, hw, ha, if_true, sendHeld_sent, setHeld_frame, ht]
          rw [outstandingOrders_congr (setHeld_frame _ _ _).2.2.2.2.2.1]
        rw [e, arranged_arranged]
        have g : outstandingOrders (answered s p f (taken p s) (.act t code fields)) = outstandingOrders t :=
          outstandingOrders_congr (by simp [answered])
        simp only [afterResponse, hn, Nat.not_lt.mpr ha, g, if_false]
        simp [answered]
      · have e : (afterAnswer p t).sent = told := by
          simp [afterAnswer, hw, ha, ht]
        rw [finish_sent_once e k hpl]
        simp [afterResponse, hn, Nat.lt_of_not_le ha, answered]

/-- The condition table after such a request, when the owning block left it alone. -/
theorem answered_act_conds (p : Port) (f : Frame) (s t : State) (code : Code) (fields : List Field)
    (h : t.conds = s.conds) :
    (answered s p f (taken p s) (.act t code fields)).conds =
      s.conds.map (evalEntry (answered s p f (taken p s) (.act t code fields))) := by
  show (finish _ _ _).conds = _
  rw [finish_conds]
  simp [answered, h]

/-- What the end of a request keeps of the state its owning block leaves. -/
@[simp] theorem answered_act_frame (p : Port) (f : Frame) (s t : State) (code : Code) (fields : List Field) :
    (answered s p f (taken p s) (.act t code fields)).store = t.store ∧
    (answered s p f (taken p s) (.act t code fields)).account = t.account ∧
    (answered s p f (taken p s) (.act t code fields)).groups = t.groups ∧
    (answered s p f (taken p s) (.act t code fields)).stack = t.stack ∧
    (answered s p f (taken p s) (.act t code fields)).ring = t.ring ∧
    (answered s p f (taken p s) (.act t code fields)).plan = t.plan ∧
    (answered s p f (taken p s) (.act t code fields)).grout = t.grout ∧
    (answered s p f (taken p s) (.act t code fields)).cutter = t.cutter ∧
    (answered s p f (taken p s) (.act t code fields)).modes = t.modes := by
  simp [answered]

/-- An event that is no request, made by a part with supply. -/
theorem made_of_event {effect : State → State} {told : List Sent} {l : List Block} {s : State}
    (hp : s.powered = true) (hs : Stands s (effect (quiet s))) (hl : (effect (quiet s)).links = s.links)
    (ho : (effect (quiet s)).held = s.held) (ht : (effect (quiet s)).sent = told)
    (hpl : ∀ x ∈ told, x.message.place = 0) (hpp : (effect (quiet s)).permits = s.permits)
    (h : OnlyChanges l s (effect (quiet s)))
    (hc : .chamber ∉ l → (effect (quiet s)).chamber = s.chamber) :
    Made told l s (event effect s) := by
  have e : event effect s = finish s [] (effect (quiet s)) := by simp [event, hp]
  rw [e]
  refine ⟨⟨?_, ?_, ?_, ?_⟩, ?_, ?_, ?_, ?_, finish_permits _ _ _⟩
  · simp [hs.powered]
  · simp [hs.now]
  · simp [hs.pending]
  · simp [hs.choices]
  · simp [hl]
  · simp [ho]
  · rw [finish_sent_once ht hpp hpl]; simp
  · exact h.finish hc s []

/-- `r` carries the records of `t` on: every block's, the setpoint of the standstill limit apart, and with them
every level. -/
structure Carries (t r : State) : Prop where
  store   : r.store = t.store
  account : r.account = t.account
  groups  : r.groups = t.groups
  stack   : r.stack = t.stack
  ring    : r.ring = t.ring
  plan    : r.plan = t.plan
  grout   : r.grout = t.grout
  chamber : r.chamber = if standstillLimit r then heldDown t r else t.chamber
  cutter  : r.cutter = t.cutter
  modes   : r.modes = t.modes
  level   : ∀ name subject, level r name subject = level t name subject
  classOf : ∀ name subject, classOf r name subject = classOf t name subject
  permits : r.permits = permitsOf t

theorem sameInputs_tell (p : Port) (n : Notice) (s : State) : SameInputs s (tell p n s) :=
  ⟨s.permits, s.conds, s.chamber.setpoint, _, s.held, rfl⟩

theorem sameInputs_reissueOrders (s : State) : SameInputs s (reissueOrders s) := by
  unfold reissueOrders sendExtend sendRetract
  split <;> split
  · exact .refl s
  · exact sameInputs_tell _ _ _
  · exact sameInputs_tell _ _ _
  · exact (sameInputs_tell _ _ _).trans (sameInputs_tell _ _ _)

theorem sameInputs_setHeld (p : Port) (h : Option Held) (s : State) : SameInputs s (setHeld p h s) :=
  ⟨s.permits, s.conds, s.chamber.setpoint, s.sent, _, rfl⟩

theorem sameInputs_sendHeld (h : Held) (s : State) : SameInputs s (sendHeld h s) := by
  have hs : ∀ u : State, SameInputs u { u with sent := arranged (h.notices ++ u.sent) } := fun u =>
    ⟨u.permits, u.conds, u.chamber.setpoint, _, u.held, rfl⟩
  unfold sendHeld
  split
  · exact (sameInputs_reissueOrders s).trans (hs _)
  · exact hs s

theorem sameInputs_afterAnswer (p : Port) (s : State) : SameInputs s (afterAnswer p s) := by
  unfold afterAnswer
  split
  · exact .refl s
  · split
    · exact (sameInputs_setHeld p none s).trans (sameInputs_sendHeld _ _)
    · exact sameInputs_setHeld p _ s

theorem carries_answered (p : Port) (f : Frame) (s t : State) (code : Code) (fields : List Field) :
    Carries t (answered s p f (taken p s) (.act t code fields)) := by
  have h := (sameInputs_afterAnswer p t).trans (sameInputs_finish s [responseTo p f code fields] (afterAnswer p t))
  have e : answered s p f (taken p s) (.act t code fields) =
    finish s [responseTo p f code fields] (afterAnswer p t) := rfl
  rw [e]
  refine ⟨by simp, by simp, by simp, by simp, by simp, by simp, by simp, ?_, by simp, by simp, ?_, ?_, ?_⟩
  · rw [finish_chamber]
    simp [heldDown]
  · exact fun _ _ => h.level _ _
  · exact fun _ _ => h.classOf _ _
  · rw [finish_permits, h.permitsOf]

/-- A request whose owning block acts, all at once: the state it leaves, served, with the records that the
block left. -/
theorem request_act {α : Type} {n : Nat} {roles : List Port} {early : Bool} {reader : Reader α}
    {owner : α → State → Handled} {p : Port} {s t : State} {f : Frame} {a : α} {code : Code}
    {fields : List Field} {told : List Sent} {l : List Block}
    (h : Asks s p n reader f a) (hr : roles.contains p = true) (hc : commissioned s = true ∨ early = true)
    (he : owner a (taken p s) = .act t code fields)
    (hs : Stands s t) (hl : t.links = (dropHead p s).links) (ho : t.held = s.held)
    (ht : t.sent = told) (hpl : ∀ x ∈ told, x.message.place = 0) (hpp : t.permits = s.permits)
    (hb : OnlyChanges l s t) (hch : .chamber ∉ l → t.chamber = s.chamber)
    (hd : t.conds = s.conds) :
    ∃ r, request n roles early reader owner p s = r ∧ Served p f code fields told l s r ∧ CondsFollow s r ∧
      Carries t r := by
  refine ⟨_, rfl, ?_⟩
  rw [request_asks h hr hc, he]
  exact ⟨served_of_act hs hl ho ht hpl hpp hb hch, answered_act_conds _ _ _ _ _ _ hd, carries_answered _ _ _ _ _ _⟩

/-- An event that is no request, all at once. -/
theorem event_made {effect : State → State} {told : List Sent} {l : List Block} {s t : State}
    (hp : s.powered = true) (he : effect (quiet s) = t) (hs : Stands s t) (hl : t.links = s.links)
    (ho : t.held = s.held) (ht : t.sent = told) (hpl : ∀ x ∈ told, x.message.place = 0)
    (hpp : t.permits = s.permits) (hb : OnlyChanges l s t) (hch : .chamber ∉ l → t.chamber = s.chamber) (hd : t.conds = s.conds) :
    ∃ r, event effect s = r ∧ Made told l s r ∧ CondsFollow s r ∧ Carries t r := by
  subst he
  have e : event effect s = finish s [] (effect (quiet s)) := by simp [event, hp]
  refine ⟨_, rfl, made_of_event hp hs hl ho ht hpl hpp hb hch, ?_, ?_⟩
  · show (event effect s).conds = _
    rw [e, finish_conds, hd]
  · have h := sameInputs_finish s [] (effect (quiet s))
    rw [e]
    refine ⟨by simp, by simp, by simp, by simp, by simp, by simp, by simp, ?_, by simp, by simp, ?_, ?_, ?_⟩
    · rw [finish_chamber]
    · exact fun _ _ => h.level _ _
    · exact fun _ _ => h.classOf _ _
    · rw [finish_permits, h.permitsOf]

/-- A timer whose time has come makes its event. -/
theorem expiry_due {due : Bool} {effect : State → State} {s : State} (h : due = true) :
    expiry due effect s = event effect s := by
  simp [expiry, h]

end Sys2Proof.Machine
end

