-- ==== Sys2Proof/Laws/PerInstr.lean ====
section
/-! SUPPORT. Statements made per command. -/

namespace Sys2Proof.Laws.Catalogue

open Sys2Proof.Machine

/-- The catalogue of requests (10.8) reads both ways: a command that takes a request of identifier `n` is the
one that its link's head of that identifier calls for. -/
def Statement (i : Instr) : Prop :=
  ∀ n, requestId i = some n → ∃ p, portOf i = some p ∧ requestCommand p n = some i

theorem powerOn (failed : StoredFailures) : Statement (.powerOn failed) := by
  rintro n ⟨⟩

theorem resetInput (ms : Nat) : Statement (.resetInput ms) := by
  rintro n ⟨⟩

theorem revolutionIndexPulse (ms : Nat) : Statement (.revolutionIndexPulse ms) := by
  rintro n ⟨⟩

theorem frameReceive (port : Port) (bytes : List Byte) : Statement (.frameReceive port bytes) := by
  rintro n ⟨⟩

theorem frameTimeout (port : Port) : Statement (.frameTimeout port) := by
  rintro n ⟨⟩

theorem linkSilenceExpiry (port : Port) : Statement (.linkSilenceExpiry port) := by
  rintro n ⟨⟩

theorem strokeReport (port : Port) : Statement (.strokeReport port) := by
  rintro n ⟨⟩
  exact ⟨port, rfl, rfl⟩

theorem driveReport (port : Port) : Statement (.driveReport port) := by
  rintro n ⟨⟩
  exact ⟨port, rfl, rfl⟩

theorem retractDone (port : Port) : Statement (.retractDone port) := by
  rintro n ⟨⟩
  exact ⟨port, rfl, rfl⟩

theorem extendDone (port : Port) : Statement (.extendDone port) := by
  rintro n ⟨⟩
  exact ⟨port, rfl, rfl⟩

theorem groupFault (port : Port) : Statement (.groupFault port) := by
  rintro n ⟨⟩
  exact ⟨port, rfl, rfl⟩

theorem groupState (port : Port) : Statement (.groupState port) := by
  rintro n ⟨⟩
  exact ⟨port, rfl, rfl⟩

theorem claimAdvance (port : Port) : Statement (.claimAdvance port) := by
  rintro n ⟨⟩
  exact ⟨port, rfl, rfl⟩

theorem dropAdvance (port : Port) : Statement (.dropAdvance port) := by
  rintro n ⟨⟩
  exact ⟨port, rfl, rfl⟩

theorem cutterStart (port : Port) : Statement (.cutterStart port) := by
  rintro n ⟨⟩
  exact ⟨port, rfl, rfl⟩

theorem cutterSpeed (port : Port) : Statement (.cutterSpeed port) := by
  rintro n ⟨⟩
  exact ⟨port, rfl, rfl⟩

theorem cutterStop (port : Port) : Statement (.cutterStop port) := by
  rintro n ⟨⟩
  exact ⟨port, rfl, rfl⟩

theorem cutterRock (port : Port) : Statement (.cutterRock port) := by
  rintro n ⟨⟩
  exact ⟨port, rfl, rfl⟩

theorem motorReadmit (port : Port) : Statement (.motorReadmit port) := by
  rintro n ⟨⟩
  exact ⟨port, rfl, rfl⟩

theorem claimBuild (port : Port) : Statement (.claimBuild port) := by
  rintro n ⟨⟩
  exact ⟨port, rfl, rfl⟩

theorem dropBuild (port : Port) : Statement (.dropBuild port) := by
  rintro n ⟨⟩
  exact ⟨port, rfl, rfl⟩

theorem ringArm (port : Port) : Statement (.ringArm port) := by
  rintro n ⟨⟩
  exact ⟨port, rfl, rfl⟩

theorem segmentOpen (port : Port) : Statement (.segmentOpen port) := by
  rintro n ⟨⟩
  exact ⟨port, rfl, rfl⟩

theorem segmentPlaced (port : Port) : Statement (.segmentPlaced port) := by
  rintro n ⟨⟩
  exact ⟨port, rfl, rfl⟩

theorem segmentClose (port : Port) : Statement (.segmentClose port) := by
  rintro n ⟨⟩
  exact ⟨port, rfl, rfl⟩

theorem ringAbort (port : Port) : Statement (.ringAbort port) := by
  rintro n ⟨⟩
  exact ⟨port, rfl, rfl⟩

theorem doseTake (port : Port) : Statement (.doseTake port) := by
  rintro n ⟨⟩
  exact ⟨port, rfl, rfl⟩

theorem doseClose (port : Port) : Statement (.doseClose port) := by
  rintro n ⟨⟩
  exact ⟨port, rfl, rfl⟩

theorem lineState (port : Port) : Statement (.lineState port) := by
  rintro n ⟨⟩
  exact ⟨port, rfl, rfl⟩

theorem spoilReport (port : Port) : Statement (.spoilReport port) := by
  rintro n ⟨⟩
  exact ⟨port, rfl, rfl⟩

theorem constantsWrite (port : Port) : Statement (.constantsWrite port) := by
  rintro n ⟨⟩
  exact ⟨port, rfl, rfl⟩

theorem profileWrite (port : Port) : Statement (.profileWrite port) := by
  rintro n ⟨⟩
  exact ⟨port, rfl, rfl⟩

theorem profileSelect (port : Port) : Statement (.profileSelect port) := by
  rintro n ⟨⟩
  exact ⟨port, rfl, rfl⟩

theorem planErase (port : Port) : Statement (.planErase port) := by
  rintro n ⟨⟩
  exact ⟨port, rfl, rfl⟩

theorem planBlankCheck (port : Port) : Statement (.planBlankCheck port) := by
  rintro n ⟨⟩
  exact ⟨port, rfl, rfl⟩

theorem planWrite (port : Port) : Statement (.planWrite port) := by
  rintro n ⟨⟩
  exact ⟨port, rfl, rfl⟩

theorem planWriteNext (port : Port) : Statement (.planWriteNext port) := by
  rintro n ⟨⟩
  exact ⟨port, rfl, rfl⟩

theorem planVerify (port : Port) : Statement (.planVerify port) := by
  rintro n ⟨⟩
  exact ⟨port, rfl, rfl⟩

theorem planStatus (port : Port) : Statement (.planStatus port) := by
  rintro n ⟨⟩
  exact ⟨port, rfl, rfl⟩

theorem conditionAck (port : Port) : Statement (.conditionAck port) := by
  rintro n ⟨⟩
  exact ⟨port, rfl, rfl⟩

theorem flagsClear (port : Port) : Statement (.flagsClear port) := by
  rintro n ⟨⟩
  exact ⟨port, rfl, rfl⟩

theorem halt (port : Port) : Statement (.halt port) := by
  rintro n ⟨⟩
  exact ⟨port, rfl, rfl⟩

theorem haltClear (port : Port) : Statement (.haltClear port) := by
  rintro n ⟨⟩
  exact ⟨port, rfl, rfl⟩

theorem warmReset (port : Port) : Statement (.warmReset port) := by
  rintro n ⟨⟩
  exact ⟨port, rfl, rfl⟩

theorem read (port : Port) : Statement (.read port) := by
  rintro n ⟨⟩
  exact ⟨port, rfl, rfl⟩

theorem unknownRequest (port : Port) : Statement (.unknownRequest port) := by
  rintro n ⟨⟩

theorem retractTimerExpiry (group : Fin 16) : Statement (.retractTimerExpiry group) := by
  rintro n ⟨⟩

theorem releaseTimerExpiry (position : Fin 7) : Statement (.releaseTimerExpiry position) := by
  rintro n ⟨⟩

theorem advanceSpeedExpiry : Statement .advanceSpeedExpiry := by
  rintro n ⟨⟩

theorem estimateLossExpiry : Statement .estimateLossExpiry := by
  rintro n ⟨⟩

theorem rampStep : Statement .rampStep := by
  rintro n ⟨⟩

theorem deviationTimerExpiry (motor : Fin 8) : Statement (.deviationTimerExpiry motor) := by
  rintro n ⟨⟩

theorem indexWatchExpiry : Statement .indexWatchExpiry := by
  rintro n ⟨⟩

theorem jamTimerExpiry : Statement .jamTimerExpiry := by
  rintro n ⟨⟩

theorem reversePhaseExpiry : Statement .reversePhaseExpiry := by
  rintro n ⟨⟩

theorem forwardPhaseExpiry : Statement .forwardPhaseExpiry := by
  rintro n ⟨⟩

theorem eraseCompletion : Statement .eraseCompletion := by
  rintro n ⟨⟩

theorem rowCompletion : Statement .rowCompletion := by
  rintro n ⟨⟩

theorem supplyLoss : Statement .supplyLoss := by
  rintro n ⟨⟩

end Sys2Proof.Laws.Catalogue
end

