-- ==== Sys2Proof/Laws/PlanRows.lean ====
section
/-! SUPPORT. The laws of the one addressed store, the rows of the plan (R184): what a row read after a write
gives, and that every operation keeps the canonical form. -/

namespace Sys2Proof.Machine

/-- The form said by pairs: the row numbers strictly rise. -/
theorem rowsRising_iff (l : List (Nat × PlanRow)) :
    rowsRising l = true ↔ l.Pairwise fun a b => a.1 < b.1 := by
  induction l with
  | nil => simp [rowsRising]
  | cons a l ih =>
    cases l with
    | nil => simp [rowsRising]
    | cons b l =>
      simp only [rowsRising, Bool.and_eq_true, decide_eq_true_eq, ih]
      constructor
      · rintro ⟨h, hp⟩
        refine List.Pairwise.cons (fun c hc => ?_) hp
        obtain rfl | hc := List.mem_cons.mp hc
        · exact h
        · exact h.trans (List.rel_of_pairwise_cons hp hc)
      · intro hp
        exact ⟨List.rel_of_pairwise_cons hp (by simp), hp.of_cons⟩

theorem mem_insertRow {i : Nat} {row : PlanRow} {l : List (Nat × PlanRow)} {r : Nat × PlanRow}
    (h : r ∈ insertRow i row l) : r = (i, row) ∨ r ∈ l := by
  induction l with
  | nil => simpa [insertRow] using h
  | cons a l ih =>
    unfold insertRow at h
    split at h
    · simpa using h
    · split at h
      · simp only [List.mem_cons] at h ⊢; tauto
      · simp only [List.mem_cons] at h ⊢
        obtain h | h := h
        · exact .inr (.inl h)
        · obtain h | h := ih h
          · exact .inl h
          · exact .inr (.inr h)

/-- Writing a row keeps the canonical form. -/
theorem rowsRising_insertRow (i : Nat) (row : PlanRow) {l : List (Nat × PlanRow)}
    (h : rowsRising l = true) : rowsRising (insertRow i row l) = true := by
  rw [rowsRising_iff] at *
  induction l with
  | nil => simp [insertRow]
  | cons a l ih =>
    unfold insertRow
    split
    · refine h.cons fun c hc => ?_
      obtain rfl | hc := List.mem_cons.mp hc
      · assumption
      · exact Nat.lt_trans ‹_› (List.rel_of_pairwise_cons h hc)
    · split
      · rename_i heq
        subst heq
        exact h.of_cons.cons fun c hc => List.rel_of_pairwise_cons h hc
      · refine (ih h.of_cons).cons fun c hc => ?_
        obtain rfl | hc := mem_insertRow hc
        · show a.1 < i
          omega
        · exact List.rel_of_pairwise_cons h hc

/-- Leaving rows out keeps the canonical form, as a power-on does (R194). -/
theorem rowsRising_filter (p : Nat × PlanRow → Bool) {l : List (Nat × PlanRow)}
    (h : rowsRising l = true) : rowsRising (l.filter p) = true := by
  rw [rowsRising_iff] at *
  exact h.filter p

/-- A row read after it is written. -/
theorem lookupRow_insertRow_same (i : Nat) (row : PlanRow) (l : List (Nat × PlanRow)) :
    lookupRow (insertRow i row l) i = some row := by
  induction l with
  | nil => simp [insertRow, lookupRow]
  | cons a l ih =>
    unfold insertRow
    split
    · simp [lookupRow]
    · split
      · simp [lookupRow]
      · have hne : ¬a.1 = i := by omega
        simpa [lookupRow, hne] using ih

/-- Every other row is as it was. -/
theorem lookupRow_insertRow_other {i j : Nat} (row : PlanRow) (l : List (Nat × PlanRow)) (h : j ≠ i) :
    lookupRow (insertRow i row l) j = lookupRow l j := by
  have hij : ¬i = j := fun e => h e.symm
  induction l with
  | nil => simp [insertRow, lookupRow, hij]
  | cons a l ih =>
    unfold insertRow
    split
    · simp [lookupRow, hij]
    · split
      · rename_i heq
        subst heq
        simp [lookupRow, hij]
      · by_cases ha : a.1 = j
        · simp [lookupRow, ha]
        · simpa [lookupRow, ha] using ih

/-- A write into a BLANK row adds one row. -/
theorem length_insertRow {i : Nat} (row : PlanRow) {l : List (Nat × PlanRow)}
    (h : lookupRow l i = none) : (insertRow i row l).length = l.length + 1 := by
  induction l with
  | nil => rfl
  | cons a l ih =>
    have ha : ¬a.1 = i := by
      intro e
      simp [lookupRow, e] at h
    unfold insertRow
    split
    · rfl
    · split
      · omega
      · simp only [List.length_cons]
        rw [ih (by simpa [lookupRow, ha] using h)]

/-- A new part's plan store is in the canonical form. -/
theorem rowsRising_reset : rowsRising State.reset.plan.rows = true := rfl

end Sys2Proof.Machine
end

