-- ==== Sys2Proof/WellFormed.lean ====
section
/-! DEFINITION. Which commands can be sent at all: the bounds that the operands' types leave open. -/

namespace Sys2Proof

/-- A command is well formed when an arrival brings at least one byte (R197) and every plan row that a
power-on finds failing is a row of the store (R184). -/
def Instr.wellFormed : Instr → Bool
  | .frameReceive _ bytes => !bytes.isEmpty
  | .powerOn failed => failed.rows.all (· < Config.planRows)
  | _ => true

end Sys2Proof
end

