-- ==== Sys2Proof/Tests/Slice0.lean ====
section
/-! SUPPORT. The model's own tests: ill-formed commands are refused, worked figures of the manual come out, and
every statement that has hypotheses has a state and operands that meet them together. -/

namespace Sys2Proof.Tests

open Sys2Proof.Machine

/-! ## The machines of the tests -/

/-- The request of identifier `n` whose fields are `bytes`. -/
def asked (n : Nat) (bytes : List Byte) : Frame := { kind := kindRequest, tag := 1, body := BitVec.ofNat 8 n :: bytes }

/-- `s` with the link record of one port changed. -/
def onLink (p : Port) (l : LinkRec) (s : State) : State :=
  { s with links := s.links.set (portIndex p).val l (portIndex p).isLt }

/-- `s` with a request at the head of the list of port `p`. -/
def asking (p : Port) (n : Nat) (bytes : List Byte) (s : State) : State :=
  onLink p { linkOf s p with requests := [asked n bytes] } s

/-- The bytes of fields on a link. -/
def bytesOf (l : List Field) : List Byte := l.flatMap Field.bytes

/-- The entries of a ring type. -/
def typeOf (l : List TypeEntry) : Vector TypeEntry 7 := vectorOf 7 l { offset := 0, count := 0 }

/-- The constants of the manual's example machine (Values used in examples). -/
def machine : Constants :=
  { excavationArea := 352565, tailVoidArea := 30866, ringWidth := 15000, strokeMax := 32000
    heights := #v[2900, 1500, 1500, -1500, -1500], lineSectors := #v[1, 3, 6, 10, 13, 15], ratedTorque := 900
    ringTypes := (Vector.replicate 8 (typeOf [])).set 0
      (typeOf [⟨2, 3⟩, ⟨4, 3⟩, ⟨6, 3⟩, ⟨9, 3⟩, ⟨11, 3⟩, ⟨13, 3⟩, ⟨0, 2⟩]) }

/-- Permits and condition table brought up to date (R176). -/
def settled (s : State) : State :=
  { s with permits := permitsOf s, conds := s.conds.map (evalEntry s) }

/-- A group in THRUST. -/
def extended : GroupRec := { GroupRec.initial with state := .thrust, lastStroke := 1000, validity := .valid }

/-- A commissioned machine in STANDSTILL, all groups in THRUST. -/
def crew : State :=
  { State.reset with
    now := 100000, store := { Store.initial with constants := some machine }
    groups := Vector.replicate 16 extended, modes := ModeUnit.initial .standstill }

/-- `crew` with group 3 in another condition. -/
def withGroup (g : GroupRec) : State := { crew with groups := crew.groups.set 3 g }

/-- A ready motor in the count. -/
def driving : Motor := { ready := true, membership := .isIn, inShare := true, torque := 100, deviation := none }

/-- A machine that advances, its cutterhead RUNNING. -/
def pushing : State :=
  { crew with
    modes := { ModeUnit.initial .advance with advance := .held }
    chamber :=
      { Chamber.initial with
        status := .good, estimate := 280, lastReport := some 99000, integrator := 7, setpoint := 100
        snapshot := some 220000, gateAllowed := true, beltRef := some 4294967000 }
    cutter :=
      { Cutter.initial with
        run := .running, requested := 20, reference := 20, measured := 20, firstPending := false
        motors := Vector.replicate 8 driving, torqueCeiling := 6120, indexRef := some 40000, revAdvance := 121
        watch := some 40000 } }

/-- `pushing` with another cutterhead. -/
def turned (c : Cutter) : State := { pushing with cutter := c }

/-- A plan row of ring type 0. -/
def plainRow : PlanRow := { ringType := 0, keySector := 3, start := 2, fill := none, profile := none }

/-- The release stack entry of position `p` of the ring under way in `erecting`. -/
def entryOf (p : Fin 7) (x : EntryState) : StackEntry :=
  { position := p, cover := (coversOf machine 0 3)[p], state := x, openedAt := 90000, overtime := false }

/-- A machine that builds ring 1, the positions listed (top first) in their states and their covers held. -/
def erectingWith (entries : List StackEntry) : State :=
  { crew with
    modes := { ModeUnit.initial .build with build := .held }
    stack := { ReleaseStack.initial with entries }
    groups := updateEach crew.groups fun g r =>
      { r with
        holdCount := entries.countP fun e => e.cover.contains g
        state := if entries.any (fun e => e.cover.contains g) then .released else .thrust }
    ring :=
      { RingRec.initial 1 with
        state := .building, row := some plainRow, covers := some (coversOf machine 0 3), queue := [3, 1, 4, 0, 5, 6] } }

/-- The same with position 2 open. -/
def erecting : State := erectingWith [entryOf 2 .opened]

/-- `s` with profile 3 selected. -/
def waiting (s : State) : State := { s with store := { s.store with pendingProfile := some 3 } }

/-- `crew` with every group held once. -/
def allHeld : State := { crew with groups := Vector.replicate 16 { extended with holdCount := 1 } }

/-- `s` in a mode with the two claims. -/
def claiming (m : Mode) (advance build : Claim) (s : State) : State :=
  { s with modes := { ModeUnit.initial m with advance, build } }

/-- `s` with another ring record. -/
def withRing (r : RingRec) (s : State) : State := { s with ring := r }

/-- `s` with another plan store. -/
def withPlan (k : PlanStore) (s : State) : State := { s with plan := k }

/-- The plan of ring 1 written. -/
def planned : PlanStore := { PlanStore.initial with rows := [(0, plainRow)], cursor := 2, written := 1 }

/-- The write of one row, in progress. -/
def writeOfOne : LastCommand := { command := .write, first := 2, rows := 1, written := 0, result := .inProgress }

/-- A dose. -/
def dose (sequence : Nat) : Dose := { sequence, increment := 1, target := 8000, limit := 420 }

/-- `pushing` with the descriptors given on line 3. -/
def grouting (l : List Descriptor) : State :=
  settled { pushing with grout := { Grout.initial with lines := Grout.initial.lines.set 3 { Line.initial with descriptors := l } } }

/-- A commissioned machine that an operator has halted. -/
def haltedCrew : State :=
  { crew with modes := { ModeUnit.initial .halted with haltOutput := true, operatorHalt := true } }

/-- `crew` under a profile that does not allow CONTINUOUS. -/
def apart : State :=
  { crew with
    store := { crew.store with profiles := Vector.replicate 4 { Profile.default with continuousAllowed := false } } }

/-- `pushing` with its cutterhead stopped. -/
def stoppedAt : State := turned { pushing.cutter with run := .stopped, requested := 0, reference := 0, measured := 0 }

/-- `pushing` with line 3 BLOCKED. -/
def blockedLine : State :=
  settled { pushing with
    grout := { Grout.initial with lines := Grout.initial.lines.set 3 { Line.initial with service := .blocked } } }

/-- `pushing` with the descriptors given on line 3, the only line in service. -/
def onlyLine (l : List Descriptor) : State :=
  settled { pushing with
    grout := { Grout.initial with
      lines := (Vector.replicate 6 { Line.initial with service := .blocked }).set 3
        { Line.initial with descriptors := l } } }

/-! ## Steps to witnesses -/

/-- A request is asked when its parts compute to it. -/
theorem asks_of {α : Type} [DecidableEq α] {s : State} {p : Port} {n : Nat} {r : Reader α} {f : Frame} {a : α}
    (h : s.powered = true ∧ headRequest p n s = some f ∧ readWhole r f.body.tail = some a) : Asks s p n r f a :=
  ⟨h.1, h.2.1, h.2.2⟩

/-- The screw is held when its four parts compute to it. -/
theorem screwHeld_of {s : State}
    (h : s.permits = permitsOf s ∧ (s.chamber.status = .lost → s.chamber.setpoint ≤ (activeProfile s).standstillCeiling) ∧
      (standstillLimit s = true → s.chamber.setpoint ≤ (activeProfile s).standstillCeiling) ∧
      s.chamber.gateAllowed = (commissioned s && s.chamber.status ≠ .lost)) : ScrewHeld s :=
  ⟨h.1, h.2.1, h.2.2.1, h.2.2.2⟩

/-- An outcome is a next state. -/
def goesOn (o : Host.Outcome State Fault Refusal) : Bool :=
  match o with
  | .next _ => true
  | _ => false

/-- The state an outcome answers. -/
def nextOf (o : Host.Outcome State Fault Refusal) : State :=
  match o with
  | .next t => t
  | _ => State.reset

theorem next_of {o : Host.Outcome State Fault Refusal} (h : goesOn o = true) : o = .next (nextOf o) := by
  cases o with
  | next t => rfl
  | fault f => cases f
  | refused r => cases h

theorem of_some {α : Type} {o : Option α} {P : α → Prop} [DecidablePred P]
    (h : (o.all fun a => decide (P a)) = true) : ∀ a, o = some a → P a := by
  rintro a rfl
  simpa using h

/-! ## Ill-formed commands (Sys2Proof/WellFormed.lean) -/

theorem test_noBytesIsIllFormed (p : Port) : (Instr.frameReceive p []).wellFormed = false := by cases p <;> rfl

theorem test_rowBeyondTheStoreIsIllFormed : (Instr.powerOn { rows := [2047, 2048] }).wellFormed = false := by decide

theorem test_lastRowIsWellFormed : (Instr.powerOn { rows := [0, 2047] }).wellFormed = true := by decide

/-! ## Figures of the manual -/

/-- No row of the table has bits. -/
theorem test_noWordSpellsACommand : decodeTableWord 8 1 = none := rfl

/-- The check figure of the CRC-16 of R206 (polynomial x¹⁶ + x¹² + x⁵ + 1, register at all ones). -/
theorem test_crcOfDigits : crc16 [49, 50, 51, 52, 53, 54, 55, 56, 57] = 0x29B1 := by
  decide +kernel

/-- The two example columns of R1: covers for the key at sector 3 and at sector 14. -/
theorem test_coversOfTypeZero :
    (coversOf machine 0 3).toList = [[5, 6, 7], [7, 8, 9], [9, 10, 11], [12, 13, 14], [14, 15, 0], [0, 1, 2], [3, 4]] ∧
      (coversOf machine 0 14).toList =
        [[0, 1, 2], [2, 3, 4], [4, 5, 6], [7, 8, 9], [9, 10, 11], [11, 12, 13], [14, 15]] := by
  decide +kernel

/-- Reports A to D of section 2.13. -/
theorem test_reportAdvances :
    reportAdvance [120, 121, 119, 120, 118, 123, 122, 120, 121, 119, 120, 117] = 120 ∧
      reportAdvance [1317, 0, 0, 0, 0, 0, 0, 0, 0, 0, 0] = 120 ∧
      reportAdvance [-444, 0, 0, 0, 0, 0, 0, 0, 0, 0, 0, 0] = -37 := by
  decide +kernel

/-- The first increment of the example machine (section 5.4): shares of 88,739 mL. -/
theorem test_sharesOfFirstIncrement :
    (signedPortions Profile.default.shares 88739).toList = [13311, 13311, 17748, 17747, 13311, 13311] := by
  decide +kernel

/-- The example of R97: 2,700 mL over the lines other than line 3. -/
theorem test_sharesOfPressureLimit :
    (signedPortions #v[150, 150, 200, 0, 150, 150] 2700).toList = [507, 506, 675, 0, 506, 506] := by
  decide +kernel

/-- The table of R120. -/
theorem test_estimates :
    estimateOf [289, 291, 292, 293, 295] = some (292, .good) ∧ estimateOf [289, 291, 292, 293] = some (291, .good) ∧
      estimateOf [289, 291, 293] = some (291, .good) ∧ estimateOf [289, 293] = some (291, .degraded) ∧
      estimateOf [295] = some (295, .degraded) ∧ estimateOf [] = none := by
  decide +kernel

/-- The placement order of the worked case of section 8.7: start position 2. -/
theorem test_placementOrder : placementOrder 2 = [2, 3, 1, 4, 0, 5, 6] := by decide

/-- Machine of section 2.13 before report A: ring 118 BUILDING, position 0 OPEN, accumulator at 180. -/
def beforeReportA : State :=
  let s := erectingWith [entryOf 0 .opened]
  { s with
    modes := { ModeUnit.initial .continuous with advance := .held, build := .held }
    account :=
      { Account.initial with
        accumulator := 180
        prev := vectorOf 16 ([21400, 21380, 21410, 21395, 21420, 2150, 2140, 2160, 21405, 21390, 21415, 21402, 21400,
          21385, 21410, 21395].map fun v => some ⟨v, true⟩) none } }

/-- Report A of section 2.13: group 11 invalid. -/
def reportA : List Byte :=
  bytesOf ([21520, 21501, 21529, 21515, 21538, 2150, 2140, 2160, 21528, 21512, 21535, 0, 21521, 21504, 21530,
    21512].map Field.u16 ++ [.u16 63487])

/-- The machine of section 2.13 after report A. -/
def afterReportA : State := nextOf (exec (.strokeReport .drive) (asking .drive 1 reportA beforeReportA))

/-- Report A: one increment of 881,412 mL and 88,739 mL of grout closes, and 50 units remain; the mean stroke is 21,520
(sections 2.6 and 2.13). -/
theorem test_reportA :
    afterReportA.account.accumulator = 50 ∧ afterReportA.account.thrustMean = some 21520 ∧
      afterReportA.account.increments.map (fun r => [r.number, r.volume, r.grout, r.mass]) =
        [[1, 881412, 88739, 1718]] := by
  decide +kernel

/-- The same report posts thirteen descriptors, with the carries left at 0 (section 5.4). -/
theorem test_reportAPosts :
    (afterReportA.grout.lines.toList.map fun l => (l.carry, l.descriptors.map (·.dose.target))) =
      [(0, [8000, 5311]), (0, [8000, 5311]), (0, [8000, 8000, 1748]), (0, [8000, 8000, 1747]), (0, [8000, 5311]),
        (0, [8000, 5311])] := by
  decide +kernel

/-- The example of R103: DOSE CLOSE(3, 0, 5,300, 421, PRESSURE_LIMIT). -/
theorem test_pressureLimitClose :
    ((nextOf (exec (.doseClose .grout) (asking .grout 22 [3, 0, 0, 0, 20, 180, 1, 165, 1]
        (grouting [⟨dose 0, .taken⟩])))).grout.lines.toList.map (·.carry)) = [507, 506, 675, 0, 506, 506] := by
  decide +kernel

/-- R206, R184, R190: the first ring of a WRITE_NEXT from the cursor 65,536 is not cut to 2 bytes. -/
theorem test_firstRingBeyondTwoBytes :
    ((lastFields (some ⟨.writeNext, 65536, 1, 0, .refused .range⟩)).flatMap Field.bytes).take 10 =
      [1, 2, 0, 0, 0, 0, 0, 1, 0, 0] := by decide +kernel

/-- R206, R144: the speed of CUTTER SPEED, whose range is not stated, takes 8 bytes. -/
theorem test_cutterSpeedBody :
    bodyReads 10 [0, 20] = false ∧ readWhole readWide [0, 0, 0, 0, 0, 0, 1, 44] = some 300 := by decide +kernel

/-- FLAGS CLEAR (identifier 35) as a frame on the line: start marker, length 1, kind 1, tag 7, body 35, then the CRC-16 (R206). -/
theorem test_frameOnTheLine :
    (linkOf (nextOf (exec (.frameReceive .cabin
        ([0xC3, 0, 1, 1, 7, 35] ++ bigEndian 2 (crc16 [0, 1, 1, 7, 35]).toNat)) crew)) .cabin).requests =
      [{ kind := 1, tag := 7, body := [35] }] := by
  decide +kernel

/-- A length of 0 discards the frame (R197). -/
theorem test_emptyBodyIsDropped :
    (linkOf (nextOf (exec (.frameReceive .cabin
        ([0xC3, 0, 0, 1, 7] ++ bigEndian 2 (crc16 [0, 0, 1, 7]).toNat)) crew)) .cabin).requests = [] := by
  decide +kernel

/-! ## Every statement's hypotheses can be met

For each statement with hypotheses, one theorem; for each clause, a state and operands at a boundary of its range. -/

theorem witness_StepRunsFrontCommand :
    ∃ (c : Instr) (rest : List Instr) (s : State), s.pending = c :: rest :=
  ⟨.revolutionIndexPulse 1, [.supplyLoss], { crew with pending := [.revolutionIndexPulse 1, .supplyLoss] }, rfl⟩

theorem witness_EmptyQueueStep :
    (∃ (s : State), s.pending = [] ∧ s.powered = false) ∧
    (∃ (s : State), s.pending = [] ∧ s.powered = true ∧ dueEvents s = []) ∧
    (∃ (s : State), s.pending = [] ∧ s.powered = true ∧ dueEvents s ≠ []) :=
  ⟨⟨{ crew with powered := false }, rfl, rfl⟩,
   ⟨crew, rfl, rfl, by decide +kernel⟩,
   ⟨{ turned { pushing.cutter with ramp := some 99500, requested := 21 } with pending := [] }, rfl, rfl,
     by decide +kernel⟩⟩

theorem witness_WholeMachineFrame :
    (∃ (c : Instr) (s t : State), exec c s = .next t) ∧
    (∃ (c : Instr) (s t : State) (q : Port), exec c s = .next t ∧ touchesLink c q = false) :=
  ⟨⟨.resetInput 1, crew, _, next_of (by decide +kernel)⟩,
   ⟨.frameTimeout .drive, crew, _, .cabin, next_of (by decide +kernel), by decide +kernel⟩⟩

theorem witness_PermitsAndConditionsFollow :
    ∃ (s t : State), DerivedFollow s ∧ step s = .next t :=
  ⟨{ settled pushing with pending := [.linkSilenceExpiry .drive] }, _, ⟨by decide +kernel, by decide +kernel,
     by decide +kernel⟩, next_of (by decide +kernel)⟩

theorem witness_ScrewStaysHeld :
    (∃ (s t : State), ScrewHeld s ∧ step s = .next t) ∧
    (∃ (s t : State), IntegratorBounded s ∧ step s = .next t) :=
  ⟨⟨{ settled pushing with pending := [.estimateLossExpiry] }, _, ⟨by decide +kernel, by decide +kernel,
     by decide +kernel, by decide +kernel⟩, next_of (by decide +kernel)⟩,
   ⟨{ pushing with pending := [.jamTimerExpiry] }, _, ⟨by decide +kernel, of_some (by decide +kernel)⟩,
     next_of (by decide +kernel)⟩⟩

theorem witness_ModeKeepsFollowing :
    ∃ (s t : State), ModeFollows s ∧ step s = .next t :=
  ⟨{ settled pushing with pending := [.resetInput 1] }, _, ⟨by decide +kernel, by decide +kernel, by decide +kernel,
     by decide +kernel, by decide +kernel, by decide +kernel, by decide +kernel⟩, next_of (by decide +kernel)⟩

theorem witness_HoldCountsFollowStack :
    (∃ s t : State, HoldCountsMatch s ∧ step s = .next t) ∧
    (∃ s t : State, ModeFollows s ∧ ReleaseWithinLimit s ∧ step s = .next t) ∧
    (∃ s t : State, PositionsPlaced s ∧ step s = .next t) :=
  ⟨⟨{ erectingWith [entryOf 0 .opening, entryOf 2 .opened] with pending := [.resetInput 1] }, _,
     by unfold HoldCountsMatch; decide +kernel, next_of (by decide +kernel)⟩,
   ⟨{ settled erecting with pending := [.resetInput 1] }, _, ⟨by decide +kernel, by decide +kernel,
     by decide +kernel, by decide +kernel, by decide +kernel, by decide +kernel, by decide +kernel⟩, ⟨by decide +kernel,
     by decide +kernel⟩, next_of (by decide +kernel)⟩,
   ⟨{ erecting with pending := [.resetInput 1] }, _, ⟨by decide +kernel, by decide +kernel, by decide +kernel,
     by decide +kernel, by decide +kernel, by decide +kernel, of_some (by decide +kernel), of_some (by decide +kernel)⟩,
     next_of (by decide +kernel)⟩⟩

theorem witness_GroutIsConserved :
    ∃ (s t : State), GroutConserved s ∧ step s = .next t :=
  ⟨{ { grouting [⟨dose 0, .posted⟩] with account := { Account.initial with totals := { Account.initial.totals with required := ⟨8700, false⟩, injected := ⟨700, false⟩ } } } with pending := [.resetInput 1] },
     _, by unfold GroutConserved; decide +kernel, next_of (by decide +kernel)⟩

theorem witness_PlanStoreStaysSound :
    ∃ (s t : State), PlanSound s ∧ step s = .next t :=
  ⟨{ withPlan { planned with status := .writing, opEnd := some 100004, last := some writeOfOne, running := some writeOfOne, job := some ⟨[plainRow], 2, 100000⟩ } crew with pending := [.rowCompletion] },
     _, ⟨by decide +kernel, by decide +kernel, by decide +kernel, by decide +kernel, of_some (by decide +kernel)⟩,
     next_of (by decide +kernel)⟩

theorem witness_CollectionsStayBounded :
    ∃ (s t : State), CollectionsBounded s ∧ step s = .next t :=
  ⟨{ erecting with pending := [.revolutionIndexPulse 1] }, _, ⟨fun p => by cases p <;> decide +kernel,
     by decide +kernel, by decide +kernel, by decide +kernel, by decide +kernel, by decide +kernel⟩,
     next_of (by decide +kernel)⟩

theorem witness_CutterheadStaysSound :
    ∃ (s t : State), CutterSound s ∧ step s = .next t :=
  ⟨{ pushing with pending := [.resetInput 1] }, _, ⟨by decide +kernel, by decide +kernel, by decide +kernel,
     by decide +kernel⟩, next_of (by decide +kernel)⟩

theorem witness_HaltedAndUncommissionedLastUntil :
    (∃ (c : Instr) (s t : State), exec c s = .next t ∧ (∀ failed, c ≠ .powerOn failed) ∧ s.modes.mode = .halted ∧
      (∀ p, c ≠ .haltClear p)) ∧
    (∃ (c : Instr) (s t : State), exec c s = .next t ∧ (∀ failed, c ≠ .powerOn failed) ∧
      s.modes.mode = .uncommissioned ∧ (∀ p, c ≠ .constantsWrite p)) ∧
    (∃ (c : Instr) (s t : State), exec c s = .next t ∧ (∀ failed, c ≠ .powerOn failed) ∧
      t.modes.mode = .uncommissioned) :=
  ⟨⟨.resetInput 1, haltedCrew, _, next_of (by decide +kernel), fun _ => nofun, by decide +kernel, fun _ => nofun⟩,
   ⟨.resetInput 1, State.reset, _, next_of (by decide +kernel), fun _ => nofun, by decide +kernel, fun _ => nofun⟩,
   ⟨.resetInput 1, State.reset, _, next_of (by decide +kernel), fun _ => nofun, by decide +kernel⟩⟩

/-- The hypotheses of the early refusals of FirstChecksOfRequests. -/
abbrev premisesEarlyRefusal (n : Nat) (c : Instr) (k : PlanCommand) (p : Port) (f : Frame) (code : Code) (s : State) : Prop :=
  (n, c, k) ∈ [(28, .planErase p, .erase), (30, .planWrite p, .write), (31, .planWriteNext p, .writeNext)] ∧
    s.powered = true ∧ headRequest p n s = some f ∧
    (p ∉ rolesOf n ∧ code = .role ∨ p ∈ rolesOf n ∧ bodyReads n f.body.tail = false ∧ code = .format)

theorem witness_FirstChecksOfRequests :
    (∃ (c : Instr) (n : Nat) (p : Port) (f : Frame) (s : State), requestId c = some n ∧ portOf c = some p ∧
      s.powered = true ∧ headRequest p n s = some f ∧ p ∉ rolesOf n ∧ n ∉ [28, 30, 31]) ∧
    (∃ (c : Instr) (n : Nat) (p : Port) (f : Frame) (s : State), requestId c = some n ∧ portOf c = some p ∧
      s.powered = true ∧ headRequest p n s = some f ∧ p ∉ rolesOf n ∧ n ∉ [28, 30, 31]) ∧
    (∃ (c : Instr) (n : Nat) (p : Port) (f : Frame) (s : State), requestId c = some n ∧ portOf c = some p ∧
      s.powered = true ∧ headRequest p n s = some f ∧ p ∈ rolesOf n ∧ bodyReads n f.body.tail = false ∧ n ∉ [28, 30, 31]) ∧
    (∃ (c : Instr) (n : Nat) (p : Port) (f : Frame) (s : State), requestId c = some n ∧ portOf c = some p ∧
      s.powered = true ∧ headRequest p n s = some f ∧ p ∈ rolesOf n ∧ bodyReads n f.body.tail = false ∧ n ∉ [28, 30, 31]) ∧
    (∃ (c : Instr) (n : Nat) (p : Port) (f : Frame) (s : State), requestId c = some n ∧ portOf c = some p ∧
      s.powered = true ∧ headRequest p n s = some f ∧ p ∈ rolesOf n ∧ bodyReads n f.body.tail = true ∧
      commissioned s = false ∧ takenEarly n = false) ∧
    (∃ (c : Instr) (n : Nat) (p : Port) (s : State), requestId c = some n ∧ portOf c = some p ∧ s.powered = true ∧
      headRequest p n s = none) ∧
    (∃ (p : Port) (f : Frame) (rest : List Frame) (s : State), s.powered = true ∧ (linkOf s p).requests = f :: rest ∧
      isRequestFrame f = false) ∧
    (∃ (p : Port) (f : Frame) (rest : List Frame) (s : State), s.powered = true ∧ (linkOf s p).requests = f :: rest ∧
      isRequestFrame f = false) ∧
    (∃ (n : Nat) (c : Instr) (k : PlanCommand) (p : Port) (f : Frame) (code : Code) (s : State),
      premisesEarlyRefusal n c k p f code s) ∧
    (∃ (n : Nat) (c : Instr) (k : PlanCommand) (p : Port) (f : Frame) (code : Code) (s : State),
      premisesEarlyRefusal n c k p f code s) ∧
    (∃ (n : Nat) (c : Instr) (k : PlanCommand) (p : Port) (f : Frame) (code : Code) (s : State),
      premisesEarlyRefusal n c k p f code s) ∧
    (∃ (n : Nat) (c : Instr) (k : PlanCommand) (p : Port) (f : Frame) (code : Code) (s : State),
      premisesEarlyRefusal n c k p f code s) :=
  ⟨⟨.strokeReport .cabin, 1, .cabin, asked 1 [], asking .cabin 1 [] crew, by decide +kernel⟩,
   ⟨.cutterStop .erector, 11, .erector, asked 11 [], asking .erector 11 [] crew, by decide +kernel⟩,
   ⟨.motorReadmit .drive, 13, .drive, asked 13 [], asking .drive 13 [] crew, by decide +kernel⟩,
   ⟨.motorReadmit .drive, 13, .drive, asked 13 [0, 0], asking .drive 13 [0, 0] crew, by decide +kernel⟩,
   ⟨.halt .cabin, 36, .cabin, asked 36 [], asking .cabin 36 [] State.reset, by decide +kernel⟩,
   ⟨.halt .cabin, 36, .cabin, crew, by decide +kernel⟩,
   ⟨.cabin, { kind := kindResponse, tag := 1, body := [36] }, [],
     onLink .cabin { LinkRec.initial with requests := [{ kind := kindResponse, tag := 1, body := [36] }] } crew,
     by decide +kernel⟩,
   ⟨.drive, asked 40 [], [], asking .drive 40 [] crew, by decide +kernel⟩,
   ⟨28, .planErase .drive, .erase, .drive, asked 28 [0, 1], .role, asking .drive 28 [0, 1] crew, by decide +kernel⟩,
   ⟨30, .planWrite .cabin, .write, .cabin, asked 30 [0, 1], .format, asking .cabin 30 [0, 1] crew, by decide +kernel⟩,
   ⟨31, .planWriteNext .cabin, .writeNext, .cabin, asked 31 [], .format, asking .cabin 31 [] crew, by decide +kernel⟩,
   ⟨31, .planWriteNext .spoil, .writeNext, .spoil, asked 31 [0], .role, asking .spoil 31 [0] crew, by decide +kernel⟩⟩

theorem witness_NamesOutOfRange :
    (∃ (s : State) (f : Frame) (m : Nat), commissioned s = true ∧ 8 ≤ m ∧ Asks s .drive 13 readByte f m) ∧
    (∃ (s : State) (f : Frame) (q : Nat), commissioned s = true ∧ 7 ≤ q ∧ Asks s .erector 17 readByte f q) ∧
    (∃ (s : State) (f : Frame) (q : Nat), commissioned s = true ∧ 7 ≤ q ∧ Asks s .erector 18 readByte f q) ∧
    (∃ (s : State) (f : Frame) (q : Nat) (o : CloseOutcome), commissioned s = true ∧ 7 ≤ q ∧
      Asks s .erector 19 readSegmentClose f (q, o)) ∧
    (∃ (s : State) (f : Frame) (l : Nat), commissioned s = true ∧ 6 ≤ l ∧ Asks s .grout 21 readByte f l) ∧
    (∃ (s : State) (f : Frame) (a : DoseCloseArgs), commissioned s = true ∧
      (6 ≤ a.line ∨ 100000 < a.actual ∨ 2000 < a.peak) ∧ Asks s .grout 22 readDoseClose f a) ∧
    (∃ (s : State) (f : Frame) (a : DoseCloseArgs), commissioned s = true ∧
      (6 ≤ a.line ∨ 100000 < a.actual ∨ 2000 < a.peak) ∧ Asks s .grout 22 readDoseClose f a) ∧
    (∃ (s : State) (f : Frame) (a : DoseCloseArgs), commissioned s = true ∧
      (6 ≤ a.line ∨ 100000 < a.actual ∨ 2000 < a.peak) ∧ Asks s .grout 22 readDoseClose f a) ∧
    (∃ (s : State) (f : Frame) (a : LineStateArgs), commissioned s = true ∧ 6 ≤ a.line ∧
      Asks s .grout 23 readLineState f a) :=
  ⟨⟨asking .drive 13 [8] crew, asked 13 [8], 8, by decide +kernel, by decide +kernel, asks_of (by decide +kernel)⟩,
   ⟨asking .erector 17 [7] crew, asked 17 [7], 7, by decide +kernel, by decide +kernel, asks_of (by decide +kernel)⟩,
   ⟨asking .erector 18 [7] crew, asked 18 [7], 7, by decide +kernel, by decide +kernel, asks_of (by decide +kernel)⟩,
   ⟨asking .erector 19 [7, 1] crew, asked 19 [7, 1], 7, .notSet, by decide +kernel, by decide +kernel,
     asks_of (by decide +kernel)⟩,
   ⟨asking .grout 21 [6] crew, asked 21 [6], 6, by decide +kernel, by decide +kernel, asks_of (by decide +kernel)⟩,
   ⟨asking .grout 22 [6, 0, 0, 0, 0, 1, 0, 0, 0] crew, asked 22 [6, 0, 0, 0, 0, 1, 0, 0, 0], ⟨6, 0, 1, 0, .full⟩,
     by decide +kernel, by decide +kernel, asks_of (by decide +kernel)⟩,
   ⟨asking .grout 22 [5, 0, 0, 1, 134, 161, 0, 0, 0] crew, asked 22 [5, 0, 0, 1, 134, 161, 0, 0, 0], ⟨5, 0, 100001, 0,
     .full⟩, by decide +kernel, by decide +kernel, asks_of (by decide +kernel)⟩,
   ⟨asking .grout 22 [5, 0, 0, 1, 134, 160, 7, 209, 0] crew, asked 22 [5, 0, 0, 1, 134, 160, 7, 209, 0], ⟨5, 0,
     100000, 2001, .full⟩, by decide +kernel, by decide +kernel, asks_of (by decide +kernel)⟩,
   ⟨asking .grout 23 [6, 0, 0] crew, asked 23 [6, 0, 0], ⟨6, .inService, .full⟩, by decide +kernel, by decide +kernel,
     asks_of (by decide +kernel)⟩⟩

theorem witness_FrameArrives :
    (∃ (s : State) (p : Port) (f : Frame), s.powered = true ∧ (linkOf s p).rx = [] ∧ 1 ≤ f.body.length ∧
      f.body.length ≤ 1024 ∧ (linkOf s p).active = true) ∧
    (∃ (s : State) (p : Port) (f : Frame), s.powered = true ∧ (linkOf s p).rx = [] ∧ 1 ≤ f.body.length ∧
      f.body.length ≤ 1024 ∧ (linkOf s p).active = false ∧ (linkOf s p).requests.length < 8) ∧
    (∃ (s : State) (p : Port) (f : Frame), s.powered = true ∧ (linkOf s p).rx = [] ∧ 1 ≤ f.body.length ∧
      f.body.length ≤ 1024 ∧ (linkOf s p).active = false ∧ 8 ≤ (linkOf s p).requests.length) ∧
    (∃ (s : State) (f : Frame), s.powered = true ∧
      linkOf s .drive = { linkOf s .drive with active := false, rx := [] } ∧ (linkOf s .drive).requests = [] ∧
      s.held[portIndex .drive] = none ∧ 1 ≤ f.body.length ∧ f.body.length ≤ 1024 ∧ f.isRequest 39 = true ∧
      (linkOf s .drive).ever = true ∧ outstandingOrders s ≠ []) :=
  ⟨⟨onLink .drive { LinkRec.initial with active := true, ever := true } crew, .drive, asked 7 [], by decide +kernel⟩,
   ⟨crew, .cabin, { kind := 9, tag := 0, body := List.replicate 1024 195 }, by decide +kernel⟩,
   ⟨onLink .drive { LinkRec.initial with ever := true, requests := List.replicate 8 (asked 7 []) } crew, .drive,
     asked 7 [], by decide +kernel⟩,
   ⟨onLink .drive { LinkRec.initial with ever := true } (withGroup { extended with state := .retracting }),
     asked 39 [1], by decide +kernel⟩⟩

theorem witness_FrameTimesOut :
    (∃ (s : State) (p : Port) (at_ : Nat) (rest : List (Byte × Nat)), s.powered = true ∧
      (linkOf s p).rx = (startMarker, at_) :: rest ∧ (∀ b ∈ rest, b.1 ≠ startMarker) ∧ (∀ h l tail,
      rest = h :: l :: tail → tail.length < h.1.toNat * 256 + l.1.toNat + 4) ∧ at_ + 20 < s.now) ∧
    (∃ (s : State) (p : Port) (at_ : Nat) (rest : List (Byte × Nat)), s.powered = true ∧
      (linkOf s p).rx = (startMarker, at_) :: rest ∧ (∀ b ∈ rest, b.1 ≠ startMarker) ∧ (∀ h l tail,
      rest = h :: l :: tail → tail.length < h.1.toNat * 256 + l.1.toNat + 4) ∧ at_ + 20 < s.now) :=
  ⟨⟨onLink .drive { LinkRec.initial with rx := [(startMarker, 99979)] } crew, .drive, 99979, [], by decide +kernel,
     by decide +kernel, by decide +kernel, by rintro h l tail ⟨⟩, by decide +kernel⟩,
   ⟨onLink .drive { LinkRec.initial with rx := [(startMarker, 99979), (0, 99979), (1, 99979), (1, 99979), (1, 99979), (36, 99979), (0, 99979)] } crew,
     .drive, 99979, [(0, 99979), (1, 99979), (1, 99979), (1, 99979), (36, 99979), (0, 99979)], by decide +kernel,
     by decide +kernel, by decide +kernel, by rintro h l tail ⟨⟩; decide, by decide +kernel⟩⟩

theorem witness_LinkGoesSilent :
    (∃ (s : State) (at_ : Nat), s.powered = true ∧ (linkOf s .drive).active = true ∧
      (linkOf s .drive).lastFrame = some at_ ∧ at_ + 1000 ≤ s.now ∧ commissioned s = true ∧ s.modes.mode ≠ .halted ∧
      ∃ n, s.store.pendingProfile = some n ∧ heldGroups s ≤ s.store.profiles[n].releaseBuild) ∧
    (∃ (s : State) (at_ : Nat), s.powered = true ∧ (linkOf s .drive).active = true ∧
      (linkOf s .drive).lastFrame = some at_ ∧ at_ + 1000 ≤ s.now ∧ commissioned s = true ∧ s.modes.mode ≠ .halted ∧
      ∃ n, s.store.pendingProfile = some n ∧ s.store.profiles[n].releaseBuild < heldGroups s) ∧
    (∃ (s : State) (at_ : Nat), s.powered = true ∧ (linkOf s .drive).active = true ∧
      (linkOf s .drive).lastFrame = some at_ ∧ at_ + 1000 ≤ s.now ∧ s.modes.mode = .halted) ∧
    (∃ (s : State) (p : Port) (at_ : Nat), s.powered = true ∧ (linkOf s p).active = true ∧
      (linkOf s p).lastFrame = some at_ ∧ at_ + 1000 ≤ s.now ∧ p ≠ .drive) :=
  let l : LinkRec := { LinkRec.initial with active := true, ever := true, lastFrame := some 99000 }
  ⟨⟨onLink .drive l (waiting pushing), 99000, by decide +kernel, by decide +kernel, by decide +kernel,
     by decide +kernel, by decide +kernel, by decide +kernel, 3, by decide +kernel⟩,
   ⟨onLink .drive l (waiting allHeld), 99000, by decide +kernel, by decide +kernel, by decide +kernel,
     by decide +kernel, by decide +kernel, by decide +kernel, 3, by decide +kernel⟩,
   ⟨onLink .drive l haltedCrew, 99000, by decide +kernel⟩,
   ⟨onLink .cabin l crew, .cabin, 99000, by decide +kernel⟩⟩

theorem witness_SupplyComesAndGoes :
    ∃ (c : Instr) (s : State), s.powered = false ∧ (∀ failed, c ≠ .powerOn failed) :=
  ⟨.resetInput 1, { crew with powered := false }, by decide +kernel, fun _ => nofun⟩

theorem witness_WarmResetOfBlocks :
    (∃ (s : State) (i : Instr), ((i = .warmReset .cabin ∧ ∃ f, Asks s .cabin 38 readNothing f ()) ∨
        (s.powered = true ∧ ∃ ms, 1 ≤ ms ∧ i = .resetInput ms)) ∧
      ∀ n, s.store.pendingProfile = some n → s.store.profiles[n].releaseBuild < heldGroups s) ∧
    (∃ (s : State) (i : Instr), ((i = .warmReset .cabin ∧ ∃ f, Asks s .cabin 38 readNothing f ()) ∨
        (s.powered = true ∧ ∃ ms, 1 ≤ ms ∧ i = .resetInput ms)) ∧
      ∀ n, s.store.pendingProfile = some n → s.store.profiles[n].releaseBuild < heldGroups s) ∧
    (∃ (s : State) (i : Instr) (n : Fin 4) (p : Profile), ((i = .warmReset .cabin ∧ ∃ f, Asks s .cabin 38 readNothing f ()) ∨
        (s.powered = true ∧ ∃ ms, 1 ≤ ms ∧ i = .resetInput ms)) ∧
      s.store.pendingProfile = some n ∧ p = s.store.profiles[n] ∧ heldGroups s ≤ p.releaseBuild) ∧
    (∃ (s : State) (i : Instr) (n : Fin 4) (p : Profile), ((i = .warmReset .cabin ∧ ∃ f, Asks s .cabin 38 readNothing f ()) ∨
        (s.powered = true ∧ ∃ ms, 1 ≤ ms ∧ i = .resetInput ms)) ∧
      s.store.pendingProfile = some n ∧ p = s.store.profiles[n] ∧ heldGroups s ≤ p.releaseBuild) ∧
    (∃ (s : State) (f : Frame), Asks s .cabin 38 readNothing f ()) ∧
    (∃ s : State, s.powered = true) :=
  ⟨⟨erecting, .resetInput 1, .inr ⟨by decide +kernel, 1, by decide, rfl⟩, of_some (by decide +kernel)⟩,
   ⟨asking .cabin 38 [] (waiting (erectingWith [entryOf 0 .opened, entryOf 2 .opened])), .warmReset .cabin,
     .inl ⟨rfl, asked 38 [], asks_of (by decide +kernel)⟩, of_some (by decide +kernel)⟩,
   ⟨waiting erecting, .resetInput 1, 3, Profile.default, .inr ⟨by decide +kernel, 1, by decide, rfl⟩, by decide +kernel⟩,
   ⟨asking .cabin 38 [] (waiting pushing), .warmReset .cabin, 3, Profile.default,
     .inl ⟨rfl, asked 38 [], asks_of (by decide +kernel)⟩, by decide +kernel⟩,
   ⟨asking .cabin 38 [] erecting, asked 38 [], asks_of (by decide +kernel)⟩,
   ⟨crew, by decide +kernel⟩⟩

theorem witness_ConstantsWritten :
    (∃ (s : State) (f : Frame) (c : Constants), Asks s .cabin 25 readConstants f c ∧ constantsWritable s = false) ∧
    (∃ (s : State) (f : Frame) (c : Constants), Asks s .cabin 25 readConstants f c ∧ constantsWritable s = true ∧
      constantsValid c = false) ∧
    (∃ (s : State) (f : Frame) (c : Constants), Asks s .cabin 25 readConstants f c ∧ constantsWritable s = true ∧
      constantsValid c = true ∧ s.modes.mode = .standstill) ∧
    (∃ (s : State) (f : Frame) (c : Constants), Asks s .cabin 25 readConstants f c ∧ constantsWritable s = true ∧
      constantsValid c = true ∧ s.modes.mode = .uncommissioned ∧ s.modes.advance = .absent ∧ s.modes.build = .absent) :=
  ⟨⟨asking .cabin 25 (bytesOf (constantsFields machine)) pushing, asked 25 (bytesOf (constantsFields machine)),
     machine, asks_of (by decide +kernel), by decide +kernel⟩,
   ⟨asking .cabin 25 (bytesOf (constantsFields { machine with ringWidth := 4999 })) crew,
     asked 25 (bytesOf (constantsFields { machine with ringWidth := 4999 })), { machine with ringWidth := 4999 },
     asks_of (by decide +kernel), by decide +kernel⟩,
   ⟨asking .cabin 25 (bytesOf (constantsFields machine)) crew, asked 25 (bytesOf (constantsFields machine)), machine,
     asks_of (by decide +kernel), by decide +kernel⟩,
   ⟨asking .cabin 25 (bytesOf (constantsFields machine)) State.reset, asked 25 (bytesOf (constantsFields machine)),
     machine, asks_of (by decide +kernel), by decide +kernel⟩⟩

theorem witness_ProfilesWrittenAndSelected :
    (∃ (s : State) (f : Frame) (n : Nat), Asks s .cabin 27 readByte f n ∧ 4 ≤ n) ∧
    (∃ (s : State) (f : Frame) (n : Nat) (q : Profile), Asks s .cabin 26 readProfileWrite f (n, q) ∧
      (n = s.store.active.val ∨ s.store.pendingProfile.map (·.val) = some n)) ∧
    (∃ (s : State) (f : Frame) (n : Nat) (q : Profile), Asks s .cabin 26 readProfileWrite f (n, q) ∧
      (n = s.store.active.val ∨ s.store.pendingProfile.map (·.val) = some n)) ∧
    (∃ (s : State) (f : Frame) (n : Nat) (q : Profile), Asks s .cabin 26 readProfileWrite f (n, q) ∧
      n ≠ s.store.active.val ∧ s.store.pendingProfile.map (·.val) ≠ some n ∧ (4 ≤ n ∨ profileValid q = false)) ∧
    (∃ (s : State) (f : Frame) (n : Nat) (q : Profile), Asks s .cabin 26 readProfileWrite f (n, q) ∧
      n ≠ s.store.active.val ∧ s.store.pendingProfile.map (·.val) ≠ some n ∧ (4 ≤ n ∨ profileValid q = false)) ∧
    (∃ (s : State) (f : Frame) (n : Nat) (q : Profile) (_ : n < 4), Asks s .cabin 26 readProfileWrite f (n, q) ∧
      n ≠ s.store.active.val ∧ s.store.pendingProfile.map (·.val) ≠ some n ∧ profileValid q = true) ∧
    (∃ (s : State) (f : Frame) (n : Fin 4), Asks s .cabin 27 readByte f n.val ∧ n = s.store.active) ∧
    (∃ (s : State) (f : Frame) (n : Fin 4), Asks s .cabin 27 readByte f n.val ∧ n ≠ s.store.active ∧
      (stands s.modes.mode = false ∨ releaseLimitIn s.store.profiles[n] s.modes.mode < heldGroups s)) ∧
    (∃ (s : State) (f : Frame) (n : Fin 4), Asks s .cabin 27 readByte f n.val ∧ n ≠ s.store.active ∧
      (stands s.modes.mode = false ∨ releaseLimitIn s.store.profiles[n] s.modes.mode < heldGroups s)) ∧
    (∃ (s : State) (f : Frame) (n : Fin 4), Asks s .cabin 27 readByte f n.val ∧ n ≠ s.store.active ∧
      stands s.modes.mode = true ∧ heldGroups s ≤ releaseLimitIn s.store.profiles[n] s.modes.mode ∧
      s.chamber.status = .lost) ∧
    (∃ (s : State) (f : Frame) (n : Fin 4), Asks s .cabin 27 readByte f n.val ∧ n ≠ s.store.active ∧
      stands s.modes.mode = true ∧ heldGroups s ≤ releaseLimitIn s.store.profiles[n] s.modes.mode ∧
      s.chamber.status ≠ .lost ∧ s.cutter.run = .stopped) ∧
    (∃ (s : State) (f : Frame) (n : Fin 4), Asks s .cabin 27 readByte f n.val ∧ n ≠ s.store.active ∧
      stands s.modes.mode = true ∧ heldGroups s ≤ releaseLimitIn s.store.profiles[n] s.modes.mode ∧
      s.chamber.status ≠ .lost ∧ s.cutter.run = .running) :=
  ⟨⟨asking .cabin 27 [4] crew, asked 27 [4], 4, asks_of (by decide +kernel), by decide⟩,
   ⟨asking .cabin 26 (0 :: bytesOf (profileFields Profile.default)) crew,
     asked 26 (0 :: bytesOf (profileFields Profile.default)), 0, Profile.default, asks_of (by decide +kernel),
     by decide +kernel⟩,
   ⟨asking .cabin 26 (1 :: bytesOf (profileFields Profile.default)) { crew with store := { crew.store with pendingProfile := some 1 } },
     asked 26 (1 :: bytesOf (profileFields Profile.default)), 1, Profile.default, asks_of (by decide +kernel),
     by decide +kernel⟩,
   ⟨asking .cabin 26 (4 :: bytesOf (profileFields Profile.default)) crew,
     asked 26 (4 :: bytesOf (profileFields Profile.default)), 4, Profile.default, asks_of (by decide +kernel),
     by decide +kernel⟩,
   ⟨asking .cabin 26 (3 :: bytesOf (profileFields { Profile.default with density := 1199 })) crew,
     asked 26 (3 :: bytesOf (profileFields { Profile.default with density := 1199 })), 3,
     { Profile.default with density := 1199 }, asks_of (by decide +kernel), by decide +kernel⟩,
   ⟨asking .cabin 26 (3 :: bytesOf (profileFields Profile.default)) crew,
     asked 26 (3 :: bytesOf (profileFields Profile.default)), 3, Profile.default, by decide,
     asks_of (by decide +kernel), by decide +kernel⟩,
   ⟨asking .cabin 27 [0] crew, asked 27 [0], 0, asks_of (by decide +kernel), by decide +kernel⟩,
   ⟨asking .cabin 27 [1] pushing, asked 27 [1], 1, asks_of (by decide +kernel), by decide +kernel⟩,
   ⟨asking .cabin 27 [1] { erectingWith [entryOf 0 .opened, entryOf 2 .opened] with modes := ModeUnit.initial .standstill },
     asked 27 [1], 1, asks_of (by decide +kernel), by decide +kernel⟩,
   ⟨asking .cabin 27 [3] { erecting with modes := ModeUnit.initial .standstill }, asked 27 [3], 3,
     asks_of (by decide +kernel), by decide +kernel⟩,
   ⟨asking .cabin 27 [3] (claiming .standstill .absent .absent stoppedAt), asked 27 [3], 3,
     asks_of (by decide +kernel), by decide +kernel⟩,
   ⟨asking .cabin 27 [3] (claiming .standstill .absent .absent pushing), asked 27 [3], 3,
     asks_of (by decide +kernel), by decide +kernel⟩⟩

theorem witness_ReportAdvanceIsRoundedMean :
    (∃ (deltas : List Int), deltas ≠ []) ∧
    (∃ (deltas : List Int), deltas ≠ [] ∧
      2 * (reportAdvance deltas * deltas.length - deltas.sum).natAbs = deltas.length) ∧
    (∃ (deltas : List Int), deltas ≠ [] ∧
      2 * (reportAdvance deltas * deltas.length - deltas.sum).natAbs = deltas.length) :=
  ⟨⟨[1, 1, 2], by decide⟩,
   ⟨[1, 0], by decide, by decide +kernel⟩,
   ⟨[-1, 0], by decide, by decide +kernel⟩⟩

theorem witness_StrokeReportCounts :
    (∃ (s : State) (f : Frame) (a : StrokeArgs) (d : Int) (left counted : Nat), Asks s .drive 1 readStrokes f a ∧
      commissioned s = true ∧ d = reportAdvance (contributions s a) ∧ left = d.toNat - s.account.residue ∧
      (counted = (if s.modes.mode = .advance ∨ s.modes.mode = .continuous then left else 0)) ∧
      s.account.accumulator + counted < (activeProfile s).incrementLength) ∧
    (∃ (s : State) (f : Frame) (a : StrokeArgs) (d : Int) (left counted : Nat), Asks s .drive 1 readStrokes f a ∧
      commissioned s = true ∧ d = reportAdvance (contributions s a) ∧ left = d.toNat - s.account.residue ∧
      (counted = (if s.modes.mode = .advance ∨ s.modes.mode = .continuous then left else 0)) ∧
      s.account.accumulator + counted < (activeProfile s).incrementLength) :=
  ⟨⟨asking .drive 1 (bytesOf ((List.replicate 16 (Field.u16 1100)) ++ [.u16 65535]))
     ({ pushing with account := { Account.initial with prev := (Vector.replicate 16 (some ⟨1000, true⟩)), accumulator := 149 } }),
     asked 1 (bytesOf ((List.replicate 16 (Field.u16 1100)) ++ [.u16 65535])), ⟨Vector.replicate 16 1100,
     Vector.replicate 16 true⟩, _, _, _, asks_of (by decide +kernel), by decide +kernel, rfl, rfl, rfl,
     by decide +kernel⟩,
   ⟨asking .drive 1 (bytesOf ((List.replicate 16 (Field.u16 1100)) ++ [.u16 65535]))
     ({ crew with account := { Account.initial with prev := (Vector.replicate 16 (some ⟨1000, true⟩)), accumulator := 180, residue := 37 } }),
     asked 1 (bytesOf ((List.replicate 16 (Field.u16 1100)) ++ [.u16 65535])), ⟨Vector.replicate 16 1100,
     Vector.replicate 16 true⟩, _, _, _, asks_of (by decide +kernel), by decide +kernel, rfl, rfl, rfl,
     by decide +kernel⟩⟩

/-- `pushing` with the strokes of `asked 1` at 100 more than the previous ones, and the accumulator given. -/
def closingSoon (accumulator : Nat) : State :=
  { pushing with
    account := { Account.initial with prev := (Vector.replicate 16 (some ⟨1000, true⟩)), accumulator := accumulator } }

/-- `s` in CONTINUOUS, with profiles 1 to 3 not allowing it. -/
def together (s : State) : State :=
  { s with
    modes := { ModeUnit.initial .continuous with advance := .held, build := .held }
    store :=
      { s.store with
        profiles := (Vector.replicate 4 { Profile.default with continuousAllowed := false }).set 0 Profile.default } }

/-- The hypotheses of the first part of StrokeReportCloses. -/
abbrev premisesOfClosure (s : State) (f : Frame) (a : StrokeArgs) (p : Profile) (d : Int)
    (counted len v w x m inst : Nat) (base : Option Nat) (shares : Vector Nat 6) : Prop :=
  Asks s .drive 1 readStrokes f a ∧ commissioned s = true ∧ s.account.counter ≤ 4294967295 ∧
    (∀ n, s.store.pendingProfile = some n → releaseLimitIn s.store.profiles[n] s.modes.mode < heldGroups s) ∧
    (s.modes.mode = .advance ∨ s.modes.mode = .continuous) ∧ p = activeProfile s ∧ 1000 ≤ p.maxDose ∧
    d = reportAdvance (contributions s a) ∧ counted = d.toNat - s.account.residue ∧ len = p.incrementLength ∧ 0 < len ∧
    len ≤ s.account.accumulator + counted ∧ s.account.accumulator + counted < 2 * len ∧
    v = ((constantsOf s).excavationArea * len + s.account.remVolume) / 100 ∧
    w = ((constantsOf s).tailVoidArea * len + s.account.remTail) / 100 ∧
    x = (w * fillFactor s + s.account.remGrout) / 1000 ∧ m = (v * p.density + s.account.remMass) / 1000000 ∧
    (base, inst) =
      (match s.account.increments.getLast? with
        | none => (none, len)
        | some r =>
          if r.time < s.now then (some r.time, len)
          else (s.account.speedBase, s.account.instantLength + len)) ∧
    shares = Vector.ofFn (fun i => if s.grout.lines[i].service = .inService then p.shares[i] else 0)

/-- The hypotheses of the second part of StrokeReportCloses. -/
abbrev premisesOfSwitch (s : State) (f : Frame) (a : StrokeArgs) (n : Fin 4) (p q : Profile)
    (counted len v w : Nat) : Prop :=
  Asks s .drive 1 readStrokes f a ∧ commissioned s = true ∧ s.store.pendingProfile = some n ∧
    (s.modes.mode = .advance ∨ s.modes.mode = .continuous) ∧ p = activeProfile s ∧ q = s.store.profiles[n] ∧
    heldGroups s ≤ releaseLimitIn q s.modes.mode ∧
    counted = (reportAdvance (contributions s a)).toNat - s.account.residue ∧ len = p.incrementLength ∧ 0 < len ∧
    len ≤ s.account.accumulator + counted ∧ s.account.accumulator + counted - len < q.incrementLength ∧
    v = ((constantsOf s).excavationArea * len + s.account.remVolume) / 100 ∧
    w = ((constantsOf s).tailVoidArea * len + s.account.remTail) / 100

theorem witness_StrokeReportCloses :
    (∃ (s : State) (f : Frame) (a : StrokeArgs) (p : Profile) (d : Int) (counted len v w x m inst : Nat)
      (base : Option Nat) (shares : Vector Nat 6), premisesOfClosure s f a p d counted len v w x m inst base shares) ∧
    (∃ (s : State) (f : Frame) (a : StrokeArgs) (p : Profile) (d : Int) (counted len v w x m inst : Nat)
      (base : Option Nat) (shares : Vector Nat 6), premisesOfClosure s f a p d counted len v w x m inst base shares) ∧
    (∃ (s : State) (f : Frame) (a : StrokeArgs) (p : Profile) (d : Int) (counted len v w x m inst : Nat)
      (base : Option Nat) (shares : Vector Nat 6), premisesOfClosure s f a p d counted len v w x m inst base shares ∧
      sumNat shares = 0) ∧
    (∃ (s : State) (f : Frame) (a : StrokeArgs) (n : Fin 4) (p q : Profile) (counted len v w : Nat),
      premisesOfSwitch s f a n p q counted len v w) ∧
    (∃ (s : State) (f : Frame) (a : StrokeArgs) (n : Fin 4) (p q : Profile) (counted len v w : Nat),
      premisesOfSwitch s f a n p q counted len v w ∧ s.modes.mode = .continuous ∧ q.continuousAllowed = false) :=
  ⟨⟨asking .drive 1 (bytesOf ((List.replicate 16 (Field.u16 1100)) ++ [.u16 65535])) (closingSoon 150),
     asked 1 (bytesOf ((List.replicate 16 (Field.u16 1100)) ++ [.u16 65535])),
     ⟨Vector.replicate 16 1100, Vector.replicate 16 true⟩, _, _, _, _, _, _, _, _, _, _, _, asks_of (by decide +kernel), by decide +kernel,
     by decide +kernel, of_some (by decide +kernel), by decide +kernel, rfl, by decide +kernel, rfl, rfl, rfl,
     by decide +kernel, by decide +kernel, by decide +kernel, rfl, rfl, rfl, rfl, rfl, rfl⟩,
   ⟨asking .drive 1 (bytesOf ((List.replicate 16 (Field.u16 1100)) ++ [.u16 65535])) (waiting { closingSoon 399 with groups := Vector.replicate 16 { extended with holdCount := 1 } }),
     asked 1 (bytesOf ((List.replicate 16 (Field.u16 1100)) ++ [.u16 65535])),
     ⟨Vector.replicate 16 1100, Vector.replicate 16 true⟩, _, _, _, _, _, _, _, _, _, _, _, asks_of (by decide +kernel), by decide +kernel,
     by decide +kernel, of_some (by decide +kernel), by decide +kernel, rfl, by decide +kernel, rfl, rfl, rfl,
     by decide +kernel, by decide +kernel, by decide +kernel, rfl, rfl, rfl, rfl, rfl, rfl⟩,
   ⟨asking .drive 1 (bytesOf ((List.replicate 16 (Field.u16 1100)) ++ [.u16 65535])) ({ closingSoon 150 with grout := { Grout.initial with lines := Vector.replicate 6 { Line.initial with service := .blocked } } }),
     asked 1 (bytesOf ((List.replicate 16 (Field.u16 1100)) ++ [.u16 65535])),
     ⟨Vector.replicate 16 1100, Vector.replicate 16 true⟩, _, _, _, _, _, _, _, _, _, _, _, ⟨asks_of (by decide +kernel), by decide +kernel,
     by decide +kernel, of_some (by decide +kernel), by decide +kernel, rfl, by decide +kernel, rfl, rfl, rfl,
     by decide +kernel, by decide +kernel, by decide +kernel, rfl, rfl, rfl, rfl, rfl, rfl⟩,
     by decide +kernel⟩,
   ⟨asking .drive 1 (bytesOf ((List.replicate 16 (Field.u16 1100)) ++ [.u16 65535])) (waiting (closingSoon 399)),
     asked 1 (bytesOf ((List.replicate 16 (Field.u16 1100)) ++ [.u16 65535])),
     ⟨Vector.replicate 16 1100, Vector.replicate 16 true⟩, 3, _, _, _, _, _, _, asks_of (by decide +kernel), by decide +kernel, rfl, by decide +kernel,
     rfl, rfl, by decide +kernel, rfl, rfl, by decide +kernel, by decide +kernel, by decide +kernel, rfl, rfl⟩,
   ⟨asking .drive 1 (bytesOf ((List.replicate 16 (Field.u16 1100)) ++ [.u16 65535])) (waiting (together (closingSoon 150))),
     asked 1 (bytesOf ((List.replicate 16 (Field.u16 1100)) ++ [.u16 65535])),
     ⟨Vector.replicate 16 1100, Vector.replicate 16 true⟩, 3, _, _, _, _, _, _, ⟨asks_of (by decide +kernel), by decide +kernel, rfl, by decide +kernel,
     rfl, rfl, by decide +kernel, rfl, rfl, by decide +kernel, by decide +kernel, by decide +kernel, rfl, rfl⟩, by decide +kernel⟩⟩

theorem witness_RetractDoneReleases :
    (∃ (s : State) (f : Frame) (g : Fin 16), Asks s .drive 3 readConfirmation f (g.val, s.groups[g].transition) ∧
      commissioned s = true ∧ s.groups[g].state = .retracting) ∧
    (∃ (s : State) (f : Frame) (g n : Nat), Asks s .drive 3 readConfirmation f (g, n) ∧ commissioned s = true ∧
      16 ≤ g) ∧
    (∃ (s : State) (f : Frame) (g n : Nat) (h : g < 16), Asks s .drive 3 readConfirmation f (g, n) ∧
      commissioned s = true ∧ (s.groups[g].state ≠ .retracting ∨ s.groups[g].transition ≠ n)) ∧
    (∃ (s : State) (f : Frame) (g n : Nat) (h : g < 16), Asks s .drive 3 readConfirmation f (g, n) ∧
      commissioned s = true ∧ (s.groups[g].state ≠ .retracting ∨ s.groups[g].transition ≠ n)) :=
  ⟨⟨asking .drive 3 [3, 9] (withGroup { extended with state := .retracting, transition := 9, holdCount := 1 }),
     asked 3 [3, 9], 3, asks_of (by decide +kernel), by decide +kernel⟩,
   ⟨asking .drive 3 [16, 9] crew, asked 3 [16, 9], 16, 9, asks_of (by decide +kernel), by decide +kernel⟩,
   ⟨asking .drive 3 [3, 9] (withGroup { extended with state := .released, transition := 9, holdCount := 1 }),
     asked 3 [3, 9], 3, 9, by decide, asks_of (by decide +kernel), by decide +kernel⟩,
   ⟨asking .drive 3 [3, 8] (withGroup { extended with state := .retracting, transition := 9, holdCount := 1 }),
     asked 3 [3, 8], 3, 8, by decide, asks_of (by decide +kernel), by decide +kernel⟩⟩

/-- The hypotheses of the second part of ExtendDoneReturns. -/
abbrev premisesExtendDone (s : State) (f : Frame) (g : Fin 16) (settled : Bool) : Prop :=
  Asks s .drive 4 readConfirmation f (g.val, s.groups[g].transition) ∧ commissioned s = true ∧
    s.groups[g].state = .returning ∧
    settled = decide (∀ h : Fin 16, h ≠ g → s.groups[h].state ≠ .returning ∧ s.groups[h].state ≠ .uncertain)

theorem witness_ExtendDoneReturns :
    (∃ (s : State) (f : Frame) (g n : Nat), Asks s .drive 4 readConfirmation f (g, n) ∧ commissioned s = true ∧
      16 ≤ g) ∧
    (∃ (s : State) (f : Frame) (g n : Nat) (h : g < 16), Asks s .drive 4 readConfirmation f (g, n) ∧
      commissioned s = true ∧ (s.groups[g].state ≠ .returning ∨ s.groups[g].transition ≠ n)) ∧
    (∃ (s : State) (f : Frame) (g : Fin 16) (settled : Bool), premisesExtendDone s f g settled ∧
      s.ring.state = .closing ∧ settled = true ∧ heldGroups s = 0) ∧
    (∃ (s : State) (f : Frame) (g : Fin 16) (settled : Bool), premisesExtendDone s f g settled ∧
      s.ring.state = .aborting ∧ settled = true ∧ s.stack.entries = []) ∧
    (∃ (s : State) (f : Frame) (g : Fin 16) (settled : Bool), premisesExtendDone s f g settled ∧
      s.ring.state = .idle) ∧
    (∃ (s : State) (f : Frame) (g : Fin 16) (settled : Bool), premisesExtendDone s f g settled ∧
      s.ring.state = .closing ∧ settled = false) :=
  let back : GroupRec := { extended with state := .returning, transition := 9 }
  ⟨⟨asking .drive 4 [16, 9] crew, asked 4 [16, 9], 16, 9, asks_of (by decide +kernel), by decide +kernel⟩,
   ⟨asking .drive 4 [3, 8] (withGroup back), asked 4 [3, 8], 3, 8, by decide, asks_of (by decide +kernel),
     by decide +kernel⟩,
   ⟨asking .drive 4 [3, 9] (withRing { RingRec.initial 7 with state := .closing } (withGroup back)), asked 4 [3, 9], 3,
     _, ⟨asks_of (by decide +kernel), by decide +kernel, by decide +kernel, rfl⟩, by decide +kernel⟩,
   ⟨asking .drive 4 [3, 9] (withRing { RingRec.initial 7 with state := .aborting } (withGroup back)), asked 4 [3, 9], 3,
     _, ⟨asks_of (by decide +kernel), by decide +kernel, by decide +kernel, rfl⟩, by decide +kernel⟩,
   ⟨asking .drive 4 [3, 9] (withGroup back), asked 4 [3, 9], 3, _, ⟨asks_of (by decide +kernel), by decide +kernel,
     by decide +kernel, rfl⟩, by decide +kernel⟩,
   ⟨asking .drive 4 [3, 9] (withRing { RingRec.initial 7 with state := .closing } { crew with groups := Vector.replicate 16 back }),
     asked 4 [3, 9], 3, _, ⟨asks_of (by decide +kernel), by decide +kernel, by decide +kernel, rfl⟩, by decide +kernel⟩⟩

theorem witness_GroupFaultLocksOut :
    (∃ (s : State) (f : Frame) (g : Nat), Asks s .drive 5 readByte f g ∧ commissioned s = true ∧ 16 ≤ g) ∧
    (∃ (s : State) (f : Frame) (g : Fin 16), Asks s .drive 5 readByte f g.val ∧ commissioned s = true ∧
      s.groups[g].state = .lockedOut) ∧
    (∃ (s : State) (f : Frame) (g : Fin 16), Asks s .drive 5 readByte f g.val ∧ commissioned s = true ∧
      s.groups[g].state ≠ .lockedOut) ∧
    (∃ (s : State) (f : Frame) (g : Fin 16), Asks s .drive 5 readByte f g.val ∧ commissioned s = true ∧
      s.groups[g].state = .uncertain ∧ s.ring.state = .closing ∧ heldGroups s = 0 ∧
      ∀ h : Fin 16, h ≠ g → s.groups[h].state ≠ .returning ∧ s.groups[h].state ≠ .uncertain) ∧
    (∃ (s : State) (f : Frame) (g : Fin 16), Asks s .drive 5 readByte f g.val ∧ commissioned s = true ∧
      s.groups[g].state = .returning ∧ s.ring.state = .aborting ∧ s.stack.entries = [] ∧
      ∀ h : Fin 16, h ≠ g → s.groups[h].state ≠ .returning ∧ s.groups[h].state ≠ .uncertain) :=
  ⟨⟨asking .drive 5 [16] crew, asked 5 [16], 16, asks_of (by decide +kernel), by decide +kernel⟩,
   ⟨asking .drive 5 [3] (withGroup { extended with state := .lockedOut, transition := 9, holdCount := 0 }),
     asked 5 [3], 3, asks_of (by decide +kernel), by decide +kernel⟩,
   ⟨asking .drive 5 [15] crew, asked 5 [15], 15, asks_of (by decide +kernel), by decide +kernel⟩,
   ⟨asking .drive 5 [3] (withRing { RingRec.initial 7 with state := .closing } (withGroup { extended with state := .uncertain })),
     asked 5 [3], 3, asks_of (by decide +kernel), by decide +kernel⟩,
   ⟨asking .drive 5 [3] (withRing { RingRec.initial 7 with state := .aborting } (withGroup { extended with state := .returning })),
     asked 5 [3], 3, asks_of (by decide +kernel), by decide +kernel⟩⟩

/-- The hypotheses of the last part of GroupStateResolves. -/
abbrev premisesGroupState (s : State) (f : Frame) (g : Fin 16) (x : GroupPosition) (last closes completes : Bool) : Prop :=
  Asks s .drive 6 readGroupState f (g.val, x) ∧ commissioned s = true ∧
    (s.groups[g].state = .uncertain ∨ s.groups[g].state = .lockedOut) ∧
    last = decide (s.groups[g].state = .uncertain ∧ (x = .retracted → s.groups[g].holdCount ≠ 0) ∧
      ∀ h : Fin 16, h ≠ g → s.groups[h].state ≠ .returning ∧ s.groups[h].state ≠ .uncertain) ∧
    closes = decide (s.ring.state = .closing ∧ last = true ∧ heldGroups s = 0) ∧
    completes = decide (s.ring.state = .aborting ∧ last = true ∧ s.stack.entries = [])

theorem witness_GroupStateResolves :
    (∃ (s : State) (f : Frame) (g : Nat) (x : GroupPosition), Asks s .drive 6 readGroupState f (g, x) ∧
      commissioned s = true ∧ 16 ≤ g) ∧
    (∃ (s : State) (f : Frame) (g : Fin 16) (x : GroupPosition), Asks s .drive 6 readGroupState f (g.val, x) ∧
      commissioned s = true ∧ s.groups[g].state ≠ .uncertain ∧ s.groups[g].state ≠ .lockedOut) ∧
    (∃ (s : State) (f : Frame) (g : Fin 16) (x : GroupPosition) (last closes completes : Bool),
      premisesGroupState s f g x last closes completes ∧ x = .extended ∧ s.groups[g].holdCount = 0 ∧ closes = false ∧ completes = false) ∧
    (∃ (s : State) (f : Frame) (g : Fin 16) (x : GroupPosition) (last closes completes : Bool),
      premisesGroupState s f g x last closes completes ∧ x = .retracted ∧ s.groups[g].holdCount = 0) ∧
    (∃ (s : State) (f : Frame) (g : Fin 16) (x : GroupPosition) (last closes completes : Bool),
      premisesGroupState s f g x last closes completes ∧ x = .extended ∧ s.groups[g].holdCount = 1) ∧
    (∃ (s : State) (f : Frame) (g : Fin 16) (x : GroupPosition) (last closes completes : Bool),
      premisesGroupState s f g x last closes completes ∧ x = .retracted ∧ s.groups[g].holdCount = 1) ∧
    (∃ (s : State) (f : Frame) (g : Fin 16) (x : GroupPosition) (last closes completes : Bool),
      premisesGroupState s f g x last closes completes ∧ closes = true) ∧
    (∃ (s : State) (f : Frame) (g : Fin 16) (x : GroupPosition) (last closes completes : Bool),
      premisesGroupState s f g x last closes completes ∧ completes = true) ∧
    (∃ (s : State) (f : Frame) (g : Fin 16) (x : GroupPosition) (last closes completes : Bool),
      premisesGroupState s f g x last closes completes ∧ s.ring.state = .closing ∧ s.groups[g].state = .lockedOut) :=
  ⟨⟨asking .drive 6 [16, 0] crew, asked 6 [16, 0], 16, .extended, asks_of (by decide +kernel), by decide +kernel⟩,
   ⟨asking .drive 6 [3, 0] crew, asked 6 [3, 0], 3, .extended, asks_of (by decide +kernel), by decide +kernel⟩,
   ⟨asking .drive 6 [3, 0] (withGroup { extended with state := .uncertain, transition := 9 }),
     asked 6 [3, 0], 3, .extended, _, _, _, ⟨asks_of (by decide +kernel), by decide +kernel, by decide +kernel, rfl, rfl, rfl⟩,
     by decide +kernel⟩,
   ⟨asking .drive 6 [3, 1] (withGroup { extended with state := .uncertain, transition := 9 }),
     asked 6 [3, 1], 3, .retracted, _, _, _, ⟨asks_of (by decide +kernel), by decide +kernel, by decide +kernel, rfl, rfl, rfl⟩,
     by decide +kernel⟩,
   ⟨asking .drive 6 [3, 0] (withGroup { extended with state := .lockedOut, holdCount := 1 }),
     asked 6 [3, 0], 3, .extended, _, _, _, ⟨asks_of (by decide +kernel), by decide +kernel, by decide +kernel, rfl, rfl, rfl⟩,
     by decide +kernel⟩,
   ⟨asking .drive 6 [3, 1] (withGroup { extended with state := .lockedOut, holdCount := 1 }),
     asked 6 [3, 1], 3, .retracted, _, _, _, ⟨asks_of (by decide +kernel), by decide +kernel, by decide +kernel, rfl, rfl, rfl⟩,
     by decide +kernel⟩,
   ⟨asking .drive 6 [3, 0] (withRing { RingRec.initial 7 with state := .closing } (withGroup { extended with state := .uncertain })),
     asked 6 [3, 0], 3, .extended, _, _, _, ⟨asks_of (by decide +kernel), by decide +kernel, by decide +kernel, rfl, rfl, rfl⟩,
     by decide +kernel⟩,
   ⟨asking .drive 6 [3, 0] (withRing { RingRec.initial 7 with state := .aborting } (withGroup { extended with state := .uncertain })),
     asked 6 [3, 0], 3, .extended, _, _, _, ⟨asks_of (by decide +kernel), by decide +kernel, by decide +kernel, rfl, rfl, rfl⟩,
     by decide +kernel⟩,
   ⟨asking .drive 6 [3, 0] (withRing { RingRec.initial 7 with state := .closing } (withGroup { extended with state := .lockedOut })),
     asked 6 [3, 0], 3, .extended, _, _, _, ⟨asks_of (by decide +kernel), by decide +kernel, by decide +kernel, rfl, rfl, rfl⟩,
     by decide +kernel⟩⟩

theorem witness_GroupAndSpeedTimers :
    (∃ (s : State) (g : Fin 16), s.powered = true ∧
      (s.groups[g].state = .retracting ∨ s.groups[g].state = .returning) ∧ s.groups[g].slow = false ∧
      s.groups[g].stateTime + (activeProfile s).retractTime < s.now) ∧
    (∃ (s : State) (g : Fin 16), s.powered = true ∧
      (s.groups[g].state = .retracting ∨ s.groups[g].state = .returning) ∧ s.groups[g].slow = false ∧
      s.groups[g].stateTime + (activeProfile s).retractTime < s.now) ∧
    (∃ (s : State) (p : Fin 7) (e : StackEntry), s.powered = true ∧ e ∈ s.stack.entries ∧ e.position = p ∧
      e.overtime = false ∧ e.openedAt + (activeProfile s).releaseTime < s.now) ∧
    (∃ (s : State) (r : IncrementRec), s.powered = true ∧ 0 < s.account.speed ∧
      s.account.increments.getLast? = some r ∧ r.time + 60000 ≤ s.now) :=
  ⟨⟨withGroup { extended with state := .retracting, stateTime := 69999 }, 3, by decide +kernel⟩,
   ⟨withGroup { extended with state := .returning, stateTime := 69999 }, 3, by decide +kernel⟩,
   ⟨{ erectingWith [{ entryOf 2 .opened with openedAt := 0 }] with now := 1200001 }, 2,
     { entryOf 2 .opened with openedAt := 0 }, by decide +kernel⟩,
   ⟨{ crew with account := { Account.initial with speed := 20, increments := [⟨1, 40000, 250, 881412, 77165, 88739, 1718, .advance⟩] } },
     ⟨1, 40000, 250, 881412, 77165, 88739, 1718, .advance⟩, by decide +kernel⟩⟩

/-- The hypotheses of SegmentOpenPushes. -/
abbrev premisesSegmentOpenPushes (s : State) (f : Frame) (p : Fin 7) (rest : List (Fin 7)) (cover listed : List (Fin 16)) (after : Nat)
    (granted grants : Bool) : Prop :=
  Asks s .erector 17 readByte f p.val ∧ commissioned s = true ∧ (s.ring.state = .armed ∨ s.ring.state = .building) ∧
    s.modes.build = .held ∧ s.permits.build.allowed = true ∧ s.ring.queue = p :: rest ∧ (p = 6 → ∀ q : Fin 7,
    q ≠ 6 → q ∈ s.ring.setList) ∧
    ((s.ring.state = .armed → (constantsOf s).ringWidth + (activeProfile s).buildClearance ≤ s.account.cycle.advance)) ∧
    ((s.ring.state = .armed → s.modes.mode = .continuous → ∃ m, s.account.thrustMean = some m ∧
    m + (activeProfile s).strokeReserve ≤ (constantsOf s).strokeMax)) ∧ cover = ringCover s.ring p ∧
    s.stack.entries.length < 3 ∧ (∀ g ∈ cover, s.groups[g].state ≠ .uncertain ∧ s.groups[g].state ≠ .lockedOut) ∧
    (∀ e ∈ s.stack.entries, e.overtime = false ∧ e.position ≠ p) ∧ countAfterOpen s cover ≤ releaseLimit s ∧
    after = (List.finRange 16).countP (fun g => decide (0 < s.groups[g].holdCount ∨ g ∈ cover)) ∧
    grants = decide (s.modes.advance = .pending ∧ (s.modes.mode = .advance ∨ s.modes.mode = .build) ∧
      after ≠ heldGroups s ∧ (activeProfile s).continuousAllowed = true ∧
      after ≤ (activeProfile s).releaseContinuous) ∧
    listed = cover.filter (fun g => s.groups[g].holdCount = 0) ∧
    granted = cover.all (fun g => s.groups[g].holdCount ≠ 0 && s.groups[g].state = .released)

/-- The checks of R75, as SegmentOpenPushes lists them. -/
abbrev checksOfBuilder (s : State) (p : Fin 7) : List (Bool × Code × List Field) :=
  [(decide (s.ring.state ≠ .armed ∧ s.ring.state ≠ .building), .state, [.u8 0]),
   (decide (s.modes.build ≠ .held), .state, [.u8 0]),
   (!s.permits.build.allowed, .state, [.u8 0]),
   (decide (s.ring.queue.head? ≠ some p), .order, optU8 (s.ring.queue.head?.map (·.val))),
   (decide (p = 6 ∧ ∃ q : Fin 7, q ≠ 6 ∧ q ∉ s.ring.setList), .order, []),
   (decide (s.ring.state = .armed ∧
      s.account.cycle.advance < (constantsOf s).ringWidth + (activeProfile s).buildClearance), .state,
    [.u8 0, .u64 s.account.cycle.advance, .u64 ((constantsOf s).ringWidth + (activeProfile s).buildClearance)]),
   (decide (s.ring.state = .armed ∧ s.modes.mode = .continuous) &&
      (match s.account.thrustMean with
      | some m => decide ((constantsOf s).strokeMax < m + (activeProfile s).strokeReserve)
      | none => true), .state,
    .u8 0 :: optU64 s.account.thrustMean ++ [.u16 (activeProfile s).strokeReserve])]

/-- The checks of R47 after its first, as SegmentOpenPushes lists them. -/
abbrev checksOfStack (s : State) (cover : List (Fin 16)) (count : Nat) : List (Bool × Code × List Field) :=
  [(cover.any fun g => s.groups[g].state = .uncertain || s.groups[g].state = .lockedOut, .state, [.u8 0]),
   (s.stack.entries.any (·.overtime), .limit,
    ((s.stack.entries.filter (·.overtime)).getLast?.map fun e => Field.u8 e.position.val).toList),
   (decide (releaseLimit s < count), .limit, [.u64 count, .u8 (releaseLimit s)])]

/-- The hypotheses of the first part of SegmentOpenPushes. -/
abbrev premisesOpenRefused (s : State) (f : Frame) (p : Fin 7) (cover : List (Fin 16)) (count : Nat)
    (builder stack : List (Bool × Code × List Field)) : Prop :=
  Asks s .erector 17 readByte f p.val ∧ commissioned s = true ∧ cover = ringCover s.ring p ∧
    count = (List.finRange 16).countP (fun g =>
      decide (0 < s.groups[g].holdCount ∨ g ∈ cover ∨ s.groups[g].state = .lockedOut)) ∧
    builder = checksOfBuilder s p ∧ stack = checksOfStack s cover count

/-- A machine whose erector may open position 2 first. -/
def armedCrew (advance : Nat) : State :=
  { erectingWith [] with
    ring := { erecting.ring with state := .armed, queue := [2, 3, 1, 4, 0, 5, 6] }
    account := { Account.initial with cycle := { Cycle.start with advance } } }

/-- Position `p` is refused by the check `k` of R75. -/
abbrev refusedByBuilder (k : Nat) : Prop :=
  ∃ (s : State) (f : Frame) (p : Fin 7) (cover : List (Fin 16)) (count : Nat)
    (builder stack : List (Bool × Code × List Field)), premisesOpenRefused s f p cover count builder stack ∧
      builder.findIdx? (·.1) = some k

/-- Position `p` is refused by the check `k` of those of R47 after its first. -/
abbrev refusedByStack (k : Nat) : Prop :=
  ∃ (s : State) (f : Frame) (p : Fin 7) (cover : List (Fin 16)) (count : Nat)
    (builder stack : List (Bool × Code × List Field)), premisesOpenRefused s f p cover count builder stack ∧
      builder.find? (·.1) = none ∧ s.stack.entries.length < 3 ∧ stack.findIdx? (·.1) = some k

theorem witness_SegmentOpenRefused :
    refusedByBuilder 0 ∧ refusedByBuilder 1 ∧ refusedByBuilder 2 ∧ refusedByBuilder 3 ∧ refusedByBuilder 4 ∧
      refusedByBuilder 5 ∧ refusedByBuilder 6 ∧ refusedByStack 0 ∧ refusedByStack 1 ∧ refusedByStack 2 :=
  ⟨⟨asking .erector 17 [2] crew, asked 17 [2], 2, _, _, _, _,
     ⟨asks_of (by decide +kernel), by decide +kernel, rfl, rfl, rfl, rfl⟩, by decide +kernel⟩,
   ⟨asking .erector 17 [2] (claiming .standstill .absent .absent (armedCrew 15500)), asked 17 [2], 2, _, _, _, _,
     ⟨asks_of (by decide +kernel), by decide +kernel, rfl, rfl, rfl, rfl⟩, by decide +kernel⟩,
   ⟨asking .erector 17 [2] (settled (claiming .halted .absent .held (armedCrew 15500))), asked 17 [2], 2, _, _, _, _,
     ⟨asks_of (by decide +kernel), by decide +kernel, rfl, rfl, rfl, rfl⟩, by decide +kernel⟩,
   ⟨asking .erector 17 [3] (settled (armedCrew 15500)), asked 17 [3], 3, _, _, _, _,
     ⟨asks_of (by decide +kernel), by decide +kernel, rfl, rfl, rfl, rfl⟩, by decide +kernel⟩,
   ⟨asking .erector 17 [6] (settled (withRing { erecting.ring with queue := [6], setList := [0, 1, 2, 3, 4] } (erectingWith []))), asked 17 [6], 6, _, _, _, _,
     ⟨asks_of (by decide +kernel), by decide +kernel, rfl, rfl, rfl, rfl⟩, by decide +kernel⟩,
   ⟨asking .erector 17 [2] (settled (armedCrew 15499)), asked 17 [2], 2, _, _, _, _,
     ⟨asks_of (by decide +kernel), by decide +kernel, rfl, rfl, rfl, rfl⟩, by decide +kernel⟩,
   ⟨asking .erector 17 [2] (settled (claiming .continuous .held .held (armedCrew 15500))), asked 17 [2], 2, _, _, _, _,
     ⟨asks_of (by decide +kernel), by decide +kernel, rfl, rfl, rfl, rfl⟩, by decide +kernel⟩,
   ⟨asking .erector 17 [2] (settled { armedCrew 15500 with groups := Vector.replicate 16 { extended with state := .lockedOut } }), asked 17 [2], 2, _, _, _, _,
     ⟨asks_of (by decide +kernel), by decide +kernel, rfl, rfl, rfl, rfl⟩, by decide +kernel⟩,
   ⟨asking .erector 17 [3] (settled (erectingWith [{ entryOf 2 .opened with overtime := true }])), asked 17 [3], 3, _, _, _, _,
     ⟨asks_of (by decide +kernel), by decide +kernel, rfl, rfl, rfl, rfl⟩, by decide +kernel⟩,
   ⟨asking .erector 17 [3] (settled { erecting with store := { crew.store with profiles := Vector.replicate 4 { Profile.default with releaseBuild := 5 } } }), asked 17 [3], 3, _, _, _, _,
     ⟨asks_of (by decide +kernel), by decide +kernel, rfl, rfl, rfl, rfl⟩, by decide +kernel⟩⟩

theorem witness_SegmentOpenPushes :
    (∃ (s : State) (f : Frame) (p : Fin 7) (rest : List (Fin 7)) (cover listed : List (Fin 16))
      (after : Nat) (granted grants : Bool), premisesSegmentOpenPushes s f p rest cover listed after granted grants ∧ s.ring.state = .armed) ∧
    (∃ (s : State) (f : Frame) (p : Fin 7) (rest : List (Fin 7)) (cover listed : List (Fin 16))
      (after : Nat) (granted grants : Bool), premisesSegmentOpenPushes s f p rest cover listed after granted grants ∧ s.modes.mode = .continuous) ∧
    (∃ (s : State) (f : Frame) (p : Fin 7) (rest : List (Fin 7)) (cover listed : List (Fin 16))
      (after : Nat) (granted grants : Bool), premisesSegmentOpenPushes s f p rest cover listed after granted grants ∧ s.ring.state = .building) ∧
    (∃ (s : State) (f : Frame) (p : Fin 7) (rest : List (Fin 7)) (cover listed : List (Fin 16))
      (after : Nat) (granted grants : Bool), premisesSegmentOpenPushes s f p rest cover listed after granted grants ∧ granted = true) ∧
    (∃ (s : State) (f : Frame) (p : Fin 7) (rest : List (Fin 7)) (cover listed : List (Fin 16))
      (after : Nat) (granted grants : Bool), premisesSegmentOpenPushes s f p rest cover listed after granted grants ∧
      s.modes.advance = .pending ∧ grants = true) ∧
    (∃ (s : State) (f : Frame) (p : Fin 7) (rest : List (Fin 7)) (cover listed : List (Fin 16))
      (after : Nat) (granted grants : Bool), premisesSegmentOpenPushes s f p rest cover listed after granted grants ∧
      s.modes.advance = .pending ∧ grants = false) :=
  ⟨⟨asking .erector 17 [2] (settled { erectingWith [] with ring := { erecting.ring with state := .armed, queue := [2, 3, 1, 4, 0, 5, 6] }, account := { Account.initial with cycle := { Cycle.start with advance := 15500 }, thrustMean := some 26000 } }),
     asked 17 [2], 2, [3, 1, 4, 0, 5, 6], _, _, _, _, _, ⟨asks_of (by decide +kernel), by decide +kernel, by decide +kernel,
     by decide +kernel, by decide +kernel, by decide +kernel, by decide +kernel, by decide +kernel,
     fun _ h => absurd h (by decide +kernel), rfl, by decide +kernel, by decide +kernel, by decide +kernel,
     by decide +kernel, rfl, rfl, rfl, rfl⟩, by decide +kernel⟩,
   ⟨asking .erector 17 [2] (settled { erectingWith [] with ring := { erecting.ring with state := .armed, queue := [2, 3, 1, 4, 0, 5, 6] }, account := { Account.initial with cycle := { Cycle.start with advance := 15500 }, thrustMean := some 26000 }, modes := { ModeUnit.initial .continuous with advance := .held, build := .held } }),
     asked 17 [2], 2, [3, 1, 4, 0, 5, 6], _, _, _, _, _, ⟨asks_of (by decide +kernel), by decide +kernel, by decide +kernel,
     by decide +kernel, by decide +kernel, by decide +kernel, by decide +kernel, by decide +kernel, fun _ _ => ⟨26000,
     by decide +kernel, by decide +kernel⟩, rfl, by decide +kernel, by decide +kernel, by decide +kernel,
     by decide +kernel, rfl, rfl, rfl, rfl⟩, by decide +kernel⟩,
   ⟨asking .erector 17 [6] (settled { erectingWith [] with ring := { erecting.ring with queue := [6], setList := [0, 1, 2, 3, 4, 5] } }),
     asked 17 [6], 6, [], _, _, _, _, _, ⟨asks_of (by decide +kernel), by decide +kernel, by decide +kernel,
     by decide +kernel, by decide +kernel, by decide +kernel, by decide +kernel, by decide +kernel,
     fun h => absurd h (by decide +kernel), rfl, by decide +kernel, by decide +kernel, by decide +kernel,
     by decide +kernel, rfl, rfl, rfl, rfl⟩, by decide +kernel⟩,
   ⟨asking .erector 17 [3] (settled { erecting with ring := { erecting.ring with queue := [3, 6], covers := some (Vector.replicate 7 [9, 10, 11]) } }),
     asked 17 [3], 3, [6], _, _, _, _, _, ⟨asks_of (by decide +kernel), by decide +kernel, by decide +kernel,
     by decide +kernel, by decide +kernel, by decide +kernel, by decide +kernel, by decide +kernel,
     fun h => absurd h (by decide +kernel), rfl, by decide +kernel, by decide +kernel, by decide +kernel,
     by decide +kernel, rfl, rfl, rfl, rfl⟩, by decide +kernel⟩,
   ⟨asking .erector 17 [2] (settled (claiming .build .pending .held (armedCrew 15500))),
     asked 17 [2], 2, [3, 1, 4, 0, 5, 6], _, _, _, _, _, ⟨asks_of (by decide +kernel), by decide +kernel, by decide +kernel,
     by decide +kernel, by decide +kernel, by decide +kernel, by decide +kernel, by decide +kernel,
     fun _ h => absurd h (by decide +kernel), rfl, by decide +kernel, by decide +kernel, by decide +kernel,
     by decide +kernel, rfl, rfl, rfl, rfl⟩, by decide +kernel⟩,
   ⟨asking .erector 17 [2] (settled { claiming .build .pending .held (armedCrew 15500) with store := { crew.store with profiles := Vector.replicate 4 { Profile.default with continuousAllowed := false } } }),
     asked 17 [2], 2, [3, 1, 4, 0, 5, 6], _, _, _, _, _, ⟨asks_of (by decide +kernel), by decide +kernel, by decide +kernel,
     by decide +kernel, by decide +kernel, by decide +kernel, by decide +kernel, by decide +kernel,
     fun _ h => absurd h (by decide +kernel), rfl, by decide +kernel, by decide +kernel, by decide +kernel,
     by decide +kernel, rfl, rfl, rfl, rfl⟩, by decide +kernel⟩⟩

theorem witness_FullAndEmptyStack :
    (∃ (s : State) (f : Frame) (p : Fin 7), Asks s .erector 17 readByte f p.val ∧ commissioned s = true ∧
      builderRefusal p s = none ∧ 3 ≤ s.stack.entries.length ∧ (activeProfile s).stackPolicy = .refuse) ∧
    (∃ (s : State) (f : Frame) (p : Fin 7), Asks s .erector 17 readByte f p.val ∧ commissioned s = true ∧
      builderRefusal p s = none ∧ 3 ≤ s.stack.entries.length ∧ (activeProfile s).stackPolicy = .halt) ∧
    (∃ (s : State) (f : Frame) (q : Nat) (o : CloseOutcome), Asks s .erector 19 readSegmentClose f (q, o) ∧
      commissioned s = true ∧ q < 7 ∧ s.stack.entries = []) :=
  ⟨⟨asking .erector 17 [3] (settled (erectingWith [entryOf 0 .opened, entryOf 1 .opened, entryOf 2 .opened])),
     asked 17 [3], 3, asks_of (by decide +kernel), by decide +kernel⟩,
   ⟨asking .erector 17 [3] (settled { erectingWith [entryOf 0 .opened, entryOf 1 .opened, entryOf 2 .opened] with store := { crew.store with profiles := Vector.replicate 4 { Profile.default with stackPolicy := .halt } } }),
     asked 17 [3], 3, asks_of (by decide +kernel), by decide +kernel⟩,
   ⟨asking .erector 19 [6, 0] crew, asked 19 [6, 0], 6, .set, asks_of (by decide +kernel), by decide +kernel⟩⟩

theorem witness_SegmentPlacedOnTop :
    (∃ (s : State) (f : Frame) (q : Nat), Asks s .erector 18 readByte f q ∧ commissioned s = true ∧ 7 ≤ q) ∧
    (∃ (s : State) (f : Frame) (q : Nat), Asks s .erector 18 readByte f q ∧ commissioned s = true ∧ q < 7 ∧
      s.stack.entries = []) ∧
    (∃ (s : State) (f : Frame) (q : Nat) (e : StackEntry) (rest : List StackEntry), Asks s .erector 18 readByte f q ∧
      commissioned s = true ∧ q < 7 ∧ s.stack.entries = e :: rest ∧ q ≠ e.position.val) ∧
    (∃ (s : State) (f : Frame) (q : Nat) (e : StackEntry) (rest : List StackEntry), Asks s .erector 18 readByte f q ∧
      commissioned s = true ∧ q < 7 ∧ s.stack.entries = e :: rest ∧ q = e.position.val ∧ e.state = .opening) ∧
    (∃ (s : State) (f : Frame) (q : Nat) (e : StackEntry) (rest : List StackEntry), Asks s .erector 18 readByte f q ∧
      commissioned s = true ∧ q < 7 ∧ s.stack.entries = e :: rest ∧ q = e.position.val ∧ e.state = .placed) ∧
    (∃ (s : State) (f : Frame) (q : Nat) (e : StackEntry) (rest : List StackEntry), Asks s .erector 18 readByte f q ∧
      commissioned s = true ∧ q < 7 ∧ s.stack.entries = e :: rest ∧ q = e.position.val ∧ e.state = .opened) :=
  ⟨⟨asking .erector 18 [7] crew, asked 18 [7], 7, asks_of (by decide +kernel), by decide +kernel⟩,
   ⟨asking .erector 18 [6] crew, asked 18 [6], 6, asks_of (by decide +kernel), by decide +kernel⟩,
   ⟨asking .erector 18 [3] erecting, asked 18 [3], 3, entryOf 2 .opened, [], asks_of (by decide +kernel),
     by decide +kernel⟩,
   ⟨asking .erector 18 [2] (erectingWith [entryOf 2 .opening]), asked 18 [2], 2, entryOf 2 .opening, [],
     asks_of (by decide +kernel), by decide +kernel⟩,
   ⟨asking .erector 18 [2] (erectingWith [entryOf 2 .placed]), asked 18 [2], 2, entryOf 2 .placed, [],
     asks_of (by decide +kernel), by decide +kernel⟩,
   ⟨asking .erector 18 [2] (erectingWith [entryOf 2 .opened]), asked 18 [2], 2, entryOf 2 .opened, [],
     asks_of (by decide +kernel), by decide +kernel⟩⟩

/-- The hypotheses of the second part of SegmentClosePops. -/
abbrev premisesSegmentClosePops (s : State) (f : Frame) (e : StackEntry) (rest : List StackEntry) (o : CloseOutcome)
    (ring : RingRec) (listed : List (Fin 16)) (after : Nat) (closes grants falls : Bool) : Prop :=
  Asks s .erector 19 readSegmentClose f (e.position.val, o) ∧ commissioned s = true ∧ s.stack.entries = e :: rest ∧
    listed = e.cover.filter (fun g => s.groups[g].holdCount ≤ 1 &&
      (s.groups[g].state = .retracting || s.groups[g].state = .released)) ∧
    after = (List.finRange 16).countP (fun g =>
      if g ∈ e.cover then 1 < s.groups[g].holdCount else 0 < s.groups[g].holdCount) ∧
    ((o = .set ∧ e.state = .placed ∧ ring =
        { s.ring with
          setList := s.ring.setList ++ [e.position], state := if e.position = 6 then .closing else s.ring.state }) ∨
      (o = .notSet ∧ s.ring.skips[e.position] < 2 ∧ ring =
        { s.ring with
          skips := s.ring.skips.set e.position.val (s.ring.skips[e.position] + 1) e.position.isLt
          queue :=
            if e.position = 6 then s.ring.queue ++ [6]
            else s.ring.queue.takeWhile (· ≠ 6) ++ e.position :: s.ring.queue.dropWhile (· ≠ 6) })) ∧
    closes = decide (e.position = 6 ∧ o = .set ∧ after = 0 ∧ listed = [] ∧
      ∀ g : Fin 16, s.groups[g].state ≠ .returning ∧ s.groups[g].state ≠ .uncertain) ∧
    grants = decide ((s.modes.mode = .advance ∨ s.modes.mode = .build) ∧ after ≠ heldGroups s ∧
      (activeProfile s).continuousAllowed = true ∧ after ≤ (activeProfile s).releaseContinuous ∧
      (s.modes.advance = .pending ∧ s.modes.build = .held ∨ s.modes.build = .pending ∧ s.modes.advance = .held)) ∧
    falls = decide (after < heldGroups s ∧ stands s.modes.mode = true)

theorem witness_SegmentCloseRefused :
    (∃ (s : State) (f : Frame) (e : StackEntry) (rest : List StackEntry) (q : Nat) (o : CloseOutcome),
      Asks s .erector 19 readSegmentClose f (q, o) ∧ commissioned s = true ∧ q < 7 ∧ s.stack.entries = e :: rest ∧
      q ≠ e.position.val) ∧
    (∃ (s : State) (f : Frame) (e : StackEntry) (rest : List StackEntry) (q : Nat) (o : CloseOutcome),
      Asks s .erector 19 readSegmentClose f (q, o) ∧ commissioned s = true ∧ q < 7 ∧ s.stack.entries = e :: rest ∧
      q = e.position.val ∧ o = .set ∧ e.state ≠ .placed) :=
  ⟨⟨asking .erector 19 [3, 1] erecting, asked 19 [3, 1], entryOf 2 .opened, [], 3, .notSet, asks_of (by decide +kernel),
     by decide +kernel⟩,
   ⟨asking .erector 19 [2, 0] erecting, asked 19 [2, 0], entryOf 2 .opened, [], 2, .set, asks_of (by decide +kernel),
     by decide +kernel⟩⟩

theorem witness_SegmentClosePops :
    (∃ (s : State) (f : Frame) (e : StackEntry) (rest : List StackEntry) (o : CloseOutcome) (ring : RingRec)
      (listed : List (Fin 16)) (after : Nat) (closes grants falls : Bool),
      premisesSegmentClosePops s f e rest o ring listed after closes grants falls ∧ e.position ≠ 6 ∧ o = .set ∧ s.store.pendingProfile = none) ∧
    (∃ (s : State) (f : Frame) (e : StackEntry) (rest : List StackEntry) (o : CloseOutcome) (ring : RingRec)
      (listed : List (Fin 16)) (after : Nat) (closes grants falls : Bool),
      premisesSegmentClosePops s f e rest o ring listed after closes grants falls ∧ e.position = 6 ∧ o = .set ∧ closes = false) ∧
    (∃ (s : State) (f : Frame) (e : StackEntry) (rest : List StackEntry) (o : CloseOutcome) (ring : RingRec)
      (listed : List (Fin 16)) (after : Nat) (closes grants falls : Bool),
      premisesSegmentClosePops s f e rest o ring listed after closes grants falls ∧ closes = true) ∧
    (∃ (s : State) (f : Frame) (e : StackEntry) (rest : List StackEntry) (o : CloseOutcome) (ring : RingRec)
      (listed : List (Fin 16)) (after : Nat) (closes grants falls : Bool),
      premisesSegmentClosePops s f e rest o ring listed after closes grants falls ∧ e.position ≠ 6 ∧ o = .notSet) ∧
    (∃ (s : State) (f : Frame) (e : StackEntry) (rest : List StackEntry) (o : CloseOutcome) (ring : RingRec)
      (listed : List (Fin 16)) (after : Nat) (closes grants falls : Bool),
      premisesSegmentClosePops s f e rest o ring listed after closes grants falls ∧ e.position = 6 ∧ o = .notSet) ∧
    (∃ (s : State) (f : Frame) (e : StackEntry) (rest : List StackEntry) (o : CloseOutcome) (ring : RingRec)
      (listed : List (Fin 16)) (after : Nat) (closes grants falls : Bool),
      premisesSegmentClosePops s f e rest o ring listed after closes grants falls ∧ grants = true) ∧
    (∃ (s : State) (f : Frame) (e : StackEntry) (rest : List StackEntry) (o : CloseOutcome) (ring : RingRec)
      (listed : List (Fin 16)) (after : Nat) (closes grants falls : Bool),
      premisesSegmentClosePops s f e rest o ring listed after closes grants falls ∧ ∃ n, s.store.pendingProfile = some n ∧ falls = true ∧ after ≤ s.store.profiles[n].releaseBuild) ∧
    (∃ (s : State) (f : Frame) (e : StackEntry) (rest : List StackEntry) (o : CloseOutcome) (ring : RingRec)
      (listed : List (Fin 16)) (after : Nat) (closes grants falls : Bool),
      premisesSegmentClosePops s f e rest o ring listed after closes grants falls ∧ ∃ n, s.store.pendingProfile = some n ∧ falls = true ∧ s.store.profiles[n].releaseBuild < after) :=
  ⟨⟨asking .erector 19 [2, 0] (erectingWith [entryOf 2 .placed]), asked 19 [2, 0], entryOf 2 .placed, [], .set,
     { erecting.ring with setList := [2] }, _, _, _, _, _,
     ⟨asks_of (by decide +kernel), by decide +kernel, by decide +kernel, rfl, rfl, by decide +kernel, rfl, rfl, rfl⟩,
     by decide +kernel⟩,
   ⟨asking .erector 19 [6, 0] (erectingWith [entryOf 6 .placed]), asked 19 [6, 0], entryOf 6 .placed, [], .set,
     { erecting.ring with setList := [6], state := .closing }, _, _, _, _, _,
     ⟨asks_of (by decide +kernel), by decide +kernel, by decide +kernel, rfl, rfl, by decide +kernel, rfl, rfl, rfl⟩,
     by decide +kernel⟩,
   ⟨asking .erector 19 [6, 0] { erectingWith [entryOf 6 .placed] with groups := Vector.replicate 16 extended }, asked 19 [6, 0], entryOf 6 .placed, [], .set,
     { erecting.ring with setList := [6], state := .closing }, _, _, _, _, _,
     ⟨asks_of (by decide +kernel), by decide +kernel, by decide +kernel, rfl, rfl, by decide +kernel, rfl, rfl, rfl⟩,
     by decide +kernel⟩,
   ⟨asking .erector 19 [2, 1] (withRing { erecting.ring with skips := #v[0, 0, 1, 0, 0, 0, 0] } erecting), asked 19 [2, 1], entryOf 2 .opened, [], .notSet,
     { erecting.ring with skips := #v[0, 0, 2, 0, 0, 0, 0], queue := [3, 1, 4, 0, 5, 2, 6] }, _, _, _, _, _,
     ⟨asks_of (by decide +kernel), by decide +kernel, by decide +kernel, rfl, rfl, by decide +kernel, rfl, rfl, rfl⟩,
     by decide +kernel⟩,
   ⟨asking .erector 19 [6, 1] (withRing { erecting.ring with queue := [] } (erectingWith [entryOf 6 .opening])), asked 19 [6, 1], entryOf 6 .opening, [], .notSet,
     { erecting.ring with skips := #v[0, 0, 0, 0, 0, 0, 1], queue := [6] }, _, _, _, _, _,
     ⟨asks_of (by decide +kernel), by decide +kernel, by decide +kernel, rfl, rfl, by decide +kernel, rfl, rfl, rfl⟩,
     by decide +kernel⟩,
   ⟨asking .erector 19 [2, 0] (claiming .build .pending .held (erectingWith [entryOf 2 .placed])), asked 19 [2, 0], entryOf 2 .placed, [], .set,
     { erecting.ring with setList := [2] }, _, _, _, _, _,
     ⟨asks_of (by decide +kernel), by decide +kernel, by decide +kernel, rfl, rfl, by decide +kernel, rfl, rfl, rfl⟩,
     by decide +kernel⟩,
   ⟨asking .erector 19 [2, 0] (waiting (claiming .halted .absent .held (erectingWith [entryOf 2 .placed]))), asked 19 [2, 0], entryOf 2 .placed, [], .set,
     { erecting.ring with setList := [2] }, _, _, _, _, _,
     ⟨asks_of (by decide +kernel), by decide +kernel, by decide +kernel, rfl, rfl, by decide +kernel, rfl, rfl, rfl⟩,
     3, by decide +kernel⟩,
   ⟨asking .erector 19 [2, 0] (waiting (claiming .standstill .absent .absent { erectingWith [entryOf 2 .placed] with groups := Vector.replicate 16 { extended with holdCount := 1 } })), asked 19 [2, 0], entryOf 2 .placed, [], .set,
     { erecting.ring with setList := [2] }, _, _, _, _, _,
     ⟨asks_of (by decide +kernel), by decide +kernel, by decide +kernel, rfl, rfl, by decide +kernel, rfl, rfl, rfl⟩,
     3, by decide +kernel⟩⟩

/-- The hypotheses of the second part of BuildGivenUp. -/
abbrev premisesGivenUp (s : State) (f : Frame) (p : Port) (i : Instr) (cause : RingCause) : Prop :=
  ((i = .ringAbort p ∧ cause = .abort ∧ (p = .erector ∨ p = .cabin) ∧ Asks s p 20 readNothing f () ∧
        (s.ring.state = .building ∨ s.ring.state = .closing)) ∨
      (i = .segmentClose p ∧ cause = .ringFailed ∧ p = .erector ∧ ∃ e rest, s.stack.entries = e :: rest ∧
        2 ≤ s.ring.skips[e.position] ∧ Asks s p 19 readSegmentClose f (e.position.val, .notSet))) ∧
    commissioned s = true ∧ HoldCountsMatch s

theorem witness_BuildGivenUp :
    (∃ (s : State) (f : Frame) (p : Port), (p = .erector ∨ p = .cabin) ∧ Asks s p 20 readNothing f () ∧
      commissioned s = true ∧ s.ring.state = .idle) ∧
    (∃ (s : State) (f : Frame) (p : Port), (p = .erector ∨ p = .cabin) ∧ Asks s p 20 readNothing f () ∧
      commissioned s = true ∧ s.ring.state = .aborting) ∧
    (∃ (s : State) (f : Frame) (p : Port), (p = .erector ∨ p = .cabin) ∧ Asks s p 20 readNothing f () ∧
      commissioned s = true ∧ s.ring.state = .armed) ∧
    (∃ (s : State) (f : Frame) (p : Port) (i : Instr) (cause : RingCause), premisesGivenUp s f p i cause ∧
      s.ring.state = .building) ∧
    (∃ (s : State) (f : Frame) (p : Port) (i : Instr) (cause : RingCause), premisesGivenUp s f p i cause ∧
      s.ring.state = .closing) ∧
    (∃ (s : State) (f : Frame) (p : Port) (i : Instr) (cause : RingCause), premisesGivenUp s f p i cause ∧
      s.modes.advance ≠ .pending ∧ s.modes.build ≠ .pending ∧ s.store.pendingProfile = none) ∧
    (∃ (s : State) (f : Frame) (p : Port) (i : Instr) (cause : RingCause), premisesGivenUp s f p i cause ∧
      cause = .ringFailed) ∧
    (∃ (s : State) (f : Frame) (p : Port) (i : Instr) (cause : RingCause), premisesGivenUp s f p i cause ∧
      (s.modes.mode = .advance ∨ s.modes.mode = .build) ∧ heldGroups s ≠ 0 ∧
      (activeProfile s).continuousAllowed = true ∧ s.modes.advance = .pending ∧ s.modes.build = .held) ∧
    (∃ (s : State) (f : Frame) (p : Port) (i : Instr) (cause : RingCause), premisesGivenUp s f p i cause ∧
      (s.modes.mode = .advance ∨ s.modes.mode = .build) ∧ heldGroups s ≠ 0 ∧
      (activeProfile s).continuousAllowed = true ∧ s.modes.build = .pending ∧ s.modes.advance = .held) ∧
    (∃ (s : State) (f : Frame) (p : Port) (i : Instr) (cause : RingCause), premisesGivenUp s f p i cause ∧
      s.store.pendingProfile = some 3 ∧ stands s.modes.mode = true ∧ heldGroups s ≠ 0) :=
  ⟨⟨asking .erector 20 [] (withRing { erecting.ring with state := .idle } erecting), asked 20 [], .erector,
     by decide +kernel, asks_of (by decide +kernel), by decide +kernel⟩,
   ⟨asking .erector 20 [] (withRing { erecting.ring with state := .aborting } erecting), asked 20 [], .erector,
     by decide +kernel, asks_of (by decide +kernel), by decide +kernel⟩,
   ⟨asking .cabin 20 [] (withRing { erecting.ring with state := .armed } erecting), asked 20 [], .cabin,
     by decide +kernel, asks_of (by decide +kernel), by decide +kernel⟩,
   ⟨asking .erector 20 [] (waiting erecting), asked 20 [], .erector, .ringAbort .erector, .abort,
     ⟨.inl ⟨rfl, rfl, by decide +kernel, asks_of (by decide +kernel), by decide +kernel⟩, by decide +kernel,
     by unfold HoldCountsMatch; decide +kernel⟩, by decide +kernel⟩,
   ⟨asking .cabin 20 [] (withRing { erecting.ring with state := .closing, queue := [], setList := [0, 1, 2, 3, 4, 5, 6] } (erectingWith [])), asked 20 [], .cabin, .ringAbort .cabin, .abort,
     ⟨.inl ⟨rfl, rfl, by decide +kernel, asks_of (by decide +kernel), by decide +kernel⟩, by decide +kernel,
     by unfold HoldCountsMatch; decide +kernel⟩, by decide +kernel⟩,
   ⟨asking .cabin 20 [] (erectingWith [entryOf 0 .opening, entryOf 2 .opened]), asked 20 [], .cabin, .ringAbort .cabin, .abort,
     ⟨.inl ⟨rfl, rfl, by decide +kernel, asks_of (by decide +kernel), by decide +kernel⟩, by decide +kernel,
     by unfold HoldCountsMatch; decide +kernel⟩, by decide +kernel⟩,
   ⟨asking .erector 19 [2, 1] (withRing { erecting.ring with skips := #v[0, 0, 2, 0, 0, 0, 0] } erecting),
     asked 19 [2, 1], .erector, .segmentClose .erector, .ringFailed, ⟨.inr ⟨rfl, rfl, rfl, entryOf 2 .opened, [],
     by decide +kernel, by decide +kernel, asks_of (by decide +kernel)⟩, by decide +kernel,
     by unfold HoldCountsMatch; decide +kernel⟩, rfl⟩,
   ⟨asking .cabin 20 [] (claiming .build .pending .held erecting), asked 20 [], .cabin, .ringAbort .cabin, .abort,
     ⟨.inl ⟨rfl, rfl, by decide +kernel, asks_of (by decide +kernel), by decide +kernel⟩, by decide +kernel,
     by unfold HoldCountsMatch; decide +kernel⟩, by decide +kernel⟩,
   ⟨asking .cabin 20 [] (claiming .advance .held .pending erecting), asked 20 [], .cabin, .ringAbort .cabin, .abort,
     ⟨.inl ⟨rfl, rfl, by decide +kernel, asks_of (by decide +kernel), by decide +kernel⟩, by decide +kernel,
     by unfold HoldCountsMatch; decide +kernel⟩, by decide +kernel⟩,
   ⟨asking .cabin 20 [] (waiting (claiming .standstill .absent .absent erecting)), asked 20 [], .cabin, .ringAbort .cabin, .abort,
     ⟨.inl ⟨rfl, rfl, by decide +kernel, asks_of (by decide +kernel), by decide +kernel⟩, by decide +kernel,
     by unfold HoldCountsMatch; decide +kernel⟩, by decide +kernel⟩⟩

theorem witness_RingArms :
    (∃ (s : State) (f : Frame) (n : Nat), Asks s .erector 16 readWord f n ∧ commissioned s = true ∧
      s.ring.state ≠ .idle) ∧
    (∃ (s : State) (f : Frame) (n : Nat), Asks s .erector 16 readWord f n ∧ commissioned s = true ∧
      s.ring.state = .idle ∧ n ≠ s.ring.number) ∧
    (∃ (s : State) (f : Frame) (n : Nat), Asks s .erector 16 readWord f n ∧ commissioned s = true ∧
      s.ring.state = .idle ∧ n = s.ring.number ∧ n = 65535) ∧
    (∃ (s : State) (f : Frame) (n : Nat), Asks s .erector 16 readWord f n ∧ commissioned s = true ∧
      s.ring.state = .idle ∧ n = s.ring.number ∧ n < 65535 ∧ s.plan.status = .erasing) ∧
    (∃ (s : State) (f : Frame) (n : Nat), Asks s .erector 16 readWord f n ∧ commissioned s = true ∧
      s.ring.state = .idle ∧ n = s.ring.number ∧ n < 65535 ∧ s.plan.status ≠ .erasing ∧ rowOfRing s.plan n = none) ∧
    (∃ (s : State) (f : Frame) (n : Nat) (row : PlanRow), Asks s .erector 16 readWord f n ∧ commissioned s = true ∧
      s.ring.state = .idle ∧ n = s.ring.number ∧ n < 65535 ∧ s.plan.status ≠ .erasing ∧
      rowOfRing s.plan n = some row ∧ typeDefined (constantsOf s) row.ringType = false) ∧
    (∃ (s : State) (f : Frame) (n : Nat) (row : PlanRow), Asks s .erector 16 readWord f n ∧ commissioned s = true ∧
      s.ring.state = .idle ∧ n = s.ring.number ∧ n < 65535 ∧ s.plan.status ≠ .erasing ∧
      rowOfRing s.plan n = some row ∧ typeDefined (constantsOf s) row.ringType = true ∧ row.profile = none) ∧
    (∃ (s : State) (f : Frame) (n : Nat) (row : PlanRow), Asks s .erector 16 readWord f n ∧ commissioned s = true ∧
      s.ring.state = .idle ∧ n = s.ring.number ∧ n < 65535 ∧ s.plan.status ≠ .erasing ∧
      rowOfRing s.plan n = some row ∧ typeDefined (constantsOf s) row.ringType = true ∧ row.profile = some 2 ∧
      s.store.active ≠ 2 ∧ stands s.modes.mode = false) ∧
    (∃ (s : State) (f : Frame) (n : Nat) (row : PlanRow), Asks s .erector 16 readWord f n ∧ commissioned s = true ∧
      s.ring.state = .idle ∧ n = s.ring.number ∧ n < 65535 ∧ s.plan.status ≠ .erasing ∧
      rowOfRing s.plan n = some row ∧ typeDefined (constantsOf s) row.ringType = true ∧ row.profile = some 0 ∧
      s.store.active = 0) ∧
    (∃ (s : State) (f : Frame) (n : Nat) (row : PlanRow), Asks s .erector 16 readWord f n ∧ commissioned s = true ∧
      s.ring.state = .idle ∧ n = s.ring.number ∧ n < 65535 ∧ s.plan.status ≠ .erasing ∧
      rowOfRing s.plan n = some row ∧ typeDefined (constantsOf s) row.ringType = true ∧ row.profile = some 2 ∧
      s.store.active ≠ 2 ∧ stands s.modes.mode = true ∧ s.store.profiles[2].releaseBuild < heldGroups s) ∧
    (∃ (s : State) (f : Frame) (n : Nat) (row : PlanRow), Asks s .erector 16 readWord f n ∧ commissioned s = true ∧
      s.ring.state = .idle ∧ n = s.ring.number ∧ n < 65535 ∧ s.plan.status ≠ .erasing ∧
      rowOfRing s.plan n = some row ∧ typeDefined (constantsOf s) row.ringType = true ∧ row.profile = some 2 ∧
      s.store.active ≠ 2 ∧ stands s.modes.mode = true ∧ heldGroups s ≤ s.store.profiles[2].releaseBuild) :=
  ⟨⟨asking .erector 16 [0, 1] (withRing { erecting.ring with state := .armed } erecting), asked 16 [0, 1], 1,
     asks_of (by decide +kernel), by decide +kernel⟩,
   ⟨asking .erector 16 [0, 2] crew, asked 16 [0, 2], 2, asks_of (by decide +kernel), by decide +kernel⟩,
   ⟨asking .erector 16 [255, 255] (withRing (RingRec.initial 65535) crew), asked 16 [255, 255], 65535,
     asks_of (by decide +kernel), by decide +kernel⟩,
   ⟨asking .erector 16 [0, 1] (withPlan { planned with status := .erasing } crew), asked 16 [0, 1], 1,
     asks_of (by decide +kernel), by decide +kernel⟩,
   ⟨asking .erector 16 [255, 254] (withRing (RingRec.initial 65534) crew), asked 16 [255, 254], 65534,
     asks_of (by decide +kernel), by decide +kernel⟩,
   ⟨asking .erector 16 [0, 1] (withPlan { planned with rows := [(0, { plainRow with ringType := 1 })] } crew),
     asked 16 [0, 1], 1, { plainRow with ringType := 1 }, asks_of (by decide +kernel), by decide +kernel⟩,
   ⟨asking .erector 16 [0, 1] (withPlan planned crew), asked 16 [0, 1], 1, plainRow, asks_of (by decide +kernel),
     by decide +kernel⟩,
   ⟨asking .erector 16 [0, 1] (withPlan { planned with rows := [(0, { plainRow with profile := some 2 })] } pushing),
     asked 16 [0, 1], 1, { plainRow with profile := some 2 }, asks_of (by decide +kernel), by decide +kernel⟩,
   ⟨asking .erector 16 [0, 1] (withPlan { planned with rows := [(0, { plainRow with profile := some 0 })] } crew),
     asked 16 [0, 1], 1, { plainRow with profile := some 0 }, asks_of (by decide +kernel), by decide +kernel⟩,
   ⟨asking .erector 16 [0, 1] (withPlan { planned with rows := [(0, { plainRow with profile := some 2 })] } allHeld),
     asked 16 [0, 1], 1, { plainRow with profile := some 2 }, asks_of (by decide +kernel), by decide +kernel⟩,
   ⟨asking .erector 16 [0, 1] (withPlan { planned with rows := [(0, { plainRow with profile := some 2 })] } haltedCrew),
     asked 16 [0, 1], 1, { plainRow with profile := some 2 }, asks_of (by decide +kernel), by decide +kernel⟩⟩

theorem witness_PlacementOrderTable :
    ∃ (s : State) (f : Frame) (n : Nat) (row : PlanRow), Asks s .erector 16 readWord f n ∧ commissioned s = true ∧
      s.ring.state = .idle ∧ n = s.ring.number ∧ n < 65535 ∧ s.plan.status ≠ .erasing ∧
      rowOfRing s.plan n = some row ∧ typeDefined (constantsOf s) row.ringType = true :=
  ⟨asking .erector 16 [0, 1] (withPlan planned crew), asked 16 [0, 1], 1, plainRow, asks_of (by decide +kernel),
     by decide +kernel⟩

theorem witness_ClaimsTaken :
    (∃ (s : State) (f : Frame), Asks s .drive 7 readNothing f () ∧ commissioned s = true ∧ s.modes.mode = .halted) ∧
    (∃ (s : State) (f : Frame), Asks s .drive 7 readNothing f () ∧ commissioned s = true ∧ s.modes.mode ≠ .halted ∧
      s.modes.advance ≠ .absent) ∧
    (∃ (s : State) (f : Frame), Asks s .drive 7 readNothing f () ∧ commissioned s = true ∧ s.modes.mode ≠ .halted ∧
      s.modes.advance = .absent ∧ s.stack.entries ≠ [] ∧ s.modes.build ≠ .held) ∧
    (∃ (s : State) (f : Frame) (c : Claim), Asks s .drive 7 readNothing f () ∧ commissioned s = true ∧
      s.modes.mode ≠ .halted ∧ s.modes.advance = .absent ∧ (s.stack.entries = [] ∨ s.modes.build = .held) ∧
      s.modes.mode = derivedMode .absent s.modes.build ∧ (c = (if s.modes.build = .held ∧
      mayStandTogether s = false then .pending else .held))) ∧
    (∃ (s : State) (f : Frame) (c : Claim), Asks s .drive 7 readNothing f () ∧ commissioned s = true ∧
      s.modes.mode ≠ .halted ∧ s.modes.advance = .absent ∧ (s.stack.entries = [] ∨ s.modes.build = .held) ∧
      s.modes.mode = derivedMode .absent s.modes.build ∧ (c = (if s.modes.build = .held ∧
      mayStandTogether s = false then .pending else .held))) ∧
    (∃ (s : State) (f : Frame) (c : Claim), Asks s .drive 7 readNothing f () ∧ commissioned s = true ∧
      s.modes.mode ≠ .halted ∧ s.modes.advance = .absent ∧ (s.stack.entries = [] ∨ s.modes.build = .held) ∧
      s.modes.mode = derivedMode .absent s.modes.build ∧ (c = (if s.modes.build = .held ∧
      mayStandTogether s = false then .pending else .held))) ∧
    (∃ (s : State) (f : Frame), Asks s .erector 14 readNothing f () ∧ commissioned s = true ∧ s.modes.build ≠ .absent) ∧
    (∃ (s : State) (f : Frame), Asks s .erector 14 readNothing f () ∧ commissioned s = true ∧
      s.modes.build = .absent ∧ s.modes.mode = .halted ∧ s.modes.advance = .absent) ∧
    (∃ (s : State) (f : Frame) (c : Claim), Asks s .erector 14 readNothing f () ∧ commissioned s = true ∧
      s.modes.build = .absent ∧ s.modes.mode = derivedMode s.modes.advance .absent ∧
      (c = (if s.modes.advance = .held ∧ mayStandTogether s = false then .pending else .held))) ∧
    (∃ (s : State) (f : Frame) (c : Claim), Asks s .erector 14 readNothing f () ∧ commissioned s = true ∧
      s.modes.build = .absent ∧ s.modes.mode = derivedMode s.modes.advance .absent ∧
      (c = (if s.modes.advance = .held ∧ mayStandTogether s = false then .pending else .held))) ∧
    (∃ (s : State) (f : Frame) (c : Claim), Asks s .erector 14 readNothing f () ∧ commissioned s = true ∧
      s.modes.build = .absent ∧ s.modes.mode = derivedMode s.modes.advance .absent ∧
      (c = (if s.modes.advance = .held ∧ mayStandTogether s = false then .pending else .held))) :=
  ⟨⟨asking .drive 7 [] haltedCrew, asked 7 [], asks_of (by decide +kernel), by decide +kernel⟩,
   ⟨asking .drive 7 [] pushing, asked 7 [], asks_of (by decide +kernel), by decide +kernel⟩,
   ⟨asking .drive 7 [] ({ erecting with modes := { ModeUnit.initial .standstill with advance := .absent, build := .absent } }),
     asked 7 [], asks_of (by decide +kernel), by decide +kernel⟩,
   ⟨asking .drive 7 [] ({ crew with modes := { ModeUnit.initial .standstill with advance := .absent, build := .absent } }),
     asked 7 [], .held, asks_of (by decide +kernel), by decide +kernel⟩,
   ⟨asking .drive 7 [] ({ crew with modes := { ModeUnit.initial .build with advance := .absent, build := .held } }),
     asked 7 [], .held, asks_of (by decide +kernel), by decide +kernel⟩,
   ⟨asking .drive 7 [] ({ apart with modes := { ModeUnit.initial .build with advance := .absent, build := .held } }),
     asked 7 [], .pending, asks_of (by decide +kernel), by decide +kernel⟩,
   ⟨asking .erector 14 [] erecting, asked 14 [], asks_of (by decide +kernel), by decide +kernel⟩,
   ⟨asking .erector 14 [] haltedCrew, asked 14 [], asks_of (by decide +kernel), by decide +kernel⟩,
   ⟨asking .erector 14 [] ({ crew with modes := { ModeUnit.initial .standstill with advance := .absent, build := .absent } }),
     asked 14 [], .held, asks_of (by decide +kernel), by decide +kernel⟩,
   ⟨asking .erector 14 [] pushing, asked 14 [], .held, asks_of (by decide +kernel), by decide +kernel⟩,
   ⟨asking .erector 14 [] ({ apart with modes := { ModeUnit.initial .advance with advance := .held, build := .absent } }),
     asked 14 [], .pending, asks_of (by decide +kernel), by decide +kernel⟩⟩

theorem witness_ClaimsDropped :
    (∃ (s : State) (f : Frame), Asks s .drive 8 readNothing f () ∧ commissioned s = true ∧ s.modes.advance = .absent) ∧
    (∃ (s : State) (f : Frame), Asks s .drive 8 readNothing f () ∧ commissioned s = true ∧ s.modes.advance = .pending) ∧
    (∃ (s : State) (f : Frame), Asks s .drive 8 readNothing f () ∧ commissioned s = true ∧ s.modes.advance = .held ∧
      s.modes.mode = derivedMode .held s.modes.build) ∧
    (∃ (s : State) (f : Frame), Asks s .drive 8 readNothing f () ∧ commissioned s = true ∧ s.modes.advance = .held ∧
      s.modes.mode = derivedMode .held s.modes.build) ∧
    (∃ (s : State) (f : Frame), Asks s .drive 8 readNothing f () ∧ commissioned s = true ∧ s.modes.advance = .held ∧
      s.modes.mode = derivedMode .held s.modes.build) ∧
    (∃ (s : State) (f : Frame), Asks s .erector 15 readNothing f () ∧ commissioned s = true ∧ s.modes.build = .absent) ∧
    (∃ (s : State) (f : Frame), Asks s .erector 15 readNothing f () ∧ commissioned s = true ∧
      s.modes.build = .pending) ∧
    (∃ (s : State) (f : Frame), Asks s .erector 15 readNothing f () ∧ commissioned s = true ∧ s.modes.build = .held ∧
      (s.stack.entries ≠ [] ∨ s.ring.state = .building ∨ s.ring.state = .closing ∨ s.ring.state = .aborting) ∧
      s.stack.entries ≠ []) ∧
    (∃ (s : State) (f : Frame), Asks s .erector 15 readNothing f () ∧ commissioned s = true ∧ s.modes.build = .held ∧
      (s.stack.entries ≠ [] ∨ s.ring.state = .building ∨ s.ring.state = .closing ∨ s.ring.state = .aborting) ∧
      s.stack.entries = []) ∧
    (∃ (s : State) (f : Frame), Asks s .erector 15 readNothing f () ∧ commissioned s = true ∧ s.modes.build = .held ∧
      s.stack.entries = [] ∧ (s.ring.state = .idle ∨ s.ring.state = .armed) ∧
      s.modes.mode = derivedMode s.modes.advance .held) ∧
    (∃ (s : State) (f : Frame), Asks s .erector 15 readNothing f () ∧ commissioned s = true ∧ s.modes.build = .held ∧
      s.stack.entries = [] ∧ (s.ring.state = .idle ∨ s.ring.state = .armed) ∧
      s.modes.mode = derivedMode s.modes.advance .held) ∧
    (∃ (s : State) (f : Frame), Asks s .erector 15 readNothing f () ∧ commissioned s = true ∧ s.modes.build = .held ∧
      s.stack.entries = [] ∧ (s.ring.state = .idle ∨ s.ring.state = .armed) ∧
      s.modes.mode = derivedMode s.modes.advance .held) :=
  ⟨⟨asking .drive 8 [] crew, asked 8 [], asks_of (by decide +kernel), by decide +kernel⟩,
   ⟨asking .drive 8 [] ({ crew with modes := { ModeUnit.initial .build with advance := .pending, build := .held } }),
     asked 8 [], asks_of (by decide +kernel), by decide +kernel⟩,
   ⟨asking .drive 8 [] pushing, asked 8 [], asks_of (by decide +kernel), by decide +kernel⟩,
   ⟨asking .drive 8 [] ({ pushing with modes := { ModeUnit.initial .continuous with advance := .held, build := .held } }),
     asked 8 [], asks_of (by decide +kernel), by decide +kernel⟩,
   ⟨asking .drive 8 [] ({ pushing with modes := { ModeUnit.initial .advance with advance := .held, build := .pending } }),
     asked 8 [], asks_of (by decide +kernel), by decide +kernel⟩,
   ⟨asking .erector 15 [] crew, asked 15 [], asks_of (by decide +kernel), by decide +kernel⟩,
   ⟨asking .erector 15 [] ({ crew with modes := { ModeUnit.initial .advance with advance := .held, build := .pending } }),
     asked 15 [], asks_of (by decide +kernel), by decide +kernel⟩,
   ⟨asking .erector 15 [] erecting, asked 15 [], asks_of (by decide +kernel), by decide +kernel⟩,
   ⟨asking .erector 15 [] (erectingWith []), asked 15 [], asks_of (by decide +kernel), by decide +kernel⟩,
   ⟨asking .erector 15 [] ({ crew with modes := { ModeUnit.initial .build with advance := .absent, build := .held } }),
     asked 15 [], asks_of (by decide +kernel), by decide +kernel⟩,
   ⟨asking .erector 15 [] ({ crew with modes := { ModeUnit.initial .build with advance := .pending, build := .held } }),
     asked 15 [], asks_of (by decide +kernel), by decide +kernel⟩,
   ⟨asking .erector 15 [] ({ crew with modes := { ModeUnit.initial .continuous with advance := .held, build := .held } }),
     asked 15 [], asks_of (by decide +kernel), by decide +kernel⟩⟩

/-- A pending selection that the held groups allow (R9). -/
abbrev selectionMade (s : State) : Prop :=
  ∃ n, s.store.pendingProfile = some n ∧ heldGroups s ≤ s.store.profiles[n].releaseBuild

/-- A pending selection that the held groups defer (R9). -/
abbrev selectionDeferred (s : State) : Prop :=
  ∃ n, s.store.pendingProfile = some n ∧ s.store.profiles[n].releaseBuild < heldGroups s

theorem witness_ClaimsDroppedSwitch :
    (∃ (s : State) (f : Frame), Asks s .drive 8 readNothing f () ∧ commissioned s = true ∧ s.modes.advance = .held ∧
      s.modes.mode = derivedMode .held s.modes.build ∧ s.modes.build = .absent ∧ selectionMade s) ∧
    (∃ (s : State) (f : Frame), Asks s .drive 8 readNothing f () ∧ commissioned s = true ∧ s.modes.advance = .held ∧
      s.modes.mode = derivedMode .held s.modes.build ∧ s.modes.build = .absent ∧ selectionDeferred s) ∧
    (∃ (s : State) (f : Frame), Asks s .drive 8 readNothing f () ∧ commissioned s = true ∧ s.modes.advance = .held ∧
      s.modes.mode = .halted) ∧
    (∃ (s : State) (f : Frame), Asks s .erector 15 readNothing f () ∧ commissioned s = true ∧ s.modes.build = .held ∧
      s.stack.entries = [] ∧ (s.ring.state = .idle ∨ s.ring.state = .armed) ∧
      s.modes.mode = derivedMode s.modes.advance .held ∧ s.modes.advance = .absent ∧ selectionMade s) ∧
    (∃ (s : State) (f : Frame), Asks s .erector 15 readNothing f () ∧ commissioned s = true ∧ s.modes.build = .held ∧
      s.stack.entries = [] ∧ (s.ring.state = .idle ∨ s.ring.state = .armed) ∧
      s.modes.mode = derivedMode s.modes.advance .held ∧ s.modes.advance = .absent ∧ selectionDeferred s) ∧
    (∃ (s : State) (f : Frame), Asks s .erector 15 readNothing f () ∧ commissioned s = true ∧ s.modes.build = .held ∧
      s.stack.entries = [] ∧ (s.ring.state = .idle ∨ s.ring.state = .armed) ∧ s.modes.mode = .halted) :=
  ⟨⟨asking .drive 8 [] (waiting pushing), asked 8 [], asks_of (by decide +kernel), by decide +kernel,
     by decide +kernel, by decide +kernel, by decide +kernel, 3, by decide +kernel⟩,
   ⟨asking .drive 8 [] (waiting (claiming .advance .held .absent allHeld)), asked 8 [], asks_of (by decide +kernel),
     by decide +kernel, by decide +kernel, by decide +kernel, by decide +kernel, 3, by decide +kernel⟩,
   ⟨asking .drive 8 [] (claiming .halted .held .pending crew), asked 8 [], asks_of (by decide +kernel),
     by decide +kernel⟩,
   ⟨asking .erector 15 [] (waiting (claiming .build .absent .held crew)), asked 15 [], asks_of (by decide +kernel),
     by decide +kernel, by decide +kernel, by decide +kernel, by decide +kernel, by decide +kernel, by decide +kernel, 3,
     by decide +kernel⟩,
   ⟨asking .erector 15 [] (waiting (claiming .build .absent .held allHeld)), asked 15 [], asks_of (by decide +kernel),
     by decide +kernel, by decide +kernel, by decide +kernel, by decide +kernel, by decide +kernel, by decide +kernel, 3,
     by decide +kernel⟩,
   ⟨asking .erector 15 [] (claiming .halted .absent .held crew), asked 15 [], asks_of (by decide +kernel),
     by decide +kernel⟩⟩

theorem witness_HaltSwitch :
    (∃ (s : State) (f : Frame), Asks s .cabin 36 readNothing f () ∧ commissioned s = true ∧ s.modes.mode ≠ .halted ∧
      selectionMade s) ∧
    (∃ (s : State) (f : Frame), Asks s .cabin 36 readNothing f () ∧ commissioned s = true ∧ s.modes.mode ≠ .halted ∧
      selectionDeferred s) ∧
    (∃ (s : State) (f : Frame), Asks s .cabin 37 readNothing f () ∧ commissioned s = true ∧ s.modes.mode = .halted ∧
      (∀ k ∈ activeHalts s, k.1 = .operatorHalt) ∧ s.modes.build = .absent ∧ selectionMade s) ∧
    (∃ (s : State) (f : Frame), Asks s .cabin 37 readNothing f () ∧ commissioned s = true ∧ s.modes.mode = .halted ∧
      (∀ k ∈ activeHalts s, k.1 = .operatorHalt) ∧ s.modes.build = .absent ∧ selectionDeferred s) :=
  ⟨⟨asking .cabin 36 [] (waiting pushing), asked 36 [], asks_of (by decide +kernel), by decide +kernel,
     by decide +kernel, 3, by decide +kernel⟩,
   ⟨asking .cabin 36 [] (waiting allHeld), asked 36 [], asks_of (by decide +kernel), by decide +kernel,
     by decide +kernel, 3, by decide +kernel⟩,
   ⟨asking .cabin 37 [] (waiting haltedCrew), asked 37 [], asks_of (by decide +kernel), by decide +kernel,
     by decide +kernel, by decide +kernel, by decide +kernel, 3, by decide +kernel⟩,
   ⟨asking .cabin 37 [] (waiting { haltedCrew with groups := allHeld.groups }), asked 37 [],
     asks_of (by decide +kernel), by decide +kernel, by decide +kernel, by decide +kernel, by decide +kernel, 3,
     by decide +kernel⟩⟩

theorem witness_HaltTakenAndCleared :
    (∃ (s : State) (f : Frame), Asks s .cabin 36 readNothing f () ∧ commissioned s = true) ∧
    (∃ (s : State) (f : Frame), Asks s .cabin 36 readNothing f () ∧ commissioned s = true) ∧
    (∃ (s : State) (f : Frame), Asks s .cabin 37 readNothing f () ∧ commissioned s = true ∧ s.modes.mode ≠ .halted) ∧
    (∃ (s : State) (f : Frame), Asks s .cabin 37 readNothing f () ∧ commissioned s = true ∧ s.modes.mode = .halted ∧
      (∃ k ∈ activeHalts s, k.1 ≠ .operatorHalt)) ∧
    (∃ (s : State) (f : Frame), Asks s .cabin 37 readNothing f () ∧ commissioned s = true ∧ s.modes.mode = .halted ∧
      (∀ k ∈ activeHalts s, k.1 = .operatorHalt)) :=
  ⟨⟨asking .cabin 36 [] pushing, asked 36 [], asks_of (by decide +kernel), by decide +kernel⟩,
   ⟨asking .cabin 36 [] haltedCrew, asked 36 [], asks_of (by decide +kernel), by decide +kernel⟩,
   ⟨asking .cabin 37 [] crew, asked 37 [], asks_of (by decide +kernel), by decide +kernel⟩,
   ⟨{ asking .cabin 37 [] haltedCrew with links := (asking .cabin 37 [] haltedCrew).links.set 0 { LinkRec.initial with ever := true } },
     asked 37 [], asks_of (by decide +kernel), by decide +kernel⟩,
   ⟨asking .cabin 37 [] haltedCrew, asked 37 [], asks_of (by decide +kernel), by decide +kernel⟩⟩

theorem witness_DriveReportTaken :
    (∃ (s : State) (f : Frame) (a : DriveArgs), Asks s .drive 2 readDrive f a ∧ commissioned s = true ∧
      s.cutter.run = .starting) ∧
    (∃ (s : State) (f : Frame) (a : DriveArgs), Asks s .drive 2 readDrive f a ∧ commissioned s = true ∧
      s.cutter.run = .running) ∧
    (∃ (s : State) (f : Frame) (a : DriveArgs), Asks s .drive 2 readDrive f a ∧ commissioned s = true ∧
      s.cutter.run = .stopping) ∧
    (∃ (s : State) (f : Frame) (a : DriveArgs), Asks s .drive 2 readDrive f a ∧ commissioned s = true ∧
      s.cutter.run = .rocking ∧ s.cutter.phase = some .forward) ∧
    (∃ (s : State) (f : Frame) (a : DriveArgs), Asks s .drive 2 readDrive f a ∧ commissioned s = true ∧
      s.cutter.firstPending = true) ∧
    (∃ (s : State) (f : Frame) (a : DriveArgs), Asks s .drive 2 readDrive f a ∧ commissioned s = true ∧
      s.cutter.run = .running) :=
  ⟨⟨asking .drive 2 (bytesOf (Field.u16 18 :: (List.replicate 8 [Field.u8 1, .u16 100]).flatten))
     (turned { pushing.cutter with run := .starting }),
     asked 2 (bytesOf (Field.u16 18 :: (List.replicate 8 [Field.u8 1, .u16 100]).flatten)), ⟨18,
     Vector.replicate 8 (true, 100)⟩, asks_of (by decide +kernel), by decide +kernel⟩,
   ⟨asking .drive 2 (bytesOf (Field.u16 17 :: (List.replicate 8 [Field.u8 1, .u16 100]).flatten)) pushing,
     asked 2 (bytesOf (Field.u16 17 :: (List.replicate 8 [Field.u8 1, .u16 100]).flatten)), ⟨17,
     Vector.replicate 8 (true, 100)⟩, asks_of (by decide +kernel), by decide +kernel⟩,
   ⟨asking .drive 2 (bytesOf (Field.u16 0 :: (List.replicate 8 [Field.u8 1, .u16 100]).flatten))
     (turned { pushing.cutter with run := .stopping }),
     asked 2 (bytesOf (Field.u16 0 :: (List.replicate 8 [Field.u8 1, .u16 100]).flatten)), ⟨0,
     Vector.replicate 8 (true, 100)⟩, asks_of (by decide +kernel), by decide +kernel⟩,
   ⟨asking .drive 2 (bytesOf (Field.u16 3 :: (List.replicate 8 [Field.u8 1, .u16 100]).flatten))
     (turned { pushing.cutter with run := .rocking, phase := some .forward, rock := some 99000, reference := 5, ramp := none }),
     asked 2 (bytesOf (Field.u16 3 :: (List.replicate 8 [Field.u8 1, .u16 100]).flatten)), ⟨3,
     Vector.replicate 8 (true, 100)⟩, asks_of (by decide +kernel), by decide +kernel⟩,
   ⟨asking .drive 2 (bytesOf (Field.u16 0 :: (List.replicate 8 [Field.u8 1, .u16 100]).flatten)) crew,
     asked 2 (bytesOf (Field.u16 0 :: (List.replicate 8 [Field.u8 1, .u16 100]).flatten)), ⟨0,
     Vector.replicate 8 (true, 100)⟩, asks_of (by decide +kernel), by decide +kernel⟩,
   ⟨asking .drive 2 (bytesOf (Field.u16 20 :: (List.replicate 8 [Field.u8 0, .u16 100]).flatten)) pushing,
     asked 2 (bytesOf (Field.u16 20 :: (List.replicate 8 [Field.u8 0, .u16 100]).flatten)), ⟨20,
     Vector.replicate 8 (false, 100)⟩, asks_of (by decide +kernel), by decide +kernel⟩⟩

theorem witness_CutterStarts :
    (∃ (s : State) (f : Frame) (d : Direction) (v : Nat), Asks s .drive 9 readCutterStart f (d, v) ∧
      commissioned s = true ∧ s.cutter.run = .stopped ∧ s.modes.mode ≠ .advance ∧ s.modes.mode ≠ .continuous) ∧
    (∃ (s : State) (f : Frame) (d : Direction) (v : Nat), Asks s .drive 9 readCutterStart f (d, v) ∧
      commissioned s = true ∧ s.cutter.run = .stopped ∧ (s.modes.mode = .advance ∨ s.modes.mode = .continuous) ∧
      s.chamber.status = .lost) ∧
    (∃ (s : State) (f : Frame) (d : Direction) (v : Nat), Asks s .drive 9 readCutterStart f (d, v) ∧
      commissioned s = true ∧ s.cutter.run = .stopped ∧ (s.modes.mode = .advance ∨ s.modes.mode = .continuous) ∧
      s.chamber.status ≠ .lost ∧
      (activeProfile s).startBand < (s.chamber.estimate - (activeProfile s).faceTarget).natAbs) ∧
    (∃ (s : State) (f : Frame) (d : Direction) (v : Nat), Asks s .drive 9 readCutterStart f (d, v) ∧
      commissioned s = true ∧ s.cutter.run = .stopped ∧ (s.modes.mode = .advance ∨ s.modes.mode = .continuous) ∧
      s.chamber.status ≠ .lost ∧
      (activeProfile s).startBand < (s.chamber.estimate - (activeProfile s).faceTarget).natAbs) ∧
    (∃ (s : State) (f : Frame) (d : Direction) (v : Nat), Asks s .drive 9 readCutterStart f (d, v) ∧
      commissioned s = true ∧ s.cutter.run = .stopped ∧ (s.modes.mode = .advance ∨ s.modes.mode = .continuous) ∧
      s.chamber.status ≠ .lost ∧
      (s.chamber.estimate - (activeProfile s).faceTarget).natAbs ≤ (activeProfile s).startBand ∧ motorsLow s = true) ∧
    (∃ (s : State) (f : Frame) (d : Direction) (v : Nat), Asks s .drive 9 readCutterStart f (d, v) ∧
      commissioned s = true ∧ s.cutter.run = .stopped ∧ (s.modes.mode = .advance ∨ s.modes.mode = .continuous) ∧
      s.chamber.status ≠ .lost ∧
      (s.chamber.estimate - (activeProfile s).faceTarget).natAbs ≤ (activeProfile s).startBand ∧ motorsLow s = false ∧
      s.cutter.torqueCeiling = 0) ∧
    (∃ (s : State) (f : Frame) (d : Direction) (v : Nat), Asks s .drive 9 readCutterStart f (d, v) ∧
      commissioned s = true ∧ s.cutter.run = .stopped ∧ (s.modes.mode = .advance ∨ s.modes.mode = .continuous) ∧
      s.chamber.status ≠ .lost ∧
      (s.chamber.estimate - (activeProfile s).faceTarget).natAbs ≤ (activeProfile s).startBand ∧ motorsLow s = false ∧
      s.cutter.torqueCeiling ≠ 0 ∧ 0 < s.cutter.measured) ∧
    (∃ (s : State) (f : Frame) (d : Direction) (v : Nat), Asks s .drive 9 readCutterStart f (d, v) ∧
      commissioned s = true ∧ s.cutter.run = .stopped ∧ (s.modes.mode = .advance ∨ s.modes.mode = .continuous) ∧
      s.chamber.status ≠ .lost ∧
      (s.chamber.estimate - (activeProfile s).faceTarget).natAbs ≤ (activeProfile s).startBand ∧ motorsLow s = false ∧
      s.cutter.torqueCeiling ≠ 0 ∧ s.cutter.measured = 0) ∧
    (∃ (s : State) (f : Frame) (d : Direction) (v : Nat), Asks s .drive 9 readCutterStart f (d, v) ∧
      commissioned s = true ∧ s.cutter.run = .stopped ∧ (s.modes.mode = .advance ∨ s.modes.mode = .continuous) ∧
      s.chamber.status ≠ .lost ∧
      (s.chamber.estimate - (activeProfile s).faceTarget).natAbs ≤ (activeProfile s).startBand ∧ motorsLow s = false ∧
      s.cutter.torqueCeiling ≠ 0 ∧ s.cutter.measured = 0) :=
  ⟨⟨asking .drive 9 [0, 0, 20] crew, asked 9 [0, 0, 20], .clockwise, 20, asks_of (by decide +kernel),
     by decide +kernel⟩,
   ⟨asking .drive 9 [0, 0,
     20] ({ stoppedAt with chamber := { pushing.chamber with status := .lost } }),
     asked 9 [0, 0, 20], .clockwise, 20, asks_of (by decide +kernel), by decide +kernel⟩,
   ⟨asking .drive 9 [0, 0,
     20] ({ stoppedAt with chamber := { pushing.chamber with estimate := 311 } }),
     asked 9 [0, 0, 20], .clockwise, 20, asks_of (by decide +kernel), by decide +kernel⟩,
   ⟨asking .drive 9 [0, 0,
     20] ({ stoppedAt with chamber := { pushing.chamber with estimate := 249 } }),
     asked 9 [0, 0, 20], .clockwise, 20, asks_of (by decide +kernel), by decide +kernel⟩,
   ⟨asking .drive 9 [0, 0,
     20] (turned { pushing.cutter with run := .stopped, motors := (Vector.replicate 8 { driving with membership := .out .share }).set 0 driving }),
     asked 9 [0, 0, 20], .clockwise, 20, asks_of (by decide +kernel), by decide +kernel⟩,
   ⟨asking .drive 9 [0, 0, 20] (turned { pushing.cutter with run := .stopped, torqueCeiling := 0 }), asked 9 [0, 0,
     20], .clockwise, 20, asks_of (by decide +kernel), by decide +kernel⟩,
   ⟨asking .drive 9 [0, 0, 20] (turned { pushing.cutter with run := .stopped, measured := 1 }), asked 9 [0, 0, 20],
     .clockwise, 20, asks_of (by decide +kernel), by decide +kernel⟩,
   ⟨asking .drive 9 [1, 255,
     255] ({ stoppedAt with chamber := { pushing.chamber with estimate := 310 } }),
     asked 9 [1, 255, 255], .anticlockwise, 65535, asks_of (by decide +kernel), by decide +kernel⟩,
   ⟨asking .drive 9 [0, 0,
     0] ({ stoppedAt with chamber := { pushing.chamber with estimate := 250 } }),
     asked 9 [0, 0, 0], .clockwise, 0, asks_of (by decide +kernel), by decide +kernel⟩⟩

theorem witness_SpeedRequested :
    (∃ (s t : State) (f : Frame) (v : Nat), commissioned s = true ∧ turning s.cutter.run = true ∧
      ((Asks s .drive 10 readWide f v ∧
      exec (.cutterSpeed .drive) s = .next t ∨ Asks s .drive 9 readCutterStart f (s.cutter.direction, v) ∧
      exec (.cutterStart .drive) s = .next t))) ∧
    (∃ (s t : State) (f : Frame) (v : Nat), commissioned s = true ∧ turning s.cutter.run = true ∧
      ((Asks s .drive 10 readWide f v ∧
      exec (.cutterSpeed .drive) s = .next t ∨ Asks s .drive 9 readCutterStart f (s.cutter.direction, v) ∧
      exec (.cutterStart .drive) s = .next t))) ∧
    (∃ (s : State) (f : Frame) (v : Nat), commissioned s = true ∧ Asks s .drive 10 readWide f v ∧
      turning s.cutter.run = true) ∧
    (∃ (s : State) (f : Frame) (v : Nat), commissioned s = true ∧ Asks s .drive 10 readWide f v ∧
      turning s.cutter.run = false) ∧
    (∃ (s : State) (f : Frame) (d : Direction) (v : Nat), commissioned s = true ∧
      Asks s .drive 9 readCutterStart f (d, v) ∧ turning s.cutter.run = true ∧ d ≠ s.cutter.direction) ∧
    (∃ (s : State) (f : Frame) (d : Direction) (v : Nat), commissioned s = true ∧
      Asks s .drive 9 readCutterStart f (d, v) ∧ turning s.cutter.run = false ∧ s.cutter.run ≠ .stopped) :=
  ⟨⟨asking .drive 10 [0, 0, 0, 0, 0, 0, 0, 41] pushing, _, asked 10 [0, 0, 0, 0, 0, 0, 0, 41], 41, by decide +kernel, by decide +kernel,
     .inl ⟨asks_of (by decide +kernel), next_of (by decide +kernel)⟩⟩,
   ⟨asking .drive 9 [0, 0, 20] pushing, _, asked 9 [0, 0, 20], 20, by decide +kernel, by decide +kernel,
     .inr ⟨asks_of (by decide +kernel), next_of (by decide +kernel)⟩⟩,
   ⟨asking .drive 10 [0, 0, 0, 0, 0, 0, 0, 0] pushing, asked 10 [0, 0, 0, 0, 0, 0, 0, 0], 0, by decide +kernel, asks_of (by decide +kernel),
     by decide +kernel⟩,
   ⟨asking .drive 10 [0, 0, 0, 0, 0, 0, 0, 1] crew, asked 10 [0, 0, 0, 0, 0, 0, 0, 1], 1, by decide +kernel, asks_of (by decide +kernel),
     by decide +kernel⟩,
   ⟨asking .drive 9 [1, 0, 20] pushing, asked 9 [1, 0, 20], .anticlockwise, 20, by decide +kernel,
     asks_of (by decide +kernel), by decide +kernel⟩,
   ⟨asking .drive 9 [0, 0, 20] (turned { pushing.cutter with run := .stopping }), asked 9 [0, 0, 20], .clockwise, 20,
     by decide +kernel, asks_of (by decide +kernel), by decide +kernel⟩⟩

theorem witness_CutterStops :
    (∃ (s : State) (f : Frame) (p : Port), (p = .drive ∨ p = .cabin) ∧ Asks s p 11 readNothing f () ∧
      commissioned s = true) ∧
    (∃ (s : State) (f : Frame) (p : Port), (p = .drive ∨ p = .cabin) ∧ Asks s p 11 readNothing f () ∧
      commissioned s = true) ∧
    (∃ (s : State) (f : Frame) (p : Port), (p = .drive ∨ p = .cabin) ∧ Asks s p 11 readNothing f () ∧
      commissioned s = true) :=
  ⟨⟨asking .drive 11 [] pushing, asked 11 [], .drive, by decide +kernel, asks_of (by decide +kernel),
     by decide +kernel⟩,
   ⟨asking .cabin 11 [] (turned { pushing.cutter with run := .rocking, phase := some .reverse, rock := some 99000 }),
     asked 11 [], .cabin, by decide +kernel, asks_of (by decide +kernel), by decide +kernel⟩,
   ⟨asking .cabin 11 [] crew, asked 11 [], .cabin, by decide +kernel, asks_of (by decide +kernel), by decide +kernel⟩⟩

theorem witness_RockingAttempt :
    (∃ (s : State) (f : Frame), Asks s .drive 12 readNothing f () ∧ commissioned s = true ∧ s.cutter.run = .rocking) ∧
    (∃ (s : State) (f : Frame), Asks s .drive 12 readNothing f () ∧ commissioned s = true ∧ s.cutter.run ≠ .rocking ∧
      s.cutter.run ≠ .jammed) ∧
    (∃ (s : State) (f : Frame), Asks s .drive 12 readNothing f () ∧ commissioned s = true ∧ s.cutter.run = .jammed ∧
      s.modes.mode ≠ .advance ∧ s.modes.mode ≠ .continuous) ∧
    (∃ (s : State) (f : Frame), Asks s .drive 12 readNothing f () ∧ commissioned s = true ∧ s.cutter.run = .jammed ∧
      (s.modes.mode = .advance ∨ s.modes.mode = .continuous) ∧ s.chamber.status = .lost) ∧
    (∃ (s : State) (f : Frame), Asks s .drive 12 readNothing f () ∧ commissioned s = true ∧ s.cutter.run = .jammed ∧
      (s.modes.mode = .advance ∨ s.modes.mode = .continuous) ∧ s.chamber.status ≠ .lost ∧ motorsLow s = true) ∧
    (∃ (s : State) (f : Frame), Asks s .drive 12 readNothing f () ∧ commissioned s = true ∧ s.cutter.run = .jammed ∧
      (s.modes.mode = .advance ∨ s.modes.mode = .continuous) ∧ s.chamber.status ≠ .lost ∧ motorsLow s = false) ∧
    (∃ (s : State) (began : Nat), s.powered = true ∧ s.cutter.run = .rocking ∧ s.cutter.rock = some began ∧
      began + (activeProfile s).rockTime ≤ s.now ∧ s.cutter.phase = some .reverse) ∧
    (∃ (s : State) (began : Nat), s.powered = true ∧ s.cutter.run = .rocking ∧ s.cutter.rock = some began ∧
      began + (activeProfile s).rockTime ≤ s.now ∧ s.cutter.phase = some .forward ∧ s.cutter.attempts = 1) ∧
    (∃ (s : State) (began : Nat), s.powered = true ∧ s.cutter.run = .rocking ∧ s.cutter.rock = some began ∧
      began + (activeProfile s).rockTime ≤ s.now ∧ s.cutter.phase = some .forward ∧ s.cutter.attempts = 2) :=
  ⟨⟨asking .drive 12 [] (turned { pushing.cutter with run := .rocking, phase := some .reverse, rock := some 94000, reference := 5, attempts := 3 }),
     asked 12 [], asks_of (by decide +kernel), by decide +kernel⟩,
   ⟨asking .drive 12 [] crew, asked 12 [], asks_of (by decide +kernel), by decide +kernel⟩,
   ⟨asking .drive 12 [] ({ crew with cutter := { pushing.cutter with run := .jammed } }), asked 12 [],
     asks_of (by decide +kernel), by decide +kernel⟩,
   ⟨asking .drive 12 [] ({ pushing with cutter := { pushing.cutter with run := .jammed }, chamber := Chamber.initial }),
     asked 12 [], asks_of (by decide +kernel), by decide +kernel⟩,
   ⟨asking .drive 12 [] ({ pushing with cutter := { Cutter.initial with run := .jammed } }), asked 12 [],
     asks_of (by decide +kernel), by decide +kernel⟩,
   ⟨asking .drive 12 [] (turned { pushing.cutter with run := .jammed, reference := 0, attempts := 0 }), asked 12 [],
     asks_of (by decide +kernel), by decide +kernel⟩,
   ⟨turned { pushing.cutter with run := .rocking, phase := some .reverse, rock := some 94000, reference := 5, attempts := 3 },
     94000, by decide +kernel⟩,
   ⟨turned { pushing.cutter with run := .rocking, phase := some .forward, rock := some 94000, reference := 5, attempts := 1 },
     94000, by decide +kernel⟩,
   ⟨turned { pushing.cutter with run := .rocking, phase := some .forward, rock := some 94000, reference := 5, attempts := 2 },
     94000, by decide +kernel⟩⟩

theorem witness_MotorsComeAndGo :
    (∃ (s : State) (f : Frame) (m : Fin 8), Asks s .drive 13 readByte f m.val ∧ commissioned s = true ∧
      s.cutter.run ≠ .stopped ∧ s.cutter.run ≠ .jammed) ∧
    (∃ (s : State) (f : Frame) (m : Fin 8), Asks s .drive 13 readByte f m.val ∧ commissioned s = true ∧
      (s.cutter.run = .stopped ∨ s.cutter.run = .jammed) ∧ s.cutter.motors[m].ready = false) ∧
    (∃ (s : State) (f : Frame) (m : Fin 8), Asks s .drive 13 readByte f m.val ∧ commissioned s = true ∧
      (s.cutter.run = .stopped ∨ s.cutter.run = .jammed) ∧ s.cutter.motors[m].ready = true ∧
      s.cutter.motors[m].membership = .isIn) ∧
    (∃ (s : State) (f : Frame) (m : Fin 8), Asks s .drive 13 readByte f m.val ∧ commissioned s = true ∧
      (s.cutter.run = .stopped ∨ s.cutter.run = .jammed) ∧ s.cutter.motors[m].ready = true ∧
      s.cutter.motors[m].membership ≠ .isIn) ∧
    (∃ (s : State) (m : Fin 8) (began : Nat), s.powered = true ∧ s.cutter.motors[m].membership = .isIn ∧
      s.cutter.motors[m].deviation = some began ∧ began + (activeProfile s).shareTime ≤ s.now) :=
  ⟨⟨asking .drive 13 [7] pushing, asked 13 [7], 7, asks_of (by decide +kernel), by decide +kernel⟩,
   ⟨asking .drive 13 [7] crew, asked 13 [7], 7, asks_of (by decide +kernel), by decide +kernel⟩,
   ⟨asking .drive 13 [7] stoppedAt,
     asked 13 [7], 7, asks_of (by decide +kernel), by decide +kernel⟩,
   ⟨asking .drive 13 [7] (turned { pushing.cutter with run := .jammed, motors := (Vector.replicate 8 driving).set 7 { driving with membership := .out .share } }),
     asked 13 [7], 7, asks_of (by decide +kernel), by decide +kernel⟩,
   ⟨turned { pushing.cutter with motors := (Vector.replicate 8 driving).set 7 { driving with inShare := false, deviation := some 97000 } },
     7, 97000, by decide +kernel⟩⟩

theorem witness_RevolutionIndex :
    (∃ (s : State) (ms : Nat), s.powered = true ∧ (ms = 0 ∨ s.cutter.run ≠ .running)) ∧
    (∃ (s : State) (ms : Nat), s.powered = true ∧ (ms = 0 ∨ s.cutter.run ≠ .running)) ∧
    (∃ (s : State) (ms : Nat), s.powered = true ∧ 1 ≤ ms ∧ s.cutter.run = .running ∧ s.cutter.indexRef = some 40000 ∧
      s.cutter.indexLost = false) ∧
    (∃ (s : State) (ms : Nat), s.powered = true ∧ 1 ≤ ms ∧ s.cutter.run = .running ∧ s.cutter.indexRef = none) ∧
    (∃ (s : State) (began : Nat), s.powered = true ∧ s.cutter.run = .running ∧ 0 < s.cutter.reference ∧
      s.cutter.watch = some began ∧ began + 1200000 / s.cutter.reference ≤ s.now) :=
  ⟨⟨pushing, 0, by decide +kernel⟩,
   ⟨crew, 5, by decide +kernel⟩,
   ⟨pushing, 1, by decide +kernel⟩,
   ⟨turned { pushing.cutter with indexRef := none, watch := none }, 1, by decide +kernel⟩,
   ⟨pushing, 40000, by decide +kernel⟩⟩

theorem witness_RampAndJamTimers :
    (∃ (s : State) (began target : Nat), s.powered = true ∧ s.cutter.ramp = some began ∧
      began + 500 * (s.cutter.rampSteps + 1) ≤ s.now ∧
      target = (if s.cutter.run = .stopping then 0 else s.cutter.requested)) ∧
    (∃ (s : State) (began target : Nat), s.powered = true ∧ s.cutter.ramp = some began ∧
      began + 500 * (s.cutter.rampSteps + 1) ≤ s.now ∧
      target = (if s.cutter.run = .stopping then 0 else s.cutter.requested)) ∧
    (∃ (s : State) (began : Nat), s.powered = true ∧ turning s.cutter.run = true ∧ s.cutter.jam = some began ∧
      began + (activeProfile s).jamTime ≤ s.now) ∧
    (∃ (s : State) (began : Nat), s.powered = true ∧ turning s.cutter.run = true ∧ s.cutter.jam = some began ∧
      began + (activeProfile s).jamTime ≤ s.now) :=
  ⟨⟨turned { pushing.cutter with ramp := some 98500, rampSteps := 2, requested := 21 }, 98500, 21, by decide +kernel⟩,
   ⟨turned { pushing.cutter with run := .stopping, reference := 1, ramp := some 98500, rampSteps := 2 }, 98500, 0,
     by decide +kernel⟩,
   ⟨turned { pushing.cutter with run := .starting, jam := some 98000 }, 98000, by decide +kernel⟩,
   ⟨turned { pushing.cutter with run := .running, jam := some 98000 }, 98000, by decide +kernel⟩⟩

theorem witness_TurningStaysAllowed :
    ∃ (s t : State), TurningAllowed s ∧ step s = .next t :=
  ⟨{ settled pushing with pending := [.estimateLossExpiry] }, _, by unfold TurningAllowed; decide +kernel,
     next_of (by decide +kernel)⟩

theorem witness_LargestRemainder :
    (∃ (shares : Vector Nat 6), sumNat shares ≠ 0) ∧
    (∃ (shares : Vector Nat 6), sumNat shares ≠ 0) ∧
    (∃ (shares : Vector Nat 6), sumNat shares ≠ 0) ∧
    (∃ (shares : Vector Nat 6) (a : Int) (i j : Fin 6), sumNat shares ≠ 0 ∧ shares[i] ≠ 0 ∧ shares[j] ≠ 0 ∧
      (signedPortions shares a)[j].natAbs = a.natAbs * shares[j] / sumNat shares + 1 ∧
      (a.natAbs * shares[j] % sumNat shares < a.natAbs * shares[i] % sumNat shares ∨ (a.natAbs * shares[j] % sumNat shares = a.natAbs * shares[i] % sumNat shares ∧
      i < j))) ∧
    (∃ (shares : Vector Nat 6) (a : Int) (i j : Fin 6), sumNat shares ≠ 0 ∧ shares[i] ≠ 0 ∧ shares[j] ≠ 0 ∧
      (signedPortions shares a)[j].natAbs = a.natAbs * shares[j] / sumNat shares + 1 ∧
      (a.natAbs * shares[j] % sumNat shares < a.natAbs * shares[i] % sumNat shares ∨ (a.natAbs * shares[j] % sumNat shares = a.natAbs * shares[i] % sumNat shares ∧
      i < j))) :=
  ⟨⟨#v[150, 150, 200, 0, 150, 150], by decide +kernel⟩,
   ⟨#v[150, 150, 200, 0, 150, 150], by decide +kernel⟩,
   ⟨#v[150, 150, 200, 0, 150, 150], by decide +kernel⟩,
   ⟨#v[1, 2, 4, 0, 0, 0], 3, 1, 2, by decide +kernel⟩,
   ⟨#v[150, 150, 200, 0, 150, 150], 2702, 0, 1, by decide +kernel⟩⟩

theorem witness_DoseTaken :
    (∃ (s : State) (f : Frame) (i : Fin 6), Asks s .grout 21 readByte f i.val ∧ commissioned s = true ∧
      s.permits.grout.allowed = false) ∧
    (∃ (s : State) (f : Frame) (i : Fin 6), Asks s .grout 21 readByte f i.val ∧ commissioned s = true ∧
      s.permits.grout.allowed = true ∧ s.grout.lines[i].service ≠ .inService) ∧
    (∃ (s : State) (f : Frame) (i : Fin 6) (before : List Descriptor) (d : Dose) (rest : List Descriptor),
      Asks s .grout 21 readByte f i.val ∧ commissioned s = true ∧ s.permits.grout.allowed = true ∧
      s.grout.lines[i].service = .inService ∧
      s.grout.lines[i].descriptors = before ++ { dose := d, state := .taken } :: rest ∧ (∀ x ∈ before,
      x.state ≠ .taken)) ∧
    (∃ (s : State) (f : Frame) (i : Fin 6), Asks s .grout 21 readByte f i.val ∧ commissioned s = true ∧
      s.permits.grout.allowed = true ∧ s.grout.lines[i].service = .inService ∧ (∀ x ∈ s.grout.lines[i].descriptors,
      x.state ≠ .taken ∧ x.state ≠ .posted)) ∧
    (∃ (s : State) (f : Frame) (i : Fin 6) (before : List Descriptor) (d : Dose) (rest : List Descriptor),
      Asks s .grout 21 readByte f i.val ∧ commissioned s = true ∧ s.permits.grout.allowed = true ∧
      s.grout.lines[i].service = .inService ∧
      s.grout.lines[i].descriptors = before ++ { dose := d, state := .posted } :: rest ∧ (∀ x ∈ before ++ rest,
      x.state ≠ .taken) ∧ (∀ x ∈ before, x.state ≠ .posted)) :=
  ⟨⟨asking .grout 21 [3] (settled haltedCrew), asked 21 [3], 3, asks_of (by decide +kernel), by decide +kernel⟩,
   ⟨asking .grout 21 [3] blockedLine,
     asked 21 [3], 3, asks_of (by decide +kernel), by decide +kernel⟩,
   ⟨asking .grout 21 [3] (grouting [⟨dose 0, .taken⟩, ⟨dose 1, .posted⟩]), asked 21 [3], 3, [], dose 0, [⟨dose 1,
     .posted⟩], asks_of (by decide +kernel), by decide +kernel⟩,
   ⟨asking .grout 21 [3] (grouting [⟨dose 0, .closed 8000 300 .full⟩]), asked 21 [3], 3, asks_of (by decide +kernel),
     by decide +kernel⟩,
   ⟨asking .grout 21 [3] (grouting [⟨dose 0, .closed 8000 300 .full⟩, ⟨dose 1, .posted⟩]), asked 21 [3], 3, [⟨dose 0,
     .closed 8000 300 .full⟩], dose 1, [], asks_of (by decide +kernel), by decide +kernel⟩⟩

theorem witness_DoseClosed :
    (∃ (s : State) (f : Frame) (i : Fin 6) (a : DoseCloseArgs), Asks s .grout 22 readDoseClose f a ∧
      commissioned s = true ∧ a.line = i.val ∧ a.actual ≤ 100000 ∧ a.peak ≤ 2000 ∧
      (∀ x ∈ s.grout.lines[i].descriptors, x.state ≠ .taken)) ∧
    (∃ (s : State) (f : Frame) (i : Fin 6) (a : DoseCloseArgs) (before : List Descriptor) (d : Dose)
      (rest : List Descriptor), Asks s .grout 22 readDoseClose f a ∧ commissioned s = true ∧ a.line = i.val ∧
      a.actual ≤ 100000 ∧ a.peak ≤ 2000 ∧
      s.grout.lines[i].descriptors = before ++ { dose := d, state := .taken } :: rest ∧ (∀ x ∈ before,
      x.state ≠ .taken) ∧ a.sequence ≠ d.sequence) ∧
    (∃ (s : State) (f : Frame) (i : Fin 6) (a : DoseCloseArgs) (before : List Descriptor) (d : Dose)
      (rest : List Descriptor), Asks s .grout 22 readDoseClose f a ∧ commissioned s = true ∧ a.line = i.val ∧
      a.actual ≤ 100000 ∧ a.peak ≤ 2000 ∧
      s.grout.lines[i].descriptors = before ++ { dose := d, state := .taken } :: rest ∧ (∀ x ∈ before,
      x.state ≠ .taken) ∧ a.sequence = d.sequence ∧ s.grout.lines[i].service = .inService) ∧
    (∃ (s : State) (f : Frame) (i : Fin 6) (a : DoseCloseArgs) (before : List Descriptor) (d : Dose)
      (rest : List Descriptor), Asks s .grout 22 readDoseClose f a ∧ commissioned s = true ∧ a.line = i.val ∧
      a.actual ≤ 100000 ∧ a.peak ≤ 2000 ∧
      s.grout.lines[i].descriptors = before ++ { dose := d, state := .taken } :: rest ∧ (∀ x ∈ before,
      x.state ≠ .taken) ∧ a.sequence = d.sequence ∧ s.grout.lines[i].service = .inService) ∧
    (∃ (s : State) (f : Frame) (i : Fin 6) (a : DoseCloseArgs) (before : List Descriptor) (d : Dose)
      (rest : List Descriptor), Asks s .grout 22 readDoseClose f a ∧ commissioned s = true ∧ a.line = i.val ∧
      a.actual ≤ 100000 ∧ a.peak ≤ 2000 ∧
      s.grout.lines[i].descriptors = before ++ { dose := d, state := .taken } :: rest ∧ (∀ x ∈ before,
      x.state ≠ .taken) ∧ a.sequence = d.sequence ∧ s.grout.lines[i].service = .inService) ∧
    (∃ (s : State) (f : Frame) (i : Fin 6) (a : DoseCloseArgs) (before : List Descriptor) (d : Dose)
      (rest : List Descriptor), Asks s .grout 22 readDoseClose f a ∧ commissioned s = true ∧ a.line = i.val ∧
      a.actual ≤ 100000 ∧ a.peak ≤ 2000 ∧
      s.grout.lines[i].descriptors = before ++ { dose := d, state := .taken } :: rest ∧ (∀ x ∈ before,
      x.state ≠ .taken) ∧ a.sequence = d.sequence ∧ a.outcome = .pressureLimit ∧ a.actual < d.target) ∧
    (∃ (s : State) (f : Frame) (i : Fin 6) (a : DoseCloseArgs) (before : List Descriptor) (d : Dose)
      (rest : List Descriptor), Asks s .grout 22 readDoseClose f a ∧ commissioned s = true ∧ a.line = i.val ∧
      a.actual ≤ 100000 ∧ a.peak ≤ 2000 ∧
      s.grout.lines[i].descriptors = before ++ { dose := d, state := .taken } :: rest ∧ (∀ x ∈ before,
      x.state ≠ .taken) ∧ a.sequence = d.sequence ∧ s.grout.lines[i].service = .blocked) ∧
    (∃ (s : State) (f : Frame) (i : Fin 6) (a : DoseCloseArgs) (before : List Descriptor) (d : Dose)
      (rest : List Descriptor), Asks s .grout 22 readDoseClose f a ∧ commissioned s = true ∧ a.line = i.val ∧
      a.actual ≤ 100000 ∧ a.peak ≤ 2000 ∧
      s.grout.lines[i].descriptors = before ++ { dose := d, state := .taken } :: rest ∧ (∀ x ∈ before,
      x.state ≠ .taken) ∧ a.sequence = d.sequence ∧ a.outcome = .fault ∧ s.grout.lines[i].service = .inService ∧
      ∀ k : Fin 6, k ≠ i → s.grout.lines[k].service ≠ .inService) :=
  ⟨⟨asking .grout 22 [3, 0, 0, 1, 134, 160, 7, 208, 0] (grouting [⟨dose 0, .posted⟩]), asked 22 [3, 0, 0, 1, 134, 160,
     7, 208, 0], 3, ⟨3, 0, 100000, 2000, .full⟩, asks_of (by decide +kernel), by decide +kernel⟩,
   ⟨asking .grout 22 [3, 1, 0, 1, 134, 160, 7, 208, 0] (grouting [⟨dose 0, .taken⟩]), asked 22 [3, 1, 0, 1, 134, 160,
     7, 208, 0], 3, ⟨3, 1, 100000, 2000, .full⟩, [], dose 0, [], asks_of (by decide +kernel), by decide +kernel⟩,
   ⟨asking .grout 22 [3, 0, 0, 1, 134, 160, 7, 208, 0] (grouting [⟨dose 0, .taken⟩, ⟨dose 1, .posted⟩]), asked 22 [3,
     0, 0, 1, 134, 160, 7, 208, 0], 3, ⟨3, 0, 100000, 2000, .full⟩, [], dose 0, [⟨dose 1, .posted⟩],
     asks_of (by decide +kernel), by decide +kernel⟩,
   ⟨asking .grout 22 [3, 0, 0, 1, 134, 160, 7, 208, 1] (grouting [⟨dose 0, .taken⟩, ⟨dose 1, .posted⟩]), asked 22 [3,
     0, 0, 1, 134, 160, 7, 208, 1], 3, ⟨3, 0, 100000, 2000, .pressureLimit⟩, [], dose 0, [⟨dose 1, .posted⟩],
     asks_of (by decide +kernel), by decide +kernel⟩,
   ⟨asking .grout 22 [3, 0, 0, 1, 134, 160, 7, 208, 2] (grouting [⟨dose 0, .taken⟩, ⟨dose 1, .posted⟩]), asked 22 [3,
     0, 0, 1, 134, 160, 7, 208, 2], 3, ⟨3, 0, 100000, 2000, .fault⟩, [], dose 0, [⟨dose 1, .posted⟩],
     asks_of (by decide +kernel), by decide +kernel⟩,
   ⟨asking .grout 22 [3, 0, 0, 0, 20, 180, 1, 165, 1] (grouting [⟨dose 0, .taken⟩]), asked 22 [3, 0, 0, 0, 20, 180, 1,
     165, 1], 3, ⟨3, 0, 5300, 421, .pressureLimit⟩, [], dose 0, [], asks_of (by decide +kernel), by decide +kernel⟩,
   ⟨asking .grout 22 [3, 0, 0, 0, 20, 180, 1, 165, 2]
     { blockedLine with grout := { blockedLine.grout with lines := blockedLine.grout.lines.set 3 { Line.initial with service := .blocked, descriptors := [⟨dose 0, .taken⟩] } } },
     asked 22 [3, 0, 0, 0, 20, 180, 1, 165, 2], 3, ⟨3, 0, 5300, 421, .fault⟩, [], dose 0, [],
     asks_of (by decide +kernel), by decide +kernel⟩,
   ⟨asking .grout 22 [3, 0, 0, 0, 20, 180, 1, 165, 2] (onlyLine [⟨dose 0, .taken⟩]), asked 22 [3, 0, 0, 0, 20, 180, 1,
     165, 2], 3, ⟨3, 0, 5300, 421, .fault⟩, [], dose 0, [], asks_of (by decide +kernel), by decide +kernel⟩⟩

theorem witness_LineStateSet :
    (∃ (s : State) (f : Frame) (i : Fin 6) (a : LineStateArgs), Asks s .grout 23 readLineState f a ∧
      commissioned s = true ∧ a.line = i.val ∧ s.grout.lines[i].service = .inService ∧ a.service ≠ .inService ∧
      ∃ k : Fin 6, k ≠ i ∧ s.grout.lines[k].service = .inService ∧ 0 < (activeProfile s).shares[k]) ∧
    (∃ (s : State) (f : Frame) (i : Fin 6) (a : LineStateArgs), Asks s .grout 23 readLineState f a ∧
      commissioned s = true ∧ a.line = i.val ∧ s.grout.lines[i].service = .inService ∧ a.service ≠ .inService ∧
      ∀ k : Fin 6, k ≠ i → s.grout.lines[k].service ≠ .inService) ∧
    (∃ (s : State) (f : Frame) (i : Fin 6) (a : LineStateArgs), Asks s .grout 23 readLineState f a ∧
      commissioned s = true ∧ a.line = i.val ∧ s.grout.lines[i].service = .blocked) :=
  ⟨⟨asking .grout 23 [3, 1, 2] (grouting [⟨dose 0, .posted⟩]), asked 23 [3, 1, 2], 3, ⟨3, .blocked, .quarter⟩,
     asks_of (by decide +kernel), by decide +kernel, by decide +kernel, by decide +kernel, by decide +kernel, 0,
     by decide +kernel⟩,
   ⟨asking .grout 23 [3, 1, 2] (onlyLine [⟨dose 0, .posted⟩]), asked 23 [3, 1, 2], 3, ⟨3, .blocked, .quarter⟩,
     asks_of (by decide +kernel), by decide +kernel⟩,
   ⟨asking .grout 23 [3, 0,
     1] blockedLine,
     asked 23 [3, 0, 1], 3, ⟨3, .inService, .half⟩, asks_of (by decide +kernel), by decide +kernel⟩⟩

/-- The hypotheses of EstimateMadeAndLost. -/
abbrev premisesEstimateMadeAndLost (s : State) (f : Frame) (a : SpoilArgs) (values : List Int) (p : Profile) : Prop :=
  Asks s .spoil 24 readSpoil f a ∧ commissioned s = true ∧ ScrewHeld s ∧ p = activeProfile s ∧
    (values.Perm ((List.finRange 5).filterMap fun k => if a.flags[k] = true ∧
    a.pressures[k] ≤ 1000 then some (((a.pressures[k] : Nat) : Int) + roundAway ((p.unitWeight : Int) * (constantsOf s).heights[k]) 10000) else none)) ∧
    values.Pairwise (· ≤ ·)

theorem witness_EstimateMadeAndLost :
    (∃ (s : State) (f : Frame) (a : SpoilArgs) (values : List Int) (p : Profile),
      premisesEstimateMadeAndLost s f a values p) ∧
    (∃ (s : State) (f : Frame) (a : SpoilArgs) (values : List Int) (p : Profile),
      premisesEstimateMadeAndLost s f a values p) ∧
    (∃ (s : State) (f : Frame) (a : SpoilArgs) (values : List Int) (p : Profile),
      premisesEstimateMadeAndLost s f a values p) ∧
    (∃ (s : State) (f : Frame) (a : SpoilArgs) (values : List Int) (p : Profile),
      premisesEstimateMadeAndLost s f a values p ∧ s.chamber.status ≠ .lost) ∧
    (∃ (s : State) (at_ : Nat), s.powered = true ∧ s.chamber.status ≠ .lost ∧ s.chamber.lastReport = some at_ ∧
      at_ + 1000 ≤ s.now) :=
  ⟨⟨asking .spoil 24 (bytesOf ([Field.u16 240, Field.u16 262, Field.u16 266, Field.u16 318, Field.u16 322, .u8 1,
     .u8 1, .u8 1, .u8 1, .u8 1] ++ [.u16 50, .u32 100, .u8 0])) (settled pushing), asked 24 (bytesOf ([Field.u16 240,
     Field.u16 262, Field.u16 266, Field.u16 318, Field.u16 322, .u8 1, .u8 1, .u8 1, .u8 1, .u8 1] ++ [.u16 50,
     .u32 100, .u8 0])), ⟨#v[240, 262, 266, 318, 322], #v[true, true, true, true, true], 50, 100, .opened⟩, [289, 291,
     292, 293, 295], _, asks_of (by decide +kernel), by decide +kernel, screwHeld_of (by decide +kernel), rfl, by decide +kernel⟩,
   ⟨asking .spoil 24 (bytesOf ([Field.u16 240, Field.u16 262, Field.u16 266, Field.u16 1001, Field.u16 1000, .u8 1,
     .u8 1, .u8 1, .u8 1, .u8 1] ++ [.u16 50, .u32 49704, .u8 0])) (settled pushing),
     asked 24 (bytesOf ([Field.u16 240, Field.u16 262, Field.u16 266, Field.u16 1001, Field.u16 1000, .u8 1, .u8 1,
     .u8 1, .u8 1, .u8 1] ++ [.u16 50, .u32 49704, .u8 0])), ⟨#v[240, 262, 266, 1001, 1000], #v[true, true, true,
     true, true], 50, 49704, .opened⟩, [289, 292, 293, 973], _, asks_of (by decide +kernel), by decide +kernel, screwHeld_of (by decide +kernel), rfl, by decide +kernel⟩,
   ⟨asking .spoil 24 (bytesOf ([Field.u16 240, Field.u16 262, Field.u16 266, Field.u16 318, Field.u16 322, .u8 1,
     .u8 0, .u8 0, .u8 0, .u8 1] ++ [.u16 50, .u32 49705, .u8 0])) (settled pushing),
     asked 24 (bytesOf ([Field.u16 240, Field.u16 262, Field.u16 266, Field.u16 318, Field.u16 322, .u8 1, .u8 0,
     .u8 0, .u8 0, .u8 1] ++ [.u16 50, .u32 49705, .u8 0])), ⟨#v[240, 262, 266, 318, 322], #v[true, false, false,
     false, true], 50, 49705, .opened⟩, [292, 295], _, asks_of (by decide +kernel), by decide +kernel, screwHeld_of (by decide +kernel), rfl, by decide +kernel⟩,
   ⟨asking .spoil 24 (bytesOf ([Field.u16 1001, Field.u16 1001, Field.u16 1001, Field.u16 1001, Field.u16 1001, .u8 1,
     .u8 1, .u8 1, .u8 1, .u8 1] ++ [.u16 50, .u32 100, .u8 0])) (settled pushing),
     asked 24 (bytesOf ([Field.u16 1001, Field.u16 1001, Field.u16 1001, Field.u16 1001, Field.u16 1001, .u8 1, .u8 1,
     .u8 1, .u8 1, .u8 1] ++ [.u16 50, .u32 100, .u8 0])), ⟨#v[1001, 1001, 1001, 1001, 1001], #v[true, true, true,
     true, true], 50, 100, .opened⟩, [], _, ⟨asks_of (by decide +kernel), by decide +kernel, screwHeld_of (by decide +kernel), rfl,
     by decide +kernel⟩, by decide +kernel⟩,
   ⟨pushing, 99000, by decide +kernel⟩⟩

theorem witness_PlanErased :
    (∃ (s : State) (f : Frame) (base : Nat), Asks s .cabin 28 readWord f base ∧ s.plan.status ≠ .idle) ∧
    (∃ (s : State) (f : Frame) (base : Nat), Asks s .cabin 28 readWord f base ∧ s.plan.status = .idle ∧ base = 0) ∧
    (∃ (s : State) (f : Frame) (base : Nat), Asks s .cabin 28 readWord f base ∧ s.plan.status = .idle ∧ 1 ≤ base ∧
      base ≤ 65535 ∧ s.ring.state ≠ .idle) ∧
    (∃ (s : State) (f : Frame) (base : Nat), Asks s .cabin 28 readWord f base ∧ s.plan.status = .idle ∧ 1 ≤ base ∧
      base ≤ 65535 ∧ s.ring.state = .idle) ∧
    (∃ (s : State) (f : Frame) (base : Nat), Asks s .cabin 28 readWord f base ∧ s.plan.status = .idle ∧ 1 ≤ base ∧
      base ≤ 65535 ∧ s.ring.state = .idle) ∧
    (∃ (s : State) (due : Nat), s.powered = true ∧ s.plan.status = .erasing ∧ s.plan.opEnd = some due ∧ due ≤ s.now) :=
  ⟨⟨asking .cabin 28 [0, 1] (withPlan { planned with status := .writing, opEnd := some 100004 } crew), asked 28 [0,
     1], 1, asks_of (by decide +kernel), by decide +kernel⟩,
   ⟨asking .cabin 28 [0, 0] crew, asked 28 [0, 0], 0, asks_of (by decide +kernel), by decide +kernel⟩,
   ⟨asking .cabin 28 [0, 1] erecting, asked 28 [0, 1], 1, asks_of (by decide +kernel), by decide +kernel⟩,
   ⟨asking .cabin 28 [0, 1] crew, asked 28 [0, 1], 1, asks_of (by decide +kernel), by decide +kernel⟩,
   ⟨asking .cabin 28 [255, 255] crew, asked 28 [255, 255], 65535, asks_of (by decide +kernel), by decide +kernel⟩,
   ⟨withPlan { PlanStore.initial with status := .erasing, opEnd := some 100000 } crew, 100000, by decide +kernel⟩⟩

/-- The hypotheses of the first part of RowsWritten. -/
abbrev premisesRowsWritten (s : State) (f : Frame) (first : Nat) (rows : List PlanRow) (c : PlanCommand) (i : Instr) : Prop :=
  c = .write ∧ i = .planWrite .cabin ∧ Asks s .cabin 30 readFirstAndRows f (first, rows) ∨
    c = .writeNext ∧ i = .planWriteNext .cabin ∧ Asks s .cabin 31 readPlanRows f rows ∧ first = s.plan.cursor

/-- A write is refused by the check `k` of the table of R188. -/
abbrev refusedByWrite (k : Nat) : Prop :=
  ∃ (s : State) (f : Frame) (first : Nat) (rows : List PlanRow) (c : PlanCommand) (i : Instr),
    premisesRowsWritten s f first rows c i ∧ s.plan.status = .idle ∧ (writeChecks first rows s).findIdx? (·.1) = some k

/-- A write passes the checks of the table of R188. -/
abbrev writeAccepted (first : Nat) (c : PlanCommand) (n : Nat) : Prop :=
  ∃ (s : State) (f : Frame) (rows : List PlanRow) (i : Instr),
    premisesRowsWritten s f first rows c i ∧ s.plan.status = .idle ∧ rows.length = n ∧
      (writeChecks first rows s).find? (·.1) = none

theorem witness_RowsWritten :
    (∃ (s : State) (f : Frame) (first : Nat) (rows : List PlanRow) (c : PlanCommand) (i : Instr),
      premisesRowsWritten s f first rows c i ∧ s.plan.status ≠ .idle) ∧
    refusedByWrite 0 ∧ refusedByWrite 0 ∧ refusedByWrite 1 ∧ refusedByWrite 2 ∧ refusedByWrite 2 ∧ refusedByWrite 3 ∧
    refusedByWrite 4 ∧ writeAccepted 1 .write 16 ∧ writeAccepted 2048 .writeNext 1 ∧
    (∃ (s : State) (row : PlanRow) (rest : List PlanRow) (ring due : Nat), s.powered = true ∧
      s.plan.status = .writing ∧ s.plan.job = some { rows := row :: rest, nextRing := ring, nextDue := due } ∧
      due ≤ s.now) ∧
    (∃ (s : State) (row : PlanRow) (rest : List PlanRow) (ring due : Nat), s.powered = true ∧
      s.plan.status = .writing ∧ s.plan.job = some { rows := row :: rest, nextRing := ring, nextDue := due } ∧
      due ≤ s.now) :=
  ⟨⟨asking .cabin 30 (bytesOf [.u16 1, .u8 1] ++ (List.replicate 1 [0, 3, 2, 0, 0, 0, 0, 0]).flatten)
     (withPlan { planned with status := .writing, opEnd := some 100004 } crew), asked 30 (bytesOf [.u16 1,
     .u8 1] ++ (List.replicate 1 [0, 3, 2, 0, 0, 0, 0, 0]).flatten), 1, [plainRow], .write, .planWrite .cabin,
     .inl ⟨rfl, rfl, asks_of (by decide +kernel)⟩, by decide +kernel⟩,
   ⟨asking .cabin 30 [0, 1, 0] crew, asked 30 [0, 1, 0], 1, [], .write, .planWrite .cabin,
     .inl ⟨rfl, rfl, asks_of (by decide +kernel)⟩, by decide +kernel⟩,
   ⟨asking .cabin 31 (17 :: (List.replicate 17 [0, 3, 2, 0, 0, 0, 0, 0]).flatten) crew,
     asked 31 (17 :: (List.replicate 17 [0, 3, 2, 0, 0, 0, 0, 0]).flatten), 1, List.replicate 17 plainRow, .writeNext,
     .planWriteNext .cabin, .inr ⟨rfl, rfl, asks_of (by decide +kernel), by decide +kernel⟩, by decide +kernel⟩,
   ⟨asking .cabin 30 [0, 1, 2, 0, 3, 2, 0, 0, 0, 0, 0, 8, 3, 2, 0, 0, 0, 0, 0] crew,
     asked 30 [0, 1, 2, 0, 3, 2, 0, 0, 0, 0, 0, 8, 3, 2, 0, 0, 0, 0, 0], 1, [plainRow, { plainRow with ringType := 8 }],
     .write, .planWrite .cabin, .inl ⟨rfl, rfl, asks_of (by decide +kernel)⟩, by decide +kernel⟩,
   ⟨asking .cabin 30 [0, 0, 1, 0, 3, 2, 0, 0, 0, 0, 0] crew, asked 30 [0, 0, 1, 0, 3, 2, 0, 0, 0, 0, 0], 0, [plainRow],
     .write, .planWrite .cabin, .inl ⟨rfl, rfl, asks_of (by decide +kernel)⟩, by decide +kernel⟩,
   ⟨asking .cabin 31 [1, 0, 3, 2, 0, 0, 0, 0, 0] (withPlan { PlanStore.initial with cursor := 2049 } crew),
     asked 31 [1, 0, 3, 2, 0, 0, 0, 0, 0], 2049, [plainRow], .writeNext, .planWriteNext .cabin, .inr ⟨rfl, rfl,
     asks_of (by decide +kernel), by decide +kernel⟩, by decide +kernel⟩,
   ⟨asking .cabin 30 [0, 1, 1, 0, 3, 2, 0, 0, 0, 0, 0] erecting, asked 30 [0, 1, 1, 0, 3, 2, 0, 0, 0, 0, 0], 1,
     [plainRow], .write, .planWrite .cabin, .inl ⟨rfl, rfl, asks_of (by decide +kernel)⟩, by decide +kernel⟩,
   ⟨asking .cabin 30 [0, 1, 1, 0, 3, 2, 0, 0, 0, 0, 0] (withPlan planned crew),
     asked 30 [0, 1, 1, 0, 3, 2, 0, 0, 0, 0, 0], 1, [plainRow], .write, .planWrite .cabin, .inl ⟨rfl, rfl,
     asks_of (by decide +kernel)⟩, by decide +kernel⟩,
   ⟨asking .cabin 30 (bytesOf [.u16 1, .u8 16] ++ (List.replicate 16 [0, 3, 2, 0, 0, 0, 0, 0]).flatten) crew,
     asked 30 (bytesOf [.u16 1, .u8 16] ++ (List.replicate 16 [0, 3, 2, 0, 0, 0, 0, 0]).flatten),
     List.replicate 16 plainRow, .planWrite .cabin, .inl ⟨rfl, rfl, asks_of (by decide +kernel)⟩, by decide +kernel⟩,
   ⟨asking .cabin 31 [1, 0, 3, 2, 0, 0, 0, 0, 0] (withPlan { PlanStore.initial with cursor := 2048 } crew),
     asked 31 [1, 0, 3, 2, 0, 0, 0, 0, 0], [plainRow], .planWriteNext .cabin, .inr ⟨rfl, rfl,
     asks_of (by decide +kernel), by decide +kernel⟩, by decide +kernel⟩,
   ⟨withPlan { planned with status := .writing, opEnd := some 100004, job := some ⟨[plainRow], 2, 100000⟩ } crew,
     plainRow, [], 2, 100000, by decide +kernel⟩,
   ⟨withPlan { planned with status := .writing, opEnd := some 100004, job := some ⟨[plainRow, plainRow], 2, 100000⟩ } crew,
     plainRow, [plainRow], 2, 100000, by decide +kernel⟩⟩

/-- The difference that QueriesChangeNothing has PLAN VERIFY tell. -/
abbrev kindOf (stored : Option PlanRow) (row : PlanRow) : Nat :=
  match stored with
  | none => 0
  | some r =>
    if r.ringType ≠ row.ringType then 1
    else if r.keySector ≠ row.keySector then 2
    else if r.start ≠ row.start then 3
    else if r.fill ≠ row.fill then 4 else 5

theorem witness_QueriesChangeNothing :
    (∃ (s : State) (f : Frame) (p : Port) (x : Selector) (fields : List Field), Asks s p 39 readSelector f x ∧
      recordFields (dropHead p (quiet s)) x = some fields) ∧
    (∃ (s : State) (f : Frame) (p : Port) (x : Selector), Asks s p 39 readSelector f x ∧
      recordFields (dropHead p (quiet s)) x = none) ∧
    (∃ (s : State) (f : Frame) (p : Port) (x : Selector), Asks s p 39 readSelector f x ∧ x ≠ .links) ∧
    (∃ (s : State) (f : Frame), Asks s .cabin 33 readNothing f ()) ∧
    (∃ (s : State) (f : Frame), Asks s .cabin 29 readNothing f () ∧ s.plan.status = .idle) ∧
    (∃ (s : State) (f : Frame) (first : Nat) (rows : List PlanRow) (x : Bool × Code × List Field),
      Asks s .cabin 32 readFirstAndRows f (first, rows) ∧ s.plan.status = .idle ∧
      (rowChecks first rows s.plan).find? (·.1) = some x) ∧
    (∃ (s : State) (f : Frame) (first : Nat) (rows : List PlanRow), Asks s .cabin 32 readFirstAndRows f (first,
      rows) ∧ s.plan.status = .idle ∧ (rowChecks first rows s.plan).find? (·.1) = none ∧ ((∀ (k : Nat) (h : k < rows.length),
      rowOfRing s.plan (first + k) = some rows[k]))) ∧
    (∃ (s : State) (f : Frame) (first : Nat) (rows : List PlanRow) (k kind : Nat) (h : k < rows.length),
      Asks s .cabin 32 readFirstAndRows f (first, rows) ∧ s.plan.status = .idle ∧
      (rowChecks first rows s.plan).find? (·.1) = none ∧ ((∀ (j : Nat) (hj : j < k),
      rowOfRing s.plan (first + j) = some (rows[j]'(by omega)))) ∧
      rowOfRing s.plan (first + k) ≠ some rows[k] ∧ kind = kindOf (rowOfRing s.plan (first + k)) rows[k]) ∧
    (∃ (s : State) (f : Frame) (i : Instr), s.plan.status ≠ .idle ∧ ((i = .planBlankCheck .cabin ∧
      Asks s .cabin 29 readNothing f () ∨ i = .planVerify .cabin ∧ ∃ a, Asks s .cabin 32 readFirstAndRows f a))) ∧
    (∃ (s : State) (f : Frame) (i : Instr), s.plan.status ≠ .idle ∧ ((i = .planBlankCheck .cabin ∧
      Asks s .cabin 29 readNothing f () ∨ i = .planVerify .cabin ∧ ∃ a, Asks s .cabin 32 readFirstAndRows f a))) :=
  ⟨⟨asking .spoil 39 [12] crew, asked 39 [12], .spoil, .plan, _, asks_of (by decide +kernel),
     (Option.some_get (by decide +kernel)).symm⟩,
   ⟨asking .cabin 39 [4, 4] crew, asked 39 [4, 4], .cabin, .profile 4, asks_of (by decide +kernel), by decide +kernel⟩,
   ⟨asking .cabin 39 [17] crew, asked 39 [17], .cabin, .modes, asks_of (by decide +kernel), by decide +kernel⟩,
   ⟨asking .cabin 33 [] crew, asked 33 [], asks_of (by decide +kernel)⟩,
   ⟨asking .cabin 29 [] crew, asked 29 [], asks_of (by decide +kernel), by decide +kernel⟩,
   ⟨asking .cabin 32 [0, 1, 0] crew, asked 32 [0, 1, 0], 1, [], (true, .range, []), asks_of (by decide +kernel),
     by decide +kernel⟩,
   ⟨asking .cabin 32 [0, 1, 1, 0, 3, 2, 0, 0, 0, 0, 0] (withPlan planned crew), asked 32 [0, 1, 1, 0, 3, 2, 0, 0, 0,
     0, 0], 1, [plainRow], asks_of (by decide +kernel), by decide +kernel⟩,
   ⟨asking .cabin 32 [0, 1, 2, 0, 3, 2, 0, 0, 0, 0, 0, 0, 3, 2, 0, 0, 0, 0, 0] (withPlan planned crew), asked 32 [0,
     1, 2, 0, 3, 2, 0, 0, 0, 0, 0, 0, 3, 2, 0, 0, 0, 0, 0], 1, [plainRow, plainRow], 1, 0, by decide,
     asks_of (by decide +kernel), by decide +kernel⟩,
   ⟨asking .cabin 29 [] (withPlan { planned with status := .writing, opEnd := some 100004 } crew), asked 29 [],
     .planBlankCheck .cabin, by decide +kernel, .inl ⟨rfl, asks_of (by decide +kernel)⟩⟩,
   ⟨asking .cabin 32 [0, 1, 1, 0, 3, 2, 0, 0, 0, 0,
     0] (withPlan { planned with status := .writing, opEnd := some 100004 } crew), asked 32 [0, 1, 1, 0, 3, 2, 0, 0,
     0, 0, 0], .planVerify .cabin, by decide +kernel, .inr ⟨rfl, (1, [plainRow]), asks_of (by decide +kernel)⟩⟩⟩

theorem witness_ConditionsAcknowledged :
    (∃ (s : State) (f : Frame) (name : CondName) (subject : Option Nat), Asks s .cabin 34 readAck f (name, subject) ∧
      subjectFits name subject = false) ∧
    (∃ (s : State) (f : Frame) (name : CondName) (subject : Option Nat), Asks s .cabin 34 readAck f (name, subject) ∧
      subjectFits name subject = true ∧ (name ≠ .cutterTrip ∨ s.cutter.run ≠ .tripped)) ∧
    (∃ (s : State) (f : Frame) (name : CondName) (subject : Option Nat), Asks s .cabin 34 readAck f (name, subject) ∧
      name = .cutterTrip ∧ subject = none ∧ s.cutter.run = .tripped) :=
  ⟨⟨asking .cabin 34 [23, 16] crew, asked 34 [23, 16], .groupFault, some 16, asks_of (by decide +kernel),
     by decide +kernel⟩,
   ⟨asking .cabin 34 [0, 255] crew, asked 34 [0, 255], .powerOn, none, asks_of (by decide +kernel), by decide +kernel⟩,
   ⟨asking .cabin 34 [13, 255] (turned { pushing.cutter with run := .tripped }), asked 34 [13, 255], .cutterTrip,
     none, asks_of (by decide +kernel), by decide +kernel⟩⟩

theorem witness_FlagsCleared :
    ∃ (s : State) (f : Frame), Asks s .cabin 35 readNothing f () :=
  ⟨asking .cabin 35 [] crew, asked 35 [], asks_of (by decide +kernel)⟩

end Sys2Proof.Tests
end

/-! The report advance (R21): rounding to nearest with ties away from zero is an odd function of its dividend, so its
bounds are proved for dividends at or above 0 and mirrored to those at or below 0. -/

namespace Sys2Proof.Machine

theorem roundAway_of_nonneg {a : Int} (ha : 0 ≤ a) (k : Nat) : roundAway a k = (2 * a + k) / (2 * k) :=
  if_neg (not_lt.mpr ha)

theorem roundAway_of_neg {a : Int} (ha : a < 0) (k : Nat) : roundAway a k = -roundAway (-a) k := by
  rw [roundAway_of_nonneg (a := -a) (by omega)]
  exact if_pos ha

/-- From 0 up, the multiple chosen is the only one in the half-open interval of length `k` around `a` that holds its
upper end: of two multiples equally near, the larger. -/
theorem roundAway_mul_bounds_of_nonneg {a : Int} {k : Nat} (ha : 0 ≤ a) (hk : 0 < k) :
    2 * a - k < 2 * (roundAway a k * k) ∧ 2 * (roundAway a k * k) ≤ 2 * a + k := by
  have h2k : (0 : Int) < 2 * k := by omega
  have hfloor := Int.ediv_mul_le (2 * a + k) h2k.ne'
  have hnext := Int.lt_ediv_add_one_mul_self (2 * a + k) h2k
  rw [← roundAway_of_nonneg ha] at hfloor hnext
  constructor <;> linarith

/-- Below 0 the interval is mirrored: it holds its lower end. -/
theorem roundAway_mul_bounds_of_neg {a : Int} {k : Nat} (ha : a < 0) (hk : 0 < k) :
    2 * a - k ≤ 2 * (roundAway a k * k) ∧ 2 * (roundAway a k * k) < 2 * a + k := by
  obtain ⟨hlow, hhigh⟩ := roundAway_mul_bounds_of_nonneg (a := -a) (by omega) hk
  rw [roundAway_of_neg ha, neg_mul]
  constructor <;> linarith

theorem roundAway_nearest (a : Int) {k : Nat} (hk : 0 < k) : 2 * (roundAway a k * k - a).natAbs ≤ k := by
  rcases lt_or_ge a 0 with ha | ha
  · have hbounds := roundAway_mul_bounds_of_neg ha hk
    omega
  · have hbounds := roundAway_mul_bounds_of_nonneg ha hk
    omega

/-- At a tie the open end of the interval is the one nearer to 0, so the multiple is the one beyond `a`. -/
theorem natAbs_lt_roundAway_mul_of_tie {a : Int} {k : Nat} (hk : 0 < k)
    (htie : 2 * (roundAway a k * k - a).natAbs = k) : a.natAbs < (roundAway a k * k).natAbs := by
  rcases lt_or_ge a 0 with ha | ha
  · have hbounds := roundAway_mul_bounds_of_neg ha hk
    omega
  · have hbounds := roundAway_mul_bounds_of_nonneg ha hk
    omega

@[simp] theorem reportAdvance_nil : reportAdvance [] = 0 := rfl

theorem reportAdvance_of_ne_nil {deltas : List Int} (h : deltas ≠ []) :
    reportAdvance deltas = roundAway deltas.sum deltas.length :=
  if_neg (by simpa using h)

/-- Settles O24: with a contributor the divisor is positive, and the two facts about `roundAway` are its two clauses. -/
theorem reportAdvanceIsRoundedMean : Obligations.ReportAdvanceIsRoundedMean := by
  refine ⟨reportAdvance_nil, fun deltas hne => ?_⟩
  have hlen : 0 < deltas.length := List.length_pos_iff.mpr hne
  rw [reportAdvance_of_ne_nil hne]
  exact ⟨roundAway_nearest deltas.sum hlen, natAbs_lt_roundAway_mul_of_tie hlen⟩

end Sys2Proof.Machine

/-! FLAGS CLEAR (R59): the owning block lowers the two flags in the stack's record alone, and the evaluation that ends
the event brings each entry of the condition table to its level and never takes a latch away (R177). -/

namespace Sys2Proof.Machine

@[simp] theorem evalEntry_name (s : State) (e : CondEntry) : (evalEntry s e).name = e.name := rfl

@[simp] theorem evalEntry_subject (s : State) (e : CondEntry) : (evalEntry s e).subject = e.subject := rfl

@[simp] theorem evalEntry_active (s : State) (e : CondEntry) :
    (evalEntry s e).active = level s e.name e.subject := rfl

@[simp] theorem evalEntry_latched (s : State) (e : CondEntry) :
    (evalEntry s e).latched = (e.latched || (level s e.name e.subject && !e.active)) := rfl

theorem CondsFollow.active_eq_level {s t : State} (h : CondsFollow s t) {e : CondEntry} (he : e ∈ t.conds) :
    e.active = level t e.name e.subject := by
  rw [h] at he
  obtain ⟨e, -, rfl⟩ := List.mem_map.mp he
  simp

theorem CondsFollow.latched_stays {s t : State} (h : CondsFollow s t) {e : CondEntry} (he : e ∈ s.conds)
    (hl : e.latched = true) : ∃ e' ∈ t.conds, (e'.name, e'.subject) = (e.name, e.subject) ∧ e'.latched = true := by
  refine ⟨evalEntry t e, ?_, by simp, by simp [hl]⟩
  rw [h]
  exact List.mem_map_of_mem he

@[simp] theorem level_stackFull (s : State) (subject : Option Nat) : level s .stackFull subject = s.stack.full := rfl

@[simp] theorem level_stackUnderflow (s : State) (subject : Option Nat) :
    level s .stackUnderflow subject = s.stack.underflow := rfl

theorem exec_flagsClear (p : Port) (s : State) :
    exec (.flagsClear p) s = .next (request 35 [.cabin] true readNothing takeFlagsClear p s) := rfl

/-- The state that the owning block of FLAGS CLEAR leaves. -/
def flagsDown (s : State) : State :=
  { s with stack := { s.stack with full := false, fullClass := none, underflow := false } }

theorem takeFlagsClear_eq (s : State) :
    takeFlagsClear () s = .act (flagsDown s) .done [yesNo s.stack.full, yesNo s.stack.underflow] := rfl

@[simp] theorem flagsDown_stack (s : State) :
    (flagsDown s).stack = { s.stack with full := false, fullClass := none, underflow := false } := rfl

theorem flagsDown_stands (p : Port) (s : State) : Stands s (flagsDown (taken p s)) := ⟨rfl, rfl, rfl, rfl⟩

theorem flagsDown_onlyChanges (p : Port) (s : State) : OnlyChanges [.stack] s (flagsDown (taken p s)) := by
  intro b hb
  cases b with
  | stack => exact absurd (List.mem_singleton_self _) hb
  | chamber => exact .inl rfl
  | _ => rfl

/-- FLAGS CLEAR is taken in every mode (R5), and its effect is `flagsDown` closed by the end of the event. -/
theorem flagsClear_served {s : State} {f : Frame} (h : Asks s .cabin 35 readNothing f ()) :
    ∃ t, exec (.flagsClear .cabin) s = .next t ∧
      Served .cabin f .done [yesNo s.stack.full, yesNo s.stack.underflow] [] [.stack] s t ∧ CondsFollow s t ∧
      Carries (flagsDown (taken .cabin s)) t := by
  obtain ⟨t, ht, hserved, hconds, hcarries⟩ :=
    request_act (roles := [.cabin]) (early := true) (told := []) h rfl (.inr rfl) (takeFlagsClear_eq _)
      (flagsDown_stands _ _) rfl rfl rfl (List.forall_mem_nil _) rfl (flagsDown_onlyChanges _ _) (fun _ => rfl) rfl
  exact ⟨t, by rw [exec_flagsClear, ht], hserved, hconds, hcarries⟩

/-- Settles O60: with the flags down both levels are no, and the latches outlive the evaluation. -/
theorem flagsCleared : Obligations.FlagsCleared := by
  intro s f hasks
  obtain ⟨t, ht, hserved, hconds, hcarries⟩ := flagsClear_served hasks
  have hstack : t.stack = { s.stack with full := false, fullClass := none, underflow := false } := by
    simpa using hcarries.stack
  refine ⟨t, ht, hserved, hconds, hstack, fun e he hname => ?_, ?_⟩
  · rw [hconds.active_eq_level he]
    obtain hfull | hunder := hname
    · rw [hfull, level_stackFull, hstack]
    · rw [hunder, level_stackUnderflow, hstack]
  · rintro _ ⟨e, he, rfl, hlatched⟩
    exact hconds.latched_stays he hlatched

end Sys2Proof.Machine

/-! SEGMENT PLACED (R79): a refusal and a repetition answer without an effect, and the one taking case changes the
release stack's record alone. -/

namespace Sys2Proof.Machine

/-- A request that its owning block answers without an effect leaves the state of `answeredOnly`. -/
theorem request_answer {α : Type} {n : Nat} {roles : List Port} {early : Bool} {reader : Reader α}
    {owner : α → State → Handled} {p : Port} {s : State} {f : Frame} {a : α} {code : Code} {fields : List Field}
    (h : Asks s p n reader f a) (hr : roles.contains p = true) (hc : commissioned s = true ∨ early = true)
    (he : owner a (taken p s) = .answer code fields) :
    request n roles early reader owner p s = answeredOnly p f code fields s := by
  rw [request_asks h hr hc, he, answered_answer]

theorem onlyChanges_stack (p : Port) (s : State) (k : ReleaseStack) :
    OnlyChanges [.stack] s { taken p s with stack := k } := by
  intro b hb
  cases b with
  | stack => exact absurd (List.mem_singleton_self _) hb
  | chamber => exact .inl rfl
  | _ => rfl

/-- A request whose owning block gives the release stack a new record and does nothing else. -/
theorem request_restack {α : Type} {n : Nat} {roles : List Port} {early : Bool} {reader : Reader α}
    {owner : α → State → Handled} {p : Port} {s : State} {f : Frame} {a : α} {code : Code} {fields : List Field}
    {k : ReleaseStack} (h : Asks s p n reader f a) (hr : roles.contains p = true)
    (hc : commissioned s = true ∨ early = true)
    (he : owner a (taken p s) = .act { taken p s with stack := k } code fields) :
    ∃ t, request n roles early reader owner p s = t ∧ Served p f code fields [] [.stack] s t ∧ CondsFollow s t ∧
      t.stack = k := by
  obtain ⟨t, ht, hserved, hconds, hcarries⟩ :=
    request_act (told := []) h hr hc he ⟨rfl, rfl, rfl, rfl⟩ rfl rfl rfl (List.forall_mem_nil _) rfl
      (onlyChanges_stack p s k) (fun _ => rfl) rfl
  exact ⟨t, ht, hserved, hconds, hcarries.stack⟩

theorem exec_segmentPlaced (p : Port) (s : State) :
    exec (.segmentPlaced p) s = .next (request 18 [.erector] false readByte takeSegmentPlaced p s) := rfl

theorem takeSegmentPlaced_of_range {n : Nat} {s : State} (hn : 7 ≤ n) : takeSegmentPlaced n s = .answer .range [] :=
  if_pos hn

theorem takeSegmentPlaced_of_empty {n : Nat} {s : State} (hn : n < 7) (hs : s.stack.entries = []) :
    takeSegmentPlaced n s = .answer .stackEmpty [] := by
  simp [takeSegmentPlaced, Nat.le_of_lt_succ hn, hs]

section Top
variable {n : Nat} {s : State} {e : StackEntry} {rest : List StackEntry}

theorem takeSegmentPlaced_of_other (hn : n < 7) (hs : s.stack.entries = e :: rest) (hp : n ≠ e.position.val) :
    takeSegmentPlaced n s = .answer .order [.u8 e.position.val] := by
  simp [takeSegmentPlaced, Nat.le_of_lt_succ hn, hs, hp]

theorem takeSegmentPlaced_of_opening (hn : n < 7) (hs : s.stack.entries = e :: rest) (hp : n = e.position.val)
    (he : e.state = .opening) : takeSegmentPlaced n s = .answer .state [.u8 0] := by
  simp [takeSegmentPlaced, stateRefusal, Nat.le_of_lt_succ hn, hs, ← hp, he]

theorem takeSegmentPlaced_of_placed (hn : n < 7) (hs : s.stack.entries = e :: rest) (hp : n = e.position.val)
    (he : e.state = .placed) : takeSegmentPlaced n s = .answer .done [] := by
  simp [takeSegmentPlaced, Nat.le_of_lt_succ hn, hs, ← hp, he]

theorem takeSegmentPlaced_of_opened (hn : n < 7) (hs : s.stack.entries = e :: rest) (hp : n = e.position.val)
    (he : e.state = .opened) :
    takeSegmentPlaced n s =
      .act { s with stack := { s.stack with entries := { e with state := .placed } :: rest } } .done [] := by
  simp [takeSegmentPlaced, placeTop, Nat.le_of_lt_succ hn, hs, ← hp, he]

end Top

/-- Settles O34, one clause for each branch of R79's table. -/
theorem segmentPlacedOnTop : Obligations.SegmentPlacedOnTop := by
  intro s f q hasks hcomm
  have answers {code : Code} {fields : List Field}
      (he : takeSegmentPlaced q (taken .erector s) = .answer code fields) :
      exec (.segmentPlaced .erector) s = .next (answeredOnly .erector f code fields s) := by
    rw [exec_segmentPlaced, request_answer hasks rfl (.inl hcomm) he]
  refine ⟨fun hq => answers (takeSegmentPlaced_of_range hq),
    fun hq hs => answers (takeSegmentPlaced_of_empty hq hs), fun e rest hq hs => ⟨?other, ?opening, ?placed, ?opened⟩⟩
  case other => exact fun hp => answers (takeSegmentPlaced_of_other hq hs hp)
  case opening => exact fun hp he => answers (takeSegmentPlaced_of_opening hq hs hp he)
  case placed => exact fun hp he => answers (takeSegmentPlaced_of_placed hq hs hp he)
  case opened =>
    intro hp he
    obtain ⟨t, ht, hserved, hconds, hstack⟩ :=
      request_restack (roles := [.erector]) (early := false) hasks rfl (.inl hcomm) (takeSegmentPlaced_of_opened hq hs hp he)
    exact ⟨t, by rw [exec_segmentPlaced, ht], hserved, hconds, hstack⟩

end Sys2Proof.Machine

/-! The placement order (R73) and RING ARM's queue: the profile selection that RING ARM may raise leaves the ring
record, so the queue formed from the row is the one that stands after the event. -/

namespace Sys2Proof.Machine

/-- Around each start position the numbers that R73 keeps are the six ordinary ones; 6, the key's, comes last. -/
theorem placementOrder_table :
    placementOrder 0 = [0, 1, 2, 3, 4, 5, 6] ∧ placementOrder 1 = [1, 2, 0, 3, 4, 5, 6] ∧
      placementOrder 2 = [2, 3, 1, 4, 0, 5, 6] ∧ placementOrder 3 = [3, 4, 2, 5, 1, 0, 6] ∧
      placementOrder 4 = [4, 5, 3, 2, 1, 0, 6] ∧ placementOrder 5 = [5, 4, 3, 2, 1, 0, 6] := by
  and_intros <;> decide

theorem exec_ringArm (p : Port) (s : State) :
    exec (.ringArm p) s = .next (request 16 [.erector] false readWord takeRingArm p s) := rfl

@[simp] theorem raiseSelection_ring (index : Option Nat) (s : State) : (raiseSelection index s).1.ring = s.ring := by
  cases index with
  | none => rfl
  | some n => simp [raiseSelection]

/-- What RING ARM makes of a row it takes (R72), with the status of the selection that the row raises. -/
def ringArmed (row : PlanRow) (s : State) : State × Option Nat :=
  raiseSelection row.profile (announceRing .arm { s with ring := s.ring.armed (constantsOf s) row })

@[simp] theorem ringArmed_ring (row : PlanRow) (s : State) :
    (ringArmed row s).1.ring = s.ring.armed (constantsOf s) row := by
  simp [ringArmed]

/-- RING ARM past its checks (R71). -/
theorem takeRingArm_of_armable {n : Nat} {s : State} {row : PlanRow} (hidle : s.ring.state = .idle)
    (hn : n = s.ring.number) (hlast : n < 65535) (herase : s.plan.status ≠ .erasing)
    (hrow : rowOfRing s.plan n = some row) (htype : typeDefined (constantsOf s) row.ringType = true) :
    takeRingArm n s = .act (ringArmed row s).1 .done
      ([.u16 n] ++ positionList (placementOrder row.start)
        ++ coverFields (coversOf (constantsOf s) row.ringType row.keySector) ++ optU8 (ringArmed row s).2) := by
  have hne : n ≠ Config.lastRing := hlast.ne
  simp only [takeRingArm, hidle, ← hn, hne, herase, hrow, htype, ne_eq, not_true_eq_false, if_false, if_true]
  rfl

/-- Settles O38: the table, and the end of the event carries the armed record's queue on. -/
theorem placementOrderTable : Obligations.PlacementOrderTable := by
  refine ⟨placementOrder_table, fun s f n row hasks hcomm hidle hn hlast herase hrow htype => ?_⟩
  have htake := takeRingArm_of_armable (s := taken .erector s) hidle hn hlast herase hrow htype
  refine ⟨_, exec_ringArm .erector s, ?_⟩
  rw [request_asks hasks rfl (.inl hcomm), htake, (carries_answered ..).ring, ringArmed_ring]
  rfl

end Sys2Proof.Machine

/-! What a command comes to: nothing, a power-on, or the effect of the owning blocks on the state in which they see it,
closed by the hand-off that ends every event. Each invariant of the machine is proved from this one case split. -/

namespace Sys2Proof.Machine

set_option Elab.async false

/-- `t` holds the records of `s`; at most the head of the list of port `p` has been taken. -/
structure SameRecords (p : Option Port) (s t : State) : Prop where
  store   : t.store = s.store
  account : t.account = s.account
  groups  : t.groups = s.groups
  stack   : t.stack = s.stack
  ring    : t.ring = s.ring
  plan    : t.plan = s.plan
  grout   : t.grout = s.grout
  chamber : t.chamber = s.chamber
  cutter  : t.cutter = s.cutter
  modes   : t.modes = s.modes
  permits : t.permits = s.permits
  conds   : t.conds = s.conds
  links   : ∀ q, linkOf t q = linkOf s q ∨
    (p = some q ∧ linkOf t q = { linkOf s q with requests := (linkOf s q).requests.tail })

/-- What no command but a power-on changes: the timebase, the queue and the counter of the free order. -/
structure SameQueue (s t : State) : Prop where
  now     : t.now = s.now
  pending : t.pending = s.pending
  choices : t.choices = s.choices

/-- The blocks' effect `v` closed by the hand-off that ends an event: permits, conditions and the standstill limit
follow, and nothing else of the records changes (R126, R176, R178). -/
structure Closes (v t : State) : Prop where
  inputs  : SameInputs v t
  permits : t.permits = permitsOf t
  conds   : t.conds = v.conds.map (evalEntry t)
  chamber : t.chamber = if standstillLimit t then heldDown v t else v.chamber

/-- The owning block, past the first checks of R199, acts on a request and leaves `v`. -/
def Acts {α : Type} (early : Bool) (owner : α → State → Handled) (u v : State) : Prop :=
  (commissioned u = true ∨ early = true) ∧ ∃ a code fields, owner a u = .act v code fields

/-- A request that changes plan rows: taken by the store, or recorded when it is refused ROLE or FORMAT (R185). -/
def ActsOnPlan {α : Type} (owner : α → State → Handled) (u v : State) : Prop :=
  Acts true owner u v ∨ ∃ c, v = record c u

/-- A timer whose time has come makes its effect. -/
def Expires (due : State → Bool) (effect : State → State) (u v : State) : Prop := due u = true ∧ v = effect u

/-- What a command's owning blocks make of the state `u` in which they see it. A power-on and a loss of supply are no
such events. -/
def Effect : Instr → State → State → Prop
  | .powerOn _, _, _ | .supplyLoss, _, _ | .planBlankCheck _, _, _ | .planVerify _, _, _ | .planStatus _, _, _
  | .read _, _, _ | .unknownRequest _, _, _ => False
  | .resetInput _, u, v => v = u ∨ v = warmReset u
  | .revolutionIndexPulse _, u, v => v = u ∨ (u.cutter.run = .running ∧ v = takePulse u)
  | .frameReceive p bytes, u, v => v = receive p (addBytes p bytes u)
  | .frameTimeout p, u, v => v = receive p u
  | .linkSilenceExpiry p, u, v => Expires (silenceDue p) (silenceLink p) u v
  | .strokeReport _, u, v => Acts false takeStrokes u v
  | .driveReport _, u, v => Acts false takeDriveReport u v
  | .retractDone _, u, v => Acts false takeRetractDone u v
  | .extendDone _, u, v => Acts false takeExtendDone u v
  | .groupFault _, u, v => Acts false takeGroupFault u v
  | .groupState _, u, v => Acts false takeGroupState u v
  | .claimAdvance _, u, v => Acts false takeClaimAdvance u v
  | .dropAdvance _, u, v => Acts false takeDropAdvance u v
  | .cutterStart _, u, v => Acts false takeCutterStart u v
  | .cutterSpeed _, u, v => Acts false takeCutterSpeed u v
  | .cutterStop _, u, v => Acts false takeCutterStop u v
  | .cutterRock _, u, v => Acts false takeCutterRock u v
  | .motorReadmit _, u, v => Acts false takeMotorReadmit u v
  | .claimBuild _, u, v => Acts false takeClaimBuild u v
  | .dropBuild _, u, v => Acts false takeDropBuild u v
  | .ringArm _, u, v => Acts false takeRingArm u v
  | .segmentOpen _, u, v => Acts false takeSegmentOpen u v
  | .segmentPlaced _, u, v => Acts false takeSegmentPlaced u v
  | .segmentClose _, u, v => Acts false takeSegmentClose u v
  | .ringAbort _, u, v => Acts false takeRingAbort u v
  | .doseTake _, u, v => Acts false takeDose u v
  | .doseClose _, u, v => Acts false takeDoseClose u v
  | .lineState _, u, v => Acts false takeLineState u v
  | .spoilReport _, u, v => Acts false takeSpoilReport u v
  | .constantsWrite _, u, v => Acts true takeConstants u v
  | .profileWrite _, u, v => Acts true takeProfileWrite u v
  | .profileSelect _, u, v => Acts true takeProfileSelect u v
  | .planErase _, u, v => ActsOnPlan takePlanErase u v
  | .planWrite _, u, v => ActsOnPlan takePlanWrite u v
  | .planWriteNext _, u, v => ActsOnPlan takePlanWriteNext u v
  | .conditionAck _, u, v => Acts true takeAck u v
  | .flagsClear _, u, v => Acts true takeFlagsClear u v
  | .halt _, u, v => Acts false takeHalt u v
  | .haltClear _, u, v => Acts false takeHaltClear u v
  | .warmReset _, u, v => Acts true takeWarmReset u v
  | .retractTimerExpiry g, u, v => Expires (retractDue g) (markSlow g) u v
  | .releaseTimerExpiry p, u, v => Expires (releaseDue p) (setOvertime p) u v
  | .advanceSpeedExpiry, u, v => Expires speedDue runOutSpeed u v
  | .estimateLossExpiry, u, v => Expires estimateDue loseEstimate u v
  | .rampStep, u, v => Expires rampDue rampStep u v
  | .deviationTimerExpiry i, u, v => Expires (deviationDue i) (removeMotor i) u v
  | .indexWatchExpiry, u, v => Expires watchDue loseIndex u v
  | .jamTimerExpiry, u, v => Expires jamDue (enterRest .jammed) u v
  | .reversePhaseExpiry, u, v => Expires (rockDue .reverse) beginForward u v
  | .forwardPhaseExpiry, u, v => Expires (rockDue .forward) rockFails u v
  | .eraseCompletion, u, v => Expires eraseDue completeErase u v
  | .rowCompletion, u, v => Expires rowDue completeRow u v

/-- What a command that is no power-on may come to. -/
inductive Outcome (c : Instr) (s t : State) : Prop
  | still (records : SameRecords (portOf c) s t) (queue : SameQueue s t)
  | effect (u v : State) (records : SameRecords (portOf c) s u) (queue : SameQueue s u) (acts : Effect c u v)
      (closes : Closes v t)

theorem sameRecords_quiet (p : Option Port) (s : State) : SameRecords p s (quiet s) :=
  ⟨rfl, rfl, rfl, rfl, rfl, rfl, rfl, rfl, rfl, rfl, rfl, rfl, fun _ => .inl rfl⟩

theorem sameQueue_quiet (s : State) : SameQueue s (quiet s) := ⟨rfl, rfl, rfl⟩

theorem portIndex_injective : Function.Injective portIndex := by
  intro p q
  cases p <;> cases q <;> decide

theorem linkOf_dropHead_same (p : Port) (s : State) :
    linkOf (dropHead p s) p = { linkOf s p with requests := (linkOf s p).requests.tail } := by
  simp [linkOf, dropHead]

theorem linkOf_dropHead_other {p q : Port} (h : p ≠ q) (s : State) : linkOf (dropHead p s) q = linkOf s q := by
  have hne : (portIndex p).val ≠ (portIndex q).val := fun e => h (portIndex_injective (Fin.ext e))
  simp [linkOf, dropHead, hne]

theorem sameRecords_taken (p : Port) (s : State) : SameRecords (some p) s (taken p s) := by
  refine ⟨rfl, rfl, rfl, rfl, rfl, rfl, rfl, rfl, rfl, rfl, rfl, rfl, fun q => ?_⟩
  by_cases h : p = q
  · subst h
    exact .inr ⟨rfl, linkOf_dropHead_same p (quiet s)⟩
  · exact .inl (linkOf_dropHead_other h (quiet s))

theorem sameQueue_taken (p : Port) (s : State) : SameQueue s (taken p s) := ⟨rfl, rfl, rfl⟩

theorem linkOf_of_links {s t : State} (h : t.links = s.links) (q : Port) : linkOf t q = linkOf s q := by
  simp [linkOf, h]

theorem sameRecords_answeredOnly (p : Port) (f : Frame) (code : Code) (fields : List Field) (s : State) :
    SameRecords (some p) s (answeredOnly p f code fields s) := by
  have hlinks : (answeredOnly p f code fields s).links = (taken p s).links := by simp [answeredOnly]
  refine ⟨?_, ?_, ?_, ?_, ?_, ?_, ?_, ?_, ?_, ?_, ?_, ?_, fun q => ?_⟩
  case refine_13 => simpa [linkOf_of_links hlinks] using (sameRecords_taken p s).links q
  all_goals simp [answeredOnly]

theorem sameQueue_answeredOnly (p : Port) (f : Frame) (code : Code) (fields : List Field) (s : State) :
    SameQueue s (answeredOnly p f code fields s) := by
  constructor <;> simp [answeredOnly]

theorem closes_finish (before : State) (reply : List Sent) (v : State) : Closes v (finish before reply v) :=
  ⟨sameInputs_finish _ _ _, finish_permits _ _ _, finish_conds _ _ _, finish_chamber _ _ _⟩

theorem closes_answered (p : Port) (f : Frame) (s v : State) (code : Code) (fields : List Field) :
    Closes v (answered s p f (taken p s) (.act v code fields)) where
  inputs := (sameInputs_afterAnswer p v).trans (sameInputs_finish _ _ _)
  permits := finish_permits _ _ _
  conds := by simpa [answered] using finish_conds s [responseTo p f code fields] (afterAnswer p v)
  chamber := (carries_answered p f s v code fields).chamber

/-- What a served request comes to: nothing, an answer without an effect, or the effect closed. -/
theorem serve_cases (n : Nat) (carry : Frame → State → Handled) (p : Port) (s : State) :
    serve n carry p s = quiet s ∨ ∃ f, (∃ code fields, serve n carry p s = answeredOnly p f code fields s) ∨
      ∃ v code fields, carry f (taken p s) = .act v code fields ∧
        serve n carry p s = answered s p f (taken p s) (.act v code fields) := by
  unfold serve
  split
  · split
    · rename_i f _
      refine .inr ⟨f, ?_⟩
      show (∃ code fields, answered s p f (taken p s) (carry f (taken p s)) = _) ∨
        ∃ v code fields, _ ∧ answered s p f (taken p s) (carry f (taken p s)) = _
      cases carry f (taken p s) with
      | answer code fields => exact .inl ⟨code, fields, rfl⟩
      | act v code fields => exact .inr ⟨v, code, fields, rfl, rfl⟩
    · exact .inl rfl
  · exact .inl rfl

theorem handle_acts {α : Type} {roles : List Port} {early : Bool} {reader : Reader α} {owner : α → State → Handled}
    {p : Port} {f : Frame} {u v : State} {code : Code} {fields : List Field}
    (h : handle roles early reader owner p f u = .act v code fields) : Acts early owner u v := by
  unfold handle at h
  split at h
  · cases h
  split at h
  · cases h
  split at h
  · cases h
  · rename_i a _ hc
    refine ⟨?_, a, code, fields, h⟩
    cases hu : commissioned u <;> simp_all

theorem recordEarly_acts {c : PlanCommand} {first rows : Nat} {u v : State} {h : Handled} {code : Code}
    {fields : List Field} (he : recordEarly c first rows u h = .act v code fields) :
    h = .act v code fields ∨ ∃ c, v = record c u := by
  unfold recordEarly at he
  split at he
  · injection he with hv; exact .inr ⟨_, hv.symm⟩
  · injection he with hv; exact .inr ⟨_, hv.symm⟩
  · exact .inl he

section Outcomes
variable {c : Instr} {s t : State}

/-- A command that serves a frame, when the effect of the frame is an effect of the command. -/
theorem outcome_of_serve {n : Nat} {carry : Frame → State → Handled} {p : Port} (hp : portOf c = some p)
    (hacts : ∀ f u v code fields, carry f u = .act v code fields → Effect c u v)
    (ht : t = serve n carry p s) : Outcome c s t := by
  obtain h | ⟨f, ⟨code, fields, h⟩ | ⟨v, code, fields, hv, h⟩⟩ := serve_cases n carry p s
  · rw [ht, h]
    exact .still (sameRecords_quiet _ s) (sameQueue_quiet s)
  · rw [ht, h]
    exact .still (hp ▸ sameRecords_answeredOnly p f code fields s) (sameQueue_answeredOnly p f code fields s)
  · rw [ht, h]
    exact .effect _ v (hp ▸ sameRecords_taken p s) (sameQueue_taken p s) (hacts f _ v code fields hv)
      (closes_answered p f s v code fields)

theorem outcome_of_request {α : Type} {n : Nat} {roles : List Port} {early : Bool} {reader : Reader α}
    {owner : α → State → Handled} {p : Port} (hp : portOf c = some p)
    (hacts : ∀ u v, Acts early owner u v → Effect c u v)
    (h : Host.Outcome.next (ρ := Refusal) (φ := Fault) (request n roles early reader owner p s) = .next t) :
    Outcome c s t := by
  injection h with h
  exact outcome_of_serve hp (fun f u v code fields hv => hacts u v (handle_acts hv)) h.symm

theorem outcome_of_planRequest {α : Type} {n : Nat} {k : PlanCommand} {reader : Reader α}
    {first rows : Option α → Frame → State → Nat} {owner : α → State → Handled} {p : Port} (hp : portOf c = some p)
    (hacts : ∀ u v, ActsOnPlan owner u v → Effect c u v)
    (h : Host.Outcome.next (ρ := Refusal) (φ := Fault) (planRequest n k reader first rows owner p s) = .next t) :
    Outcome c s t := by
  injection h with h
  refine outcome_of_serve hp (fun f u v code fields hv => hacts u v ?_) h.symm
  exact (recordEarly_acts hv).imp handle_acts id

theorem outcome_of_event {effect : State → State} (hacts : Effect c (quiet s) (effect (quiet s)))
    (h : Host.Outcome.next (ρ := Refusal) (φ := Fault) (event effect s) = .next t) : Outcome c s t := by
  injection h with h
  subst h
  unfold event
  split
  · exact .effect _ _ (sameRecords_quiet _ s) (sameQueue_quiet s) hacts (closes_finish _ _ _)
  · exact .still (sameRecords_quiet _ s) (sameQueue_quiet s)

theorem outcome_of_expiry {due : State → Bool} {effect : State → State} (hdue : due (quiet s) = due s)
    (hacts : ∀ u v, Expires due effect u v → Effect c u v)
    (h : Host.Outcome.next (ρ := Refusal) (φ := Fault) (expiry (due s) effect s) = .next t) : Outcome c s t := by
  unfold expiry at h
  split at h
  · rename_i hd
    exact outcome_of_event (hacts _ _ ⟨hdue.trans hd, rfl⟩) h
  · injection h with h
    exact h ▸ .still (sameRecords_quiet _ s) (sameQueue_quiet s)

theorem sameInputs_sent (s : State) (l : List Sent) : SameInputs s { s with sent := l } :=
  ⟨s.permits, s.conds, s.chamber.setpoint, l, s.held, rfl⟩

theorem sameInputs_holdBack (p : Port) (before s : State) : SameInputs s (holdBack p before s) := by
  unfold holdBack
  split
  · split
    · exact (sameInputs_sent s _).trans (sameInputs_setHeld p _ _)
    · exact .refl s
  · exact .refl s

@[simp] theorem holdBack_frame (p : Port) (before s : State) :
    (holdBack p before s).permits = s.permits ∧ (holdBack p before s).conds = s.conds ∧
    (holdBack p before s).chamber = s.chamber ∧ (holdBack p before s).cutter = s.cutter ∧
    (holdBack p before s).store = s.store := by
  unfold holdBack
  split
  · split <;> simp
  · simp

theorem Closes.holdBack {v t : State} (h : Closes v t) (p : Port) (before : State) :
    Closes v (holdBack p before t) where
  inputs := h.inputs.trans (sameInputs_holdBack p before t)
  permits := by rw [(sameInputs_holdBack p before t).permitsOf, (holdBack_frame p before t).1, h.permits]
  conds := by rw [(sameInputs_holdBack p before t).evalEntry, (holdBack_frame p before t).2.1, h.conds]
  chamber := by simpa [standstillLimit, heldDown, activeProfile] using h.chamber

theorem outcome_of_arrival {p : Port} {effect : State → State} (hacts : Effect c (quiet s) (effect (quiet s)))
    (h : Host.Outcome.next (ρ := Refusal) (φ := Fault) (arrival p effect s) = .next t) : Outcome c s t := by
  injection h with h
  subst h
  unfold arrival
  split
  · rename_i hp
    refine .effect _ _ (sameRecords_quiet _ s) (sameQueue_quiet s) hacts ?_
    simp only [event, hp, if_true]
    exact (closes_finish _ _ _).holdBack p s
  · exact .still (sameRecords_quiet _ s) (sameQueue_quiet s)

/-- A frame that is no request is answered without an effect (R199, step 1). -/
theorem outcome_of_unknown {p : Port} (hp : portOf c = some p) (h : execUnknownRequest p s = .next t) :
    Outcome c s t := by
  injection h with h
  subst h
  have hstill : Outcome c s (quiet s) := .still (sameRecords_quiet _ s) (sameQueue_quiet s)
  split
  · unfold answerUnknown
    split
    · split
      · exact hstill
      · rename_i f _ _ _
        exact .still (hp ▸ sameRecords_answeredOnly p f .format [] s) (sameQueue_answeredOnly p f .format [] s)
    · exact hstill
  · exact hstill

end Outcomes

/-- A query's owning block answers without an effect. -/
theorem takePlanVerify_not_acts {u v : State} : ¬ Acts true takePlanVerify u v := by
  rintro ⟨-, a, code, fields, h⟩
  unfold takePlanVerify busyAnswer at h
  split at h
  · cases h
  · split at h <;> cases h

theorem takePlanBlankCheck_not_acts {u v : State} : ¬ Acts true takePlanBlankCheck u v := by
  rintro ⟨-, a, code, fields, h⟩
  unfold takePlanBlankCheck busyAnswer at h
  simp only at h
  split at h <;> cases h

theorem takePlanStatus_not_acts {u v : State} : ¬ Acts true takePlanStatus u v := by
  rintro ⟨-, a, code, fields, h⟩
  cases h

theorem takeRead_not_acts {u v : State} : ¬ Acts true takeRead u v := by
  rintro ⟨-, a, code, fields, h⟩
  unfold takeRead at h
  split at h <;> cases h

/-- The inversion of `exec`, once for every command. -/
theorem exec_cases {c : Instr} {s t : State} (h : exec c s = .next t) :
    (∃ failed, c = .powerOn failed ∧ t = powerUp failed s) ∨ Outcome c s t := by
  cases c with
  | powerOn failed =>
    injection h with h
    exact .inl ⟨failed, rfl, h.symm⟩
  | supplyLoss =>
    injection h with h
    subst h
    exact .inr (.still ⟨rfl, rfl, rfl, rfl, rfl, rfl, rfl, rfl, rfl, rfl, rfl, rfl, fun _ => .inl rfl⟩ ⟨rfl, rfl, rfl⟩)
  | frameReceive p bytes =>
    exact .inr (outcome_of_arrival (effect := fun s => receive p (addBytes p bytes s)) rfl h)
  | frameTimeout p =>
    refine .inr ?_
    rw [exec, execFrameTimeout] at h
    split at h
    · exact outcome_of_arrival (effect := receive p) rfl h
    · injection h with h
      exact h ▸ .still (sameRecords_quiet _ s) (sameQueue_quiet s)
  | resetInput ms =>
    refine .inr (outcome_of_event (effect := fun s => if 1 ≤ ms then warmReset s else s) ?_ h)
    show _ ∨ _
    split <;> simp
  | revolutionIndexPulse ms =>
    refine .inr (outcome_of_event
      (effect := fun s => if 1 ≤ ms ∧ s.cutter.run = .running then takePulse s else s) ?_ h)
    show _ ∨ _
    split <;> simp_all
  | unknownRequest p => exact .inr (outcome_of_unknown rfl h)
  | planVerify p => exact .inr (outcome_of_request (p := p) rfl (fun _ _ => takePlanVerify_not_acts) h)
  | planBlankCheck p => exact .inr (outcome_of_request (p := p) rfl (fun _ _ => takePlanBlankCheck_not_acts) h)
  | planStatus p => exact .inr (outcome_of_request (p := p) rfl (fun _ _ => takePlanStatus_not_acts) h)
  | read p => exact .inr (outcome_of_request (p := p) rfl (fun _ _ => takeRead_not_acts) h)
  | planErase p | planWrite p | planWriteNext p =>
    exact .inr (outcome_of_planRequest (p := p) rfl (fun _ _ => id) h)
  | linkSilenceExpiry _ | retractTimerExpiry _ | releaseTimerExpiry _ | advanceSpeedExpiry | estimateLossExpiry
  | rampStep | deviationTimerExpiry _ | indexWatchExpiry | jamTimerExpiry | reversePhaseExpiry | forwardPhaseExpiry
  | eraseCompletion | rowCompletion =>
    exact .inr (outcome_of_expiry rfl (fun _ _ => id) h)
  | _ p => exact .inr (outcome_of_request (p := p) rfl (fun _ _ => id) h)

theorem sameRecords_idle (s : State) : SameRecords none s (idle s) := by
  unfold idle
  extract_lets u
  have h : SameRecords none s u := sameRecords_quiet none s
  split
  · split <;> exact ⟨h.1, h.2, h.3, h.4, h.5, h.6, h.7, h.8, h.9, h.10, h.11, h.12, h.13⟩
  · exact h

/-- Packages the case split for an invariant `P` whose premises are `R`: between the effect and its closing `Q` holds. -/
theorem step_keeps {P Q : State → Prop}
    (records : ∀ p s t, SameRecords p s t → P s → P t)
    (power : ∀ failed s, P s → P (powerUp failed s))
    (effect : ∀ c u v, Effect c u v → P u → Q v)
    (closes : ∀ v t, Closes v t → Q v → P t) :
    ∀ s t : State, P s → step s = .next t → P t := by
  intro s t hs h
  unfold step at h
  split at h
  · injection h with h
    exact h ▸ records _ _ _ (sameRecords_idle s) hs
  · rename_i c rest _
    have hs' : P { s with pending := rest } :=
      records none s _ ⟨rfl, rfl, rfl, rfl, rfl, rfl, rfl, rfl, rfl, rfl, rfl, rfl, fun _ => .inl rfl⟩ hs
    obtain ⟨failed, -, rfl⟩ | ⟨hrec, -⟩ | ⟨u, v, hrec, -, hacts, hcloses⟩ := exec_cases h
    · exact power failed _ hs'
    · exact records _ _ _ hrec hs'
    · exact closes v t hcloses (effect c u v hacts (records _ _ _ hrec hs'))

end Sys2Proof.Machine

/-! What each request's owning block makes of the state when it acts: one inversion lemma per request, with the checks
that it has passed. -/

namespace Sys2Proof.Machine

set_option Elab.async false

theorem withGroup_act {n : Nat} {act : Fin 16 → Handled} {v : State} {code : Code} {fields : List Field}
    (h : withGroup n act = .act v code fields) : ∃ g, act g = .act v code fields := by
  unfold withGroup at h
  split at h
  · exact ⟨_, h⟩
  · cases h

theorem withLine_act {n : Nat} {act : Fin 6 → Handled} {v : State} {code : Code} {fields : List Field}
    (h : withLine n act = .act v code fields) : ∃ i, act i = .act v code fields := by
  unfold withLine at h
  split at h
  · exact ⟨_, h⟩
  · cases h

/-! ## The advance account and the groups -/

/-- A STROKE REPORT up to its closures: the strokes classed, the residue and the counted advance (R18 to R23). -/
def strokesCounted (a : StrokeArgs) (s : State) : State :=
  let d := reportAdvance (contributions s a)
  countAdvance (if advancing s.modes.mode then leftOfAdvance s.account.residue d else 0)
    { s with
      groups := updateEach s.groups (strokeRecord s a)
      account := { s.account with residue := residueAfter s.account.residue d } }

/-- What a STROKE REPORT leaves (R17). -/
def strokesTaken (a : StrokeArgs) (s : State) : State :=
  let t := closeAndTest (strokesCounted a s).account.accumulator (strokesCounted a s)
  updateMean { t with account := { t.account with prev := Vector.ofFn (strokePrevious s a) } }

section Inversions
variable {u v : State}

theorem acts_strokeReport (h : Acts false takeStrokes u v) : ∃ a, v = strokesTaken a u := by
  obtain ⟨-, a, code, fields, h⟩ := h
  injection h with h
  exact ⟨a, h.symm⟩

theorem acts_retractDone (h : Acts false takeRetractDone u v) :
    ∃ g : Fin 16, u.groups[g].state = .retracting ∧
      v = grantEntries (entryHas g) (setGroup g (u.groups[g].enter .released u.now) u) := by
  obtain ⟨-, a, code, fields, h⟩ := h
  obtain ⟨g, h⟩ := withGroup_act h
  simp only at h
  split at h
  · rename_i hg
    injection h with h
    exact ⟨g, hg.1, h.symm⟩
  · cases h

theorem acts_extendDone (h : Acts false takeExtendDone u v) :
    ∃ g : Fin 16, u.groups[g].state = .returning ∧
      v = ringTest (updateMean (setGroup g (u.groups[g].enter .thrust u.now) u)) := by
  obtain ⟨-, a, code, fields, h⟩ := h
  obtain ⟨g, h⟩ := withGroup_act h
  simp only at h
  split at h
  · rename_i hg
    injection h with h
    exact ⟨g, hg.1, h.symm⟩
  · cases h

theorem acts_groupFault (h : Acts false takeGroupFault u v) :
    ∃ g : Fin 16, u.groups[g].state ≠ .lockedOut ∧
      v = ringTestAfter u.groups[g].state (updateMean (setGroup g (u.groups[g].enter .lockedOut u.now) u)) := by
  obtain ⟨-, a, code, fields, h⟩ := h
  obtain ⟨g, h⟩ := withGroup_act h
  simp only at h
  split at h
  · cases h
  · rename_i hg
    injection h with h
    exact ⟨g, hg, h.symm⟩

theorem acts_groupState (h : Acts false takeGroupState u v) :
    ∃ (g : Fin 16) (x : GroupPosition), (u.groups[g].state = .uncertain ∨ u.groups[g].state = .lockedOut) ∧
      v = ringTestAfter u.groups[g].state
        (afterResolution g (updateMean (setGroup g (u.groups[g].resolved x u.now) u))) := by
  obtain ⟨-, a, code, fields, h⟩ := h
  obtain ⟨g, h⟩ := withGroup_act h
  simp only at h
  split at h
  · rename_i hg
    injection h with h
    exact ⟨g, a.2, hg, h.symm⟩
  · cases h

/-! ## Claims and halts -/

theorem acts_claimAdvance (h : Acts false takeClaimAdvance u v) :
    commissioned u = true ∧ u.modes.mode ≠ .halted ∧ u.modes.advance = .absent ∧
      v = claimsChanged .claim
        { u with modes := { u.modes with advance := claimBeside u.modes.build (mayStandTogether u) } } := by
  obtain ⟨hc, a, code, fields, h⟩ := h
  unfold takeClaimAdvance at h
  split at h
  · cases h
  · split at h
    · cases h
    · split at h
      · cases h
      · injection h with h
        exact ⟨by simpa using hc, ‹_›, by simp_all, h.symm⟩

theorem acts_dropAdvance (h : Acts false takeDropAdvance u v) :
    (u.modes.advance = .pending ∧ v = { u with modes := { u.modes with advance := .absent } }) ∨
    (commissioned u = true ∧ u.modes.advance = .held ∧
      v = claimsChanged .drop
        { u with modes := { u.modes with advance := .absent, build := u.modes.build.granted } }) := by
  obtain ⟨hc, a, code, fields, h⟩ := h
  unfold takeDropAdvance at h
  split at h
  · cases h
  · injection h with h; exact .inl ⟨‹_›, h.symm⟩
  · injection h with h; exact .inr ⟨by simpa using hc, ‹_›, h.symm⟩

theorem acts_claimBuild (h : Acts false takeClaimBuild u v) :
    commissioned u = true ∧ u.modes.build = .absent ∧
      v = claimsChanged .claim
        { u with modes := { u.modes with build := buildClaimBeside u.modes.advance (mayStandTogether u) } } := by
  obtain ⟨hc, a, code, fields, h⟩ := h
  unfold takeClaimBuild at h
  split at h
  · cases h
  · injection h with h
    exact ⟨by simpa using hc, by simp_all, h.symm⟩

theorem acts_dropBuild (h : Acts false takeDropBuild u v) :
    (u.modes.build = .pending ∧ v = { u with modes := { u.modes with build := .absent } }) ∨
    (commissioned u = true ∧ u.modes.build = .held ∧ buildInProgress u = false ∧
      v = claimsChanged .drop
        { u with modes := { u.modes with build := .absent, advance := u.modes.advance.granted } }) := by
  obtain ⟨hc, a, code, fields, h⟩ := h
  unfold takeDropBuild at h
  split at h
  · cases h
  · injection h with h; exact .inl ⟨‹_›, h.symm⟩
  · split at h
    · cases h
    · injection h with h
      refine .inr ⟨by simpa using hc, ‹_›, by simp_all, h.symm⟩

theorem acts_halt (h : Acts false takeHalt u v) :
    commissioned u = true ∧ v = haltMachine (setOperatorHalt true u) := by
  obtain ⟨hc, a, code, fields, h⟩ := h
  injection h with h
  exact ⟨by simpa using hc, h.symm⟩

theorem acts_haltClear (h : Acts false takeHaltClear u v) :
    u.modes.mode = .halted ∧ otherHalt u = false ∧ v = deriveMode .haltClear (setOperatorHalt false u) := by
  obtain ⟨-, a, code, fields, h⟩ := h
  unfold takeHaltClear at h
  split at h
  · cases h
  · split at h
    · cases h
    · injection h with h
      exact ⟨by simp_all, by simp_all, h.symm⟩

theorem acts_warmReset (h : Acts true takeWarmReset u v) : v = warmReset u := by
  obtain ⟨-, a, code, fields, h⟩ := h
  injection h with h
  exact h.symm

/-! ## The cutterhead -/

theorem acts_driveReport (h : Acts false takeDriveReport u v) :
    ∃ a, v = driveTests (stopIfMotorsLow (updateTorque { u with cutter := recordReport a u.cutter })) := by
  obtain ⟨-, a, code, fields, h⟩ := h
  injection h with h
  exact ⟨a, h.symm⟩

/-- A start is refused without an effect, and only a state that fails a check is (R141). -/
theorem startRefusal_none {s : State} (h : ∀ r, startRefusal s = some r → ∃ v code fields, r = .act v code fields) :
    startRefusal s = none ∧ advancing s.modes.mode = true ∧ s.chamber.status ≠ .lost ∧ motorsLow s = false := by
  unfold startRefusal stateRefusal at *
  simp only at *
  split_ifs at * <;> simp_all

theorem acts_cutterSpeed (h : Acts false takeCutterSpeed u v) :
    turning u.cutter.run = true ∧ ∃ n, v = requestSpeed n u := by
  obtain ⟨-, a, code, fields, h⟩ := h
  unfold takeCutterSpeed at h
  split at h
  · injection h with h
    exact ⟨‹_›, a, h.symm⟩
  · cases h

theorem acts_cutterStart (h : Acts false takeCutterStart u v) :
    (turning u.cutter.run = true ∧ ∃ n, v = requestSpeed n u) ∨
    (u.cutter.run = .stopped ∧ advancing u.modes.mode = true ∧ u.chamber.status ≠ .lost ∧ motorsLow u = false ∧
      ∃ d n, v = startCutter d n u) := by
  obtain ⟨-, a, code, fields, h⟩ := h
  unfold takeCutterStart at h
  cases hr : u.cutter.run <;> simp only [hr] at h
  case starting | running =>
    split at h
    · injection h with h
      exact .inl ⟨rfl, a.2, h.symm⟩
    · cases h
  case stopped =>
    obtain ⟨hnone, hmode, hlost, hlow⟩ := startRefusal_none (s := u) fun r hr => by
      rw [hr] at h
      exact ⟨v, code, fields, h⟩
    rw [hnone] at h
    injection h with h
    exact .inr ⟨rfl, hmode, hlost, hlow, a.1, a.2, h.symm⟩
  all_goals cases h

theorem acts_cutterStop (h : Acts false takeCutterStop u v) : v = forcedStop u := by
  obtain ⟨-, a, code, fields, h⟩ := h
  injection h with h
  exact h.symm

theorem acts_cutterRock (h : Acts false takeCutterRock u v) :
    u.cutter.run = .jammed ∧ advancing u.modes.mode = true ∧ u.chamber.status ≠ .lost ∧ motorsLow u = false ∧
      v = startRocking u := by
  obtain ⟨-, a, code, fields, h⟩ := h
  unfold takeCutterRock stateRefusal at h
  split_ifs at h with h1 h2 h3 h4 h5
  injection h with h
  exact ⟨by simpa using h2, by simpa using h3, h4, by simpa using h5, h.symm⟩

theorem acts_motorReadmit (h : Acts false takeMotorReadmit u v) :
    ∃ i : Fin 8, (u.cutter.run = .stopped ∨ u.cutter.run = .jammed) ∧ u.cutter.motors[i].isIn = false ∧
      v = setMotor i u.cutter.motors[i].readmitted u := by
  obtain ⟨-, a, code, fields, h⟩ := h
  unfold takeMotorReadmit stateRefusal at h
  simp only at h
  split_ifs at h with h1 h2 h3 h4
  injection h with h
  exact ⟨⟨a, h1⟩, by tauto, by simpa using h4, h.symm⟩

/-! ## The ring and the release stack -/

theorem acts_ringArm (h : Acts false takeRingArm u v) :
    ∃ row, u.ring.state = .idle ∧ rowOfRing u.plan u.ring.number = some row ∧ v = (ringArmed row u).1 := by
  obtain ⟨-, n, code, fields, h⟩ := h
  unfold takeRingArm stateRefusal at h
  split_ifs at h with h1 h2 h3 h4
  split at h
  · cases h
  · rename_i row hrow
    split at h
    · injection h with h
      refine ⟨row, by simpa using h1, by simp_all, h.symm⟩
    · cases h

/-- A handled request that changes no record. -/
def Handled.isAnswer : Handled → Bool
  | .answer _ _ => true
  | .act _ _ _ => false

theorem builderRefusal_isAnswer {p : Fin 7} {s : State} {r : Handled} (h : builderRefusal p s = some r) :
    r.isAnswer = true := by
  unfold builderRefusal stateRefusal at h
  split_ifs at h <;> (injection h with h; subst h; rfl)

theorem stackRefusal_act {p : Fin 7} {s v : State} {code : Code} {fields : List Field}
    (h : stackRefusal p s = some (.act v code fields)) : v = refuseFull s := by
  unfold stackRefusal stateRefusal at h
  simp only at h
  split at h
  · injection h with h; injection h with h; exact h.symm
  · split at h
    · cases h
    · split at h
      · cases h
      · split at h <;> cases h

/-- The checks of the release stack that a push has passed (R47). -/
theorem stackRefusal_none {p : Fin 7} {s : State} (h : stackRefusal p s = none) :
    s.stack.entries.length < 3 ∧ coverBlocked s (ringCover s.ring p) = false ∧ oldestOvertime s.stack = none ∧
      countAfterOpen s (ringCover s.ring p) ≤ releaseLimit s := by
  unfold stackRefusal at h
  simp only at h
  split at h
  · cases h
  · split at h
    · cases h
    · split at h
      · cases h
      · split at h
        · cases h
        · exact ⟨by omega, by simp_all, ‹_›, by omega⟩

theorem builderRefusal_none {p : Fin 7} {s : State} (h : builderRefusal p s = none) :
    (s.ring.state = .armed ∨ s.ring.state = .building) ∧ s.modes.build = .held ∧ s.permits.build.allowed = true ∧
      s.ring.queue.head? = some p ∧ (p = 6 → ordinariesSet s.ring = true) := by
  unfold builderRefusal at h
  split_ifs at h with h1 h2 h3 h4 h5 h6 h7
  refine ⟨by tauto, by simpa using h2, by simpa using h3, by simpa using h4, fun hp => ?_⟩
  simpa using fun hf => h5 ⟨hp, hf⟩

theorem acts_segmentOpen (h : Acts false takeSegmentOpen u v) :
    ∃ p, builderRefusal p u = none ∧ (v = refuseFull u ∨ (stackRefusal p u = none ∧ v = openPosition p u)) := by
  obtain ⟨-, n, code, fields, h⟩ := h
  unfold takeSegmentOpen at h
  split at h
  · refine ⟨Fin.ofNat 7 n, ?_⟩
    simp only at h
    split at h
    · rename_i r hr
      have hanswer := builderRefusal_isAnswer hr
      rw [h] at hanswer
      cases hanswer
    · refine ⟨‹_›, ?_⟩
      split at h
      · subst h
        exact .inl (stackRefusal_act ‹_›)
      · injection h with h
        exact .inr ⟨‹_›, h.symm⟩
  · cases h

theorem acts_segmentPlaced (h : Acts false takeSegmentPlaced u v) :
    ∃ e rest, u.stack.entries = e :: rest ∧ e.state = .opened ∧
      v = { u with stack := { u.stack with entries := { e with state := .placed } :: rest } } := by
  obtain ⟨-, n, code, fields, h⟩ := h
  unfold takeSegmentPlaced stateRefusal at h
  split at h
  · cases h
  · split at h
    · cases h
    · rename_i e rest he
      split at h
      · cases h
      · split at h
        · cases h
        · cases h
        · injection h with h
          exact ⟨e, rest, he, ‹_›, by rw [← h, placeTop, he]⟩

theorem acts_segmentClose (h : Acts false takeSegmentClose u v) :
    (u.stack.entries = [] ∧ v = { u with stack := { u.stack with underflow := true } }) ∨
    ∃ e rest, u.stack.entries = e :: rest ∧
      ((e.state = .placed ∧ v = closeSet e.position u) ∨ v = closeNotSet e.position u) := by
  obtain ⟨-, a, code, fields, h⟩ := h
  unfold takeSegmentClose stateRefusal at h
  split at h
  · cases h
  · split at h
    · injection h with h; exact .inl ⟨‹_›, h.symm⟩
    · rename_i e rest he
      refine .inr ⟨e, rest, he, ?_⟩
      split at h
      · cases h
      · split at h
        · split at h
          · injection h with h; exact .inl ⟨‹_›, h.symm⟩
          · cases h
        · injection h with h; exact .inr h.symm

theorem acts_ringAbort (h : Acts false takeRingAbort u v) :
    (u.ring.state = .armed ∧ v = announceRing .abort { u with ring := RingRec.cleared u.ring.number }) ∨
    ((u.ring.state = .building ∨ u.ring.state = .closing) ∧ v = abortRing .abort u) := by
  obtain ⟨-, a, code, fields, h⟩ := h
  unfold takeRingAbort stateRefusal at h
  split at h
  · cases h
  · injection h with h; exact .inl ⟨‹_›, h.symm⟩
  · injection h with h; exact .inr ⟨.inl ‹_›, h.symm⟩
  · injection h with h; exact .inr ⟨.inr ‹_›, h.symm⟩
  · cases h

/-! ## Grout -/

theorem acts_doseTake (h : Acts false takeDose u v) :
    ∃ i : Fin 6, v = { u with grout := u.grout.setLine i u.grout.lines[i].take } := by
  obtain ⟨-, n, code, fields, h⟩ := h
  obtain ⟨i, h⟩ := withLine_act h
  unfold stateRefusal at h
  simp only at h
  split_ifs at h
  split at h
  · cases h
  · split at h
    · cases h
    · injection h with h; exact ⟨i, h.symm⟩

/-- The grout that a DOSE CLOSE moves (R102). -/
def doseMoved (i : Fin 6) (target : Nat) (a : DoseCloseArgs) (s : State) : Moved :=
  settle (activeProfile s) i ((target : Int) - a.actual) a.outcome (s.grout.setLine i (s.grout.lines[i].close a))

/-- What a DOSE CLOSE leaves (R102 to R105, R111). -/
def doseShut (i : Fin 6) (target : Nat) (a : DoseCloseArgs) (s : State) : State :=
  { s with
    grout := { (doseMoved i target a s).grout with judged := true }
    account := countInjected a.actual s.account }

theorem acts_doseClose (h : Acts false takeDoseClose u v) :
    ∃ (a : DoseCloseArgs) (i : Fin 6) (d : Dose), u.grout.lines[i].taken = some d ∧ v = doseShut i d.target a u := by
  obtain ⟨-, a, code, fields, h⟩ := h
  obtain ⟨i, h⟩ := withLine_act h
  unfold stateRefusal at h
  split at h
  · cases h
  · split at h
    · cases h
    · rename_i d hd
      split at h
      · cases h
      · injection h with h; exact ⟨a, i, d, hd, h.symm⟩

/-- The grout that a LINE STATE moves (R106). -/
def lineMoved (i : Fin 6) (x : Service) (c : Capacity) (s : State) : Moved :=
  changeService (activeProfile s) i x (s.grout.setLine i { s.grout.lines[i] with capacity := c })

theorem acts_lineState (h : Acts false takeLineState u v) :
    ∃ i x c, v = { u with grout := (lineMoved i x c u).grout } := by
  obtain ⟨-, a, code, fields, h⟩ := h
  obtain ⟨i, h⟩ := withLine_act h
  injection h with h
  exact ⟨i, a.service, a.capacity, h.symm⟩

/-! ## Spoil -/

/-- What a SPOIL REPORT leaves (R118). -/
def spoilTaken (a : SpoilArgs) (s : State) : State :=
  beltPart a.belt (pressurePart a
    { s with chamber := { s.chamber with lastReport := some s.now, screwActual := a.screw, gate := a.gate } })

theorem acts_spoilReport (h : Acts false takeSpoilReport u v) : ∃ a, v = spoilTaken a u := by
  obtain ⟨-, a, code, fields, h⟩ := h
  injection h with h
  exact ⟨a, h.symm⟩

/-! ## Stored records, conditions, the plan -/

theorem acts_constantsWrite (h : Acts true takeConstants u v) :
    ∃ c, constantsWritable u = true ∧
      v = if u.modes.mode = .uncommissioned then commission (installConstants c u) else installConstants c u := by
  obtain ⟨-, c, code, fields, h⟩ := h
  unfold takeConstants stateRefusal at h
  split at h
  · cases h
  · split at h
    · cases h
    · injection h with h; exact ⟨c, by simp_all, h.symm⟩

theorem acts_profileWrite (h : Acts true takeProfileWrite u v) :
    ∃ (i : Fin 4) (p : Profile), i ≠ u.store.active ∧ u.store.pendingProfile ≠ some i ∧ profileValid p = true ∧
      v = { u with store := { u.store with profiles := u.store.profiles.set i p } } := by
  obtain ⟨-, a, code, fields, h⟩ := h
  unfold takeProfileWrite at h
  split_ifs at h with h1 h2 h3
  injection h with h
  refine ⟨⟨a.1, h2⟩, a.2, fun e => h1 ?_, fun e => h1 ?_, h3, h.symm⟩
  · simp [profileProtected, ← e]
  · simp [profileProtected, e]

theorem acts_profileSelect (h : Acts true takeProfileSelect u v) : ∃ n, v = (selectProfile n u).1 := by
  obtain ⟨-, n, code, fields, h⟩ := h
  unfold takeProfileSelect at h
  split at h
  · injection h with h; exact ⟨_, h.symm⟩
  · cases h

theorem acts_conditionAck (h : Acts true takeAck u v) :
    ∃ name subject, v = clearLatches name subject (clearTrip name u) := by
  obtain ⟨-, a, code, fields, h⟩ := h
  unfold takeAck at h
  split at h
  · injection h with h; exact ⟨_, _, h.symm⟩
  · cases h

theorem acts_flagsClear (h : Acts true takeFlagsClear u v) : v = flagsDown u := by
  obtain ⟨-, a, code, fields, h⟩ := h
  injection h with h
  exact h.symm

theorem acts_planErase (h : ActsOnPlan takePlanErase u v) :
    (∃ c, v = record c u) ∨
    ∃ base, planBusy u.plan = false ∧ v = { u with plan := u.plan.erased base u.now } := by
  obtain ⟨-, base, code, fields, h⟩ | h := h
  · unfold takePlanErase refuseErase busyAnswer at h
    split_ifs at h with h1 h2 h3
    · injection h with h; exact .inl ⟨_, h.symm⟩
    · injection h with h; exact .inl ⟨_, h.symm⟩
    · injection h with h; exact .inr ⟨base, by simpa using h1, h.symm⟩
  · exact .inl h

theorem writeRows_act {c : PlanCommand} {first : Nat} {rows : List PlanRow} {code : Code} {fields : List Field}
    (h : writeRows c first rows u = .act v code fields) :
    (∃ c, v = record c u) ∨
    (planBusy u.plan = false ∧ writeRefusal first rows u = none ∧
      v = { u with plan := u.plan.writing c first u.now rows }) := by
  unfold writeRows busyAnswer at h
  split at h
  · cases h
  · split at h
    · injection h with h; exact .inl ⟨_, h.symm⟩
    · injection h with h; exact .inr ⟨by simp_all, ‹_›, h.symm⟩

theorem acts_planWrite (h : ActsOnPlan takePlanWrite u v) :
    (∃ c, v = record c u) ∨
    ∃ c first rows, planBusy u.plan = false ∧ writeRefusal first rows u = none ∧
      v = { u with plan := u.plan.writing c first u.now rows } := by
  obtain ⟨-, a, code, fields, h⟩ | h := h
  · exact (writeRows_act h).imp id fun h => ⟨_, _, _, h⟩
  · exact .inl h

theorem acts_planWriteNext (h : ActsOnPlan takePlanWriteNext u v) :
    (∃ c, v = record c u) ∨
    ∃ c first rows, planBusy u.plan = false ∧ writeRefusal first rows u = none ∧
      v = { u with plan := u.plan.writing c first u.now rows } := by
  obtain ⟨-, a, code, fields, h⟩ | h := h
  · exact (writeRows_act h).imp id fun h => ⟨_, _, _, h⟩
  · exact .inl h

end Inversions

end Sys2Proof.Machine

/-! The frame of the whole machine: what each command's effect may alter, and what the end of the event adds to it, the
setpoint of the standstill limit alone (R126). -/

namespace Sys2Proof.Machine

set_option Elab.async false

@[simp] theorem mem_modeBlocks (b : Block) :
    b ∈ modeBlocks ↔ b = .store ∨ b = .account ∨ b = .stack ∨ b = .grout ∨ b = .chamber ∨ b = .cutter ∨ b = .modes := by
  simp [modeBlocks]

/-- From `s` to `t` at most the blocks listed change and the records of the links that `touched` names; the timebase,
the queue and the counter of the free order stay. -/
structure AltersOn (touched : Port → Bool) (l : List Block) (s t : State) : Prop where
  store   : .store ∉ l → t.store = s.store := by simp
  account : .account ∉ l → t.account = s.account := by simp
  groups  : .groups ∉ l → t.groups = s.groups := by simp
  stack   : .stack ∉ l → t.stack = s.stack := by simp
  ring    : .ring ∉ l → t.ring = s.ring := by simp
  plan    : .plan ∉ l → t.plan = s.plan := by simp
  grout   : .grout ∉ l → t.grout = s.grout := by simp
  chamber : .chamber ∉ l → t.chamber = s.chamber := by simp
  cutter  : .cutter ∉ l → t.cutter = s.cutter := by simp
  modes   : .modes ∉ l → t.modes = s.modes := by simp
  links   : ∀ q, touched q = false → linkOf t q = linkOf s q := by simp [linkOf]
  now     : t.now = s.now := by simp
  pending : t.pending = s.pending := by simp
  choices : t.choices = s.choices := by simp

/-- From `s` to `t` at most the blocks listed change. -/
abbrev Alters (l : List Block) (s t : State) : Prop := AltersOn (fun _ => false) l s t

theorem AltersOn.mono {k k' : Port → Bool} {l l' : List Block} {s t : State} (h : AltersOn k l s t)
    (hk : ∀ q, k' q = false → k q = false) (hl : l ⊆ l') : AltersOn k' l' s t where
  store hb := h.store fun m => hb (hl m)
  account hb := h.account fun m => hb (hl m)
  groups hb := h.groups fun m => hb (hl m)
  stack hb := h.stack fun m => hb (hl m)
  ring hb := h.ring fun m => hb (hl m)
  plan hb := h.plan fun m => hb (hl m)
  grout hb := h.grout fun m => hb (hl m)
  chamber hb := h.chamber fun m => hb (hl m)
  cutter hb := h.cutter fun m => hb (hl m)
  modes hb := h.modes fun m => hb (hl m)
  links q hq := h.links q (hk q hq)
  now := h.now
  pending := h.pending
  choices := h.choices

theorem Alters.on {l l' : List Block} {s t : State} (h : Alters l s t) (k : Port → Bool) (hl : l ⊆ l' := by simp) :
    AltersOn k l' s t :=
  h.mono (fun _ _ => rfl) hl

theorem AltersOn.refl (k : Port → Bool) (l : List Block) (s : State) : AltersOn k l s s := {}

theorem AltersOn.trans {k : Port → Bool} {l : List Block} {s t u : State} (h : AltersOn k l s t)
    (h' : AltersOn k l t u) : AltersOn k l s u where
  store hb := (h'.store hb).trans (h.store hb)
  account hb := (h'.account hb).trans (h.account hb)
  groups hb := (h'.groups hb).trans (h.groups hb)
  stack hb := (h'.stack hb).trans (h.stack hb)
  ring hb := (h'.ring hb).trans (h.ring hb)
  plan hb := (h'.plan hb).trans (h.plan hb)
  grout hb := (h'.grout hb).trans (h.grout hb)
  chamber hb := (h'.chamber hb).trans (h.chamber hb)
  cutter hb := (h'.cutter hb).trans (h.cutter hb)
  modes hb := (h'.modes hb).trans (h.modes hb)
  links q hq := (h'.links q hq).trans (h.links q hq)
  now := h'.now.trans h.now
  pending := h'.pending.trans h.pending
  choices := h'.choices.trans h.choices

section Carried
variable {s t : State}

theorem SameInputs.store (h : SameInputs s t) : t.store = s.store := by obtain ⟨_, _, _, _, _, rfl⟩ := h; rfl
theorem SameInputs.account (h : SameInputs s t) : t.account = s.account := by obtain ⟨_, _, _, _, _, rfl⟩ := h; rfl
theorem SameInputs.groups (h : SameInputs s t) : t.groups = s.groups := by obtain ⟨_, _, _, _, _, rfl⟩ := h; rfl
theorem SameInputs.stack (h : SameInputs s t) : t.stack = s.stack := by obtain ⟨_, _, _, _, _, rfl⟩ := h; rfl
theorem SameInputs.ring (h : SameInputs s t) : t.ring = s.ring := by obtain ⟨_, _, _, _, _, rfl⟩ := h; rfl
theorem SameInputs.plan (h : SameInputs s t) : t.plan = s.plan := by obtain ⟨_, _, _, _, _, rfl⟩ := h; rfl
theorem SameInputs.grout (h : SameInputs s t) : t.grout = s.grout := by obtain ⟨_, _, _, _, _, rfl⟩ := h; rfl
theorem SameInputs.cutter (h : SameInputs s t) : t.cutter = s.cutter := by obtain ⟨_, _, _, _, _, rfl⟩ := h; rfl
theorem SameInputs.modes (h : SameInputs s t) : t.modes = s.modes := by obtain ⟨_, _, _, _, _, rfl⟩ := h; rfl
theorem SameInputs.links (h : SameInputs s t) : t.links = s.links := by obtain ⟨_, _, _, _, _, rfl⟩ := h; rfl
theorem SameInputs.queue (h : SameInputs s t) : SameQueue s t := by
  obtain ⟨_, _, _, _, _, rfl⟩ := h
  exact ⟨rfl, rfl, rfl⟩
theorem SameInputs.profile (h : SameInputs s t) : activeProfile t = activeProfile s := by
  simp [activeProfile, h.store]

end Carried

/-! ## The cutterhead and the screw -/

theorem enterRest_alters (r : RunState) (s : State) : Alters [.cutter, .chamber] s (enterRest r s) := {}

theorem forcedStop_alters (s : State) : Alters [.cutter, .chamber] s (forcedStop s) := {}

theorem leaveIfRunning_of_not {s : State} (h : s.cutter.run ≠ .running) : leaveIfRunning s = s := if_neg h

/-- Out of RUNNING an entry into rest changes the cutterhead unit alone (R147). -/
theorem enterRest_of_not_running {r : RunState} {s : State} (h : s.cutter.run ≠ .running) :
    enterRest r s = { s with cutter := restCutter r s.cutter } := by
  simp [enterRest, leaveIfRunning_of_not h]

theorem requestSpeed_alters (n : Nat) (s : State) : Alters [.cutter] s (requestSpeed n s) := by
  unfold requestSpeed
  exact {}

theorem startCutter_alters (d : Direction) (n : Nat) (s : State) : Alters [.cutter] s (startCutter d n s) := by
  unfold startCutter
  exact {}

theorem startRocking_alters (s : State) : Alters [.cutter] s (startRocking s) := by
  unfold startRocking
  exact {}

theorem rampStep_alters (s : State) : Alters [.cutter] s (rampStep s) := by
  unfold rampStep
  exact {}

theorem loseIndex_alters (s : State) : Alters [.cutter] s (loseIndex s) := by
  unfold loseIndex
  exact {}

theorem beginForward_alters (s : State) : Alters [.cutter] s (beginForward s) := by
  unfold beginForward
  exact {}

theorem jamTest_alters (s : State) : Alters [.cutter, .chamber] s (jamTest s) := by
  unfold jamTest
  exact {}

theorem enterRunning_alters (s : State) : Alters [.cutter, .chamber] s (enterRunning s) := {}

theorem rockSucceeds_alters (s : State) : Alters [.cutter, .chamber] s (rockSucceeds s) := by
  unfold rockSucceeds
  exact {}

theorem driveTests_alters (s : State) : Alters [.cutter, .chamber] s (driveTests s) := by
  unfold driveTests
  split
  case h_1 =>
    refine AltersOn.trans ?_ (jamTest_alters _)
    split
    · exact enterRunning_alters s
    · exact .refl _ _ s
  case h_2 => exact AltersOn.trans (by unfold shareTest; exact {}) (jamTest_alters _)
  case h_3 =>
    split
    · exact enterRest_alters _ s
    · exact .refl _ _ s
  case h_4 =>
    split
    · exact rockSucceeds_alters s
    · exact .refl _ _ s
  all_goals exact .refl _ _ s

theorem driveReport_alters (a : DriveArgs) (s : State) : Alters [.cutter, .chamber] s
    (driveTests (stopIfMotorsLow (updateTorque { s with cutter := recordReport a s.cutter }))) :=
  AltersOn.trans {} (driveTests_alters _)

theorem pressurePart_alters (a : SpoilArgs) (s : State) : Alters [.chamber, .cutter] s (pressurePart a s) := by
  unfold pressurePart
  simp only
  split
  · exact {}
  · split <;> exact {}

theorem beltPart_alters (counter : Nat) (s : State) : Alters [.chamber, .account] s (beltPart counter s) := by
  unfold beltPart
  split
  · exact {}
  · simp only
    split <;> exact {}

theorem spoilTaken_alters (a : SpoilArgs) (s : State) : Alters [.chamber, .cutter, .account] s (spoilTaken a s) := by
  unfold spoilTaken
  refine AltersOn.trans ?_ ((beltPart_alters a.belt _).on _)
  exact AltersOn.trans {} ((pressurePart_alters a _).on _)

/-! ## The mode, the profile switch, the account -/

theorem closeAndTest_alters (fuel : Nat) (s : State) : Alters modeBlocks s (closeAndTest fuel s) := {}

theorem haltMachine_alters (s : State) : Alters modeBlocks s (haltMachine s) := {}

theorem claimsChanged_alters (cause : ModeCause) (s : State) (m : ModeUnit) :
    Alters modeBlocks s (claimsChanged cause { s with modes := m }) := {}

theorem deriveMode_alters (cause : ModeCause) (s : State) (m : ModeUnit) :
    Alters modeBlocks s (deriveMode cause { s with modes := m }) := {}

theorem selectProfile_alters (n : Fin 4) (s : State) : Alters modeBlocks s (selectProfile n s).1 := {}

theorem heldChanged_alters (before : Nat) (s : State) : Alters modeBlocks s (heldChanged before s) := {}

theorem strokesTaken_alters (a : StrokeArgs) (s : State) : Alters (.groups :: modeBlocks) s (strokesTaken a s) := by
  unfold strokesTaken strokesCounted countAdvance
  exact {}

theorem resetBlocks_alters (s : State) : AltersOn (fun _ => true) (.groups :: modeBlocks) s (resetBlocks s) := by
  unfold resetBlocks
  exact {}

theorem warmReset_alters (s : State) : AltersOn (fun _ => true) (.groups :: modeBlocks) s (warmReset s) :=
  (resetBlocks_alters s).trans (by unfold warmReset; exact {})

theorem silenceLink_alters (p : Port) (s : State) :
    AltersOn (fun q => decide (p = q)) modeBlocks s (silenceLink p s) := by
  have hlinks : ∀ q, decide (p = q) = false → linkOf (setLink p { linkOf s p with active := false } s) q = linkOf s q := by
    intro q hq
    have hne : (portIndex p).val ≠ (portIndex q).val := fun e =>
      of_decide_eq_false hq (portIndex_injective (Fin.ext e))
    simp [linkOf, setLink, hne]
  unfold silenceLink
  simp only
  split
  · refine AltersOn.trans (t := setLink p { linkOf s p with active := false } s) { links := hlinks } ?_
    refine AltersOn.trans ?_ ((haltMachine_alters _).on _)
    exact {}
  · exact { links := hlinks }

theorem installConstants_alters (c : Constants) (s : State) :
    Alters (.groups :: modeBlocks) s (installConstants c s) := by
  unfold installConstants
  exact {}

theorem commission_alters (s : State) : Alters modeBlocks s (commission s) := by
  unfold commission
  split <;> exact {}

/-! ## The release stack and the ring -/

theorem ringTest_alters (s : State) : Alters [.account, .store, .ring] s (ringTest s) := {}

theorem ringTestAfter_alters (x : GroupState) (s : State) : Alters [.account, .store, .ring] s (ringTestAfter x s) := {}

theorem popEntry_alters (s : State) : Alters (.groups :: modeBlocks) s (popEntry s) := {}

theorem abortRing_alters (cause : RingCause) (s : State) :
    Alters (.ring :: .groups :: modeBlocks) s (abortRing cause s) := {}

theorem openPosition_alters (p : Fin 7) (s : State) :
    Alters (.ring :: .groups :: modeBlocks) s (openPosition p s) := by
  unfold openPosition announceFirst
  simp only
  split <;> exact {}

theorem refuseFull_alters (s : State) : Alters modeBlocks s (refuseFull s) := by
  unfold refuseFull
  simp only
  split <;> exact {}

theorem closeSet_alters (p : Fin 7) (s : State) : Alters (.ring :: .groups :: modeBlocks) s (closeSet p s) := by
  unfold closeSet
  simp only
  split <;> exact {}

theorem closeNotSet_alters (p : Fin 7) (s : State) : Alters (.ring :: .groups :: modeBlocks) s (closeNotSet p s) := by
  unfold closeNotSet
  split
  · exact {}
  · refine AltersOn.trans (t := popEntry s) ((popEntry_alters s).on _) ?_
    exact AltersOn.trans {} (abortRing_alters _ _)

/-! ## Links -/

@[simp] theorem linkOf_setLink_other {p q : Port} (h : p ≠ q) (l : LinkRec) (s : State) :
    linkOf (setLink p l s) q = linkOf s q := by
  have hne : (portIndex p).val ≠ (portIndex q).val := fun e => h (portIndex_injective (Fin.ext e))
  simp [linkOf, setLink, hne]

@[simp] theorem linkOf_setLink_same (p : Port) (l : LinkRec) (s : State) : linkOf (setLink p l s) p = l := by
  simp [linkOf, setLink]

@[simp] theorem onActive_links (p : Port) (before : LinkRec) (s : State) : (onActive p before s).links = s.links := by
  unfold onActive
  simp only
  split
  · simp
  · split <;> simp

theorem linkOf_deliver_other {p q : Port} (h : p ≠ q) (s : State) (x : Frame × Nat) :
    linkOf (deliver p s x) q = linkOf s q := by
  unfold deliver
  simp only
  split
  · simp [h]
  · rw [linkOf_of_links (onActive_links ..), linkOf_setLink_other h]

theorem linkOf_foldl_deliver_other {p q : Port} (h : p ≠ q) (l : List (Frame × Nat)) (s : State) :
    linkOf (l.foldl (deliver p) s) q = linkOf s q := by
  induction l generalizing s with
  | nil => rfl
  | cons x l ih => rw [List.foldl_cons, ih, linkOf_deliver_other h]

theorem receive_alters (p : Port) (s : State) : AltersOn (fun q => decide (p = q)) [] s (receive p s) where
  links q hq := by
    have hne : p ≠ q := of_decide_eq_false hq
    simp [receive, linkOf_foldl_deliver_other hne, hne]

theorem addBytes_alters (p : Port) (bytes : List Byte) (s : State) :
    AltersOn (fun q => decide (p = q)) [] s (addBytes p bytes s) where
  links q hq := by
    have hne : p ≠ q := of_decide_eq_false hq
    simp [addBytes, hne]

/-! ## Every command -/

/-- The two commands whose effect may grant an entry, and with it brings the permits up to date (R46, R174). -/
def mayGrant : Instr → Bool
  | .retractDone _ | .groupState _ => true
  | _ => false

theorem grantEntries_alters (which : StackEntry → Bool) (s : State) :
    Alters [.stack, .chamber] s (grantEntries which s) := {}

theorem afterResolution_alters (g : Fin 16) (s : State) : Alters [.stack, .chamber] s (afterResolution g s) := by
  unfold afterResolution
  split <;> exact {}

/-- Where no entry can be granted a resolution sends its order and changes no record. -/
theorem afterResolution_chamber {g : Fin 16} {s : State} (h : s.groups[g].state ≠ .released) :
    (afterResolution g s).chamber = s.chamber := by
  unfold afterResolution
  split <;> simp_all

/-- The links that a command's effect may reach, once its own frame has been taken. -/
def reachesLink : Instr → Port → Bool
  | .frameReceive p _, q | .frameTimeout p, q | .linkSilenceExpiry p, q => p = q
  | .resetInput _, _ | .warmReset _, _ => true
  | _, _ => false

theorem reachesLink_of_not_touched {c : Instr} {q : Port} (h : touchesLink c q = false) : reachesLink c q = false := by
  cases c <;> simp_all [touchesLink, reachesLink, portOf]

/-- Every command's effect reaches the blocks of its step alone; a grant may lower the setpoint too. -/
theorem effect_alters {c : Instr} {u v : State} (h : Effect c u v) :
    AltersOn (reachesLink c) (if mayGrant c then .chamber :: mayChange c else mayChange c) u v := by
  cases c <;> simp only [mayGrant, mayChange, Bool.false_eq_true, if_false, if_true]
  case powerOn _ | supplyLoss | planBlankCheck _ | planVerify _ | planStatus _ | read _ | unknownRequest _ => exact h.elim
  case resetInput ms =>
    obtain rfl | rfl := h
    · exact .refl _ _ _
    · exact warmReset_alters u
  case revolutionIndexPulse ms =>
    obtain rfl | ⟨-, rfl⟩ := h
    · exact .refl _ _ _
    · unfold takePulse
      exact {}
  case frameReceive p bytes =>
    obtain rfl := h
    exact ((addBytes_alters p bytes u).trans (receive_alters p _)).mono (by simp [reachesLink]) (by simp)
  case frameTimeout p =>
    obtain rfl := h
    exact (receive_alters p u).mono (by simp [reachesLink]) (by simp)
  case linkSilenceExpiry p =>
    obtain ⟨-, rfl⟩ := h
    exact (silenceLink_alters p u).mono (by simp [reachesLink]) (List.Subset.refl _)
  case strokeReport p =>
    obtain ⟨a, rfl⟩ := acts_strokeReport h
    exact (strokesTaken_alters a u).on _
  case driveReport p =>
    obtain ⟨a, rfl⟩ := acts_driveReport h
    exact (driveReport_alters a u).on _
  case retractDone p =>
    obtain ⟨g, -, rfl⟩ := acts_retractDone h
    exact AltersOn.trans {} ((grantEntries_alters _ _).on _)
  case extendDone p =>
    obtain ⟨g, -, rfl⟩ := acts_extendDone h
    exact AltersOn.trans {} ((ringTest_alters _).on _)
  case groupFault p =>
    obtain ⟨g, -, rfl⟩ := acts_groupFault h
    exact AltersOn.trans {} ((ringTestAfter_alters _ _).on _)
  case groupState p =>
    obtain ⟨g, x, -, rfl⟩ := acts_groupState h
    refine AltersOn.trans ?_ ((ringTestAfter_alters _ _).on _)
    exact AltersOn.trans {} ((afterResolution_alters _ _).on _)
  case claimAdvance p =>
    obtain ⟨-, -, -, rfl⟩ := acts_claimAdvance h
    exact (claimsChanged_alters _ u _).on _
  case dropAdvance p =>
    obtain ⟨-, rfl⟩ | ⟨-, -, rfl⟩ := acts_dropAdvance h
    · exact {}
    · exact (claimsChanged_alters _ u _).on _
  case claimBuild p =>
    obtain ⟨-, -, rfl⟩ := acts_claimBuild h
    exact (claimsChanged_alters _ u _).on _
  case dropBuild p =>
    obtain ⟨-, rfl⟩ | ⟨-, -, -, rfl⟩ := acts_dropBuild h
    · exact {}
    · exact (claimsChanged_alters _ u _).on _
  case halt p =>
    obtain ⟨-, rfl⟩ := acts_halt h
    exact AltersOn.trans {} ((haltMachine_alters _).on _)
  case haltClear p =>
    obtain ⟨-, -, rfl⟩ := acts_haltClear h
    exact (deriveMode_alters _ u _).on _
  case warmReset p =>
    obtain rfl := acts_warmReset h
    exact warmReset_alters u
  case cutterStart p =>
    obtain ⟨-, n, rfl⟩ | ⟨-, -, -, -, d, n, rfl⟩ := acts_cutterStart h
    · exact (requestSpeed_alters n u).on _
    · exact (startCutter_alters d n u).on _
  case cutterSpeed p =>
    obtain ⟨-, n, rfl⟩ := acts_cutterSpeed h
    exact (requestSpeed_alters n u).on _
  case cutterStop p =>
    obtain rfl := acts_cutterStop h
    exact (forcedStop_alters u).on _
  case cutterRock p =>
    obtain ⟨-, -, -, -, rfl⟩ := acts_cutterRock h
    exact (startRocking_alters u).on _
  case motorReadmit p =>
    obtain ⟨i, -, -, rfl⟩ := acts_motorReadmit h
    exact {}
  case ringArm p =>
    obtain ⟨row, -, -, rfl⟩ := acts_ringArm h
    unfold ringArmed raiseSelection
    split <;> exact {}
  case segmentOpen p =>
    obtain ⟨q, -, rfl | ⟨-, rfl⟩⟩ := acts_segmentOpen h
    · exact (refuseFull_alters u).on _
    · exact (openPosition_alters q u).on _
  case segmentPlaced p =>
    obtain ⟨e, rest, -, -, rfl⟩ := acts_segmentPlaced h
    exact {}
  case segmentClose p =>
    obtain ⟨-, rfl⟩ | ⟨e, rest, -, ⟨-, rfl⟩ | rfl⟩ := acts_segmentClose h
    · exact {}
    · exact (closeSet_alters _ u).on _
    · exact (closeNotSet_alters _ u).on _
  case ringAbort p =>
    obtain ⟨-, rfl⟩ | ⟨-, rfl⟩ := acts_ringAbort h
    · exact {}
    · exact (abortRing_alters _ u).on _
  case doseTake p =>
    obtain ⟨i, rfl⟩ := acts_doseTake h
    exact {}
  case doseClose p =>
    obtain ⟨a, i, d, -, rfl⟩ := acts_doseClose h
    unfold doseShut
    exact {}
  case lineState p =>
    obtain ⟨i, x, k, rfl⟩ := acts_lineState h
    exact {}
  case spoilReport p =>
    obtain ⟨a, rfl⟩ := acts_spoilReport h
    exact (spoilTaken_alters a u).on _
  case constantsWrite p =>
    obtain ⟨k, -, rfl⟩ := acts_constantsWrite h
    refine AltersOn.trans ((installConstants_alters k u).on _) ?_
    split
    · exact (commission_alters _).on _
    · exact .refl _ _ _
  case profileWrite p =>
    obtain ⟨i, q, -, -, -, rfl⟩ := acts_profileWrite h
    exact {}
  case profileSelect p =>
    obtain ⟨n, rfl⟩ := acts_profileSelect h
    exact (selectProfile_alters n u).on _
  case planErase p =>
    obtain ⟨k, rfl⟩ | ⟨base, -, rfl⟩ := acts_planErase h <;> exact {}
  case planWrite p =>
    obtain ⟨k, rfl⟩ | ⟨k, first, rows, -, -, rfl⟩ := acts_planWrite h <;> exact {}
  case planWriteNext p =>
    obtain ⟨k, rfl⟩ | ⟨k, first, rows, -, -, rfl⟩ := acts_planWriteNext h <;> exact {}
  case conditionAck p =>
    obtain ⟨name, subject, rfl⟩ := acts_conditionAck h
    unfold clearLatches clearTrip
    split
    · rename_i hrun
      rw [enterRest_of_not_running (by simp [hrun.2])]
      exact {}
    · exact {}
  case flagsClear p =>
    obtain rfl := acts_flagsClear h
    unfold flagsDown
    exact {}
  case retractTimerExpiry g =>
    obtain ⟨-, rfl⟩ := h
    unfold markSlow
    exact {}
  case releaseTimerExpiry p =>
    obtain ⟨-, rfl⟩ := h
    unfold setOvertime
    exact {}
  case advanceSpeedExpiry =>
    obtain ⟨-, rfl⟩ := h
    unfold runOutSpeed
    exact {}
  case rampStep =>
    obtain ⟨-, rfl⟩ := h
    exact (rampStep_alters u).on _
  case indexWatchExpiry =>
    obtain ⟨-, rfl⟩ := h
    exact (loseIndex_alters u).on _
  case reversePhaseExpiry =>
    obtain ⟨-, rfl⟩ := h
    exact (beginForward_alters u).on _
  case eraseCompletion =>
    obtain ⟨-, rfl⟩ := h
    unfold completeErase
    exact {}
  case estimateLossExpiry =>
    obtain ⟨-, rfl⟩ := h
    exact {}
  case deviationTimerExpiry i =>
    obtain ⟨-, rfl⟩ := h
    unfold removeMotor
    exact {}
  case jamTimerExpiry =>
    obtain ⟨-, rfl⟩ := h
    exact {}
  case forwardPhaseExpiry =>
    obtain ⟨hdue, rfl⟩ := h
    have hrun : u.cutter.run = .rocking := by simp_all [rockDue]
    unfold rockFails
    simp only
    rw [enterRest_of_not_running (by simp [hrun])]
    exact {}
  case rowCompletion =>
    obtain ⟨-, rfl⟩ := h
    unfold completeRow
    split <;> exact {}

end Sys2Proof.Machine

namespace Sys2Proof.Machine

set_option Elab.async false

/-! ## Every command answers, and its frame -/

/-- Every command answers a next state: `exec` calls a meaning, and each meaning answers `next`. -/
theorem exec_next (c : Instr) (s : State) : ∃ t, exec c s = .next t := by
  cases c <;> exact ⟨_, rfl⟩

theorem Outcome.queue {c : Instr} {s t : State} (h : Outcome c s t) : SameQueue s t := by
  obtain ⟨-, hq⟩ | ⟨u, v, -, hq, hacts, hcloses⟩ := h
  · exact hq
  · have ha := effect_alters hacts
    have hc := hcloses.inputs.queue
    exact ⟨hc.now.trans (ha.now.trans hq.now), hc.pending.trans (ha.pending.trans hq.pending),
      hc.choices.trans (ha.choices.trans hq.choices)⟩

/-- Settles O3: a power-on keeps queue and counter, every other command the timebase too. -/
theorem everyCommandGoesOn : Obligations.EveryCommandGoesOn := by
  intro c s
  obtain ⟨t, ht⟩ := exec_next c s
  refine ⟨t, ht, ?_⟩
  obtain ⟨failed, rfl, rfl⟩ | h := exec_cases ht
  · exact ⟨rfl, rfl, fun hne => absurd rfl (hne failed)⟩
  · exact ⟨h.queue.pending, h.queue.choices, fun _ => h.queue.now⟩

/-! ## The setpoint, when an event grants entries -/

/-- The advance permit allows in two states alike when they agree in what R171 reads for the ceiling. -/
theorem speedCeiling_congr {s t : State} (hstore : t.store = s.store) (hmodes : t.modes = s.modes)
    (hcutter : t.cutter = s.cutter) (hgrout : t.grout = s.grout) (haccount : t.account = s.account)
    (hgroups : t.groups = s.groups) (hovertime : someOvertime t = someOvertime s) :
    speedCeiling t = speedCeiling s := by
  simp only [speedCeiling, advanceBlocked, level, activeProfile, constantsOf, governedSpeed, someGroupIs, hstore,
    hmodes, hcutter, hgrout, haccount, hgroups, hovertime]
  rfl

/-- The chamber record of `s`, held down where the standstill limit applies in `t` once its permits are computed. -/
def ChamberHeld (s t : State) : Prop :=
  t.chamber = s.chamber ∨
    (t.cutter.run = .stopped ∧ (advancePermitOf t).allowed = false ∧ t.chamber = heldDown s t)

theorem ChamberHeld.step {s t u : State} (h : ChamberHeld s t) (hc : u.chamber = t.chamber)
    (hstore : u.store = t.store) (hcutter : u.cutter = t.cutter) (hceil : speedCeiling u = speedCeiling t) :
    ChamberHeld s u := by
  obtain h | ⟨hrun, hallow, h⟩ := h
  · exact .inl (hc.trans h)
  · refine .inr ⟨hcutter ▸ hrun, by simpa [advancePermitOf, hceil] using hallow, ?_⟩
    simpa [hc, heldDown, activeProfile, hstore] using h

theorem standstillLimit_of_permits {t : State} (h : t.permits = permitsOf t) :
    standstillLimit t = (decide (t.cutter.run = .stopped) && !(advancePermitOf t).allowed) := by
  simp [standstillLimit, h, permitsOf]

/-- A hand-off or the end of an event holds the setpoint of a record that is held down already at the same ceiling. -/
theorem ChamberHeld.of_closed {s t u : State} (h : ChamberHeld s t) (hin : SameInputs t u)
    (hp : u.permits = permitsOf u) (hc : u.chamber = if standstillLimit u then heldDown t u else t.chamber) :
    ChamberHeld s u := by
  have hperm : advancePermitOf u = advancePermitOf t := congrArg Permits.advance hin.permitsOf
  have hprof := hin.profile
  have hrun := hin.cutter
  rw [standstillLimit_of_permits hp] at hc
  obtain h | ⟨hstop, hallow, h⟩ := h
  · split at hc
    · refine .inr ⟨by simp_all, by simp_all, ?_⟩
      rw [hc, heldDown, heldDown, h]
    · exact .inl (hc.trans h)
  · rw [if_pos (by simp [hrun, hstop, hperm, hallow])] at hc
    refine .inr ⟨hrun ▸ hstop, hperm ▸ hallow, ?_⟩
    rw [hc, heldDown, heldDown, hprof, h, heldDown]
    simp

@[simp] theorem openEntry_stack (s : State) (e : StackEntry) :
    (openEntry s e).stack =
      { s.stack with entries := s.stack.entries.map fun x => if x = e then { e with state := .opened } else x } := rfl

theorem someOvertime_openEntry (s : State) (e : StackEntry) : someOvertime (openEntry s e) = someOvertime s := by
  have hsame : ∀ x : StackEntry, (if x = e then { e with state := .opened } else x).overtime = x.overtime := by
    intro x
    split <;> simp_all
  simp [someOvertime, Function.comp_def, hsame]

theorem ChamberHeld.grant {s t : State} (h : ChamberHeld s t) (e : StackEntry) :
    ChamberHeld s (refresh (openEntry t e)) := by
  have hopen : ChamberHeld s (openEntry t e) :=
    h.step (by simp) (by simp) (by simp)
      (speedCeiling_congr (by simp) (by simp) (by simp) (by simp) (by simp) (by simp) (someOvertime_openEntry t e))
  exact hopen.of_closed (sameInputs_refresh _) (refresh_permits _) (refresh_chamber _)

theorem chamberHeld_grantEntries (which : StackEntry → Bool) (s : State) : ChamberHeld s (grantEntries which s) := by
  have hfold : ∀ (l : List StackEntry) (t : State), ChamberHeld s t →
      ChamberHeld s (l.foldl (fun s e => refresh (openEntry s e)) t) := by
    intro l
    induction l with
    | nil => exact fun t h => h
    | cons e l ih => exact fun t h => ih _ (h.grant e)
  exact hfold _ s (.inl rfl)

theorem someOvertime_of_stack {s t : State} (h : t.stack = s.stack) : someOvertime t = someOvertime s := by
  simp [someOvertime, h]

theorem heldGroups_pos {s : State} {g : Fin 16} (h : 0 < s.groups[g].holdCount) : 0 < heldGroups s := by
  unfold heldGroups countWhere
  rw [List.countP_pos_iff]
  exact ⟨s.groups[g], by simp, by simpa using h⟩

/-- While a group is held the ring builder's test at most completes an abort, which leaves the account (R85, R89). -/
theorem ringTest_of_held {s : State} (h : 0 < heldGroups s) :
    ringTest s = s ∨ ringTest s = completeAbort s := by
  have hopen : closureTest s = false := by simp [closureTest, Nat.pos_iff_ne_zero.mp h]
  unfold ringTest
  split
  · simp [hopen]
  · split <;> simp
  all_goals simp

/-- A resolution releases a held group alone (the table of R56). -/
theorem holdCount_of_resolved_released {r : GroupRec} {x : GroupPosition} {now : Nat}
    (h : (r.resolved x now).state = .released) : 0 < (r.resolved x now).holdCount := by
  rcases Nat.eq_zero_or_pos r.holdCount with h0 | h0
  · cases x <;> simp [GroupRec.resolved, h0, GroupRec.enter, GroupRec.ordered] at h
  · cases x <;> simp [GroupRec.resolved, h0.ne', h0, GroupRec.enter, GroupRec.ordered]

theorem chamberHeld_groupState {u v : State} (h : Acts false takeGroupState u v) : ChamberHeld u v := by
  obtain ⟨g, x, hstate, rfl⟩ := acts_groupState h
  obtain ⟨w, hw⟩ : ∃ w, w = updateMean (setGroup g (u.groups[g].resolved x u.now) u) := ⟨_, rfl⟩
  rw [← hw]
  have hchamber : w.chamber = u.chamber := by simp [hw]
  have hself : w.groups[g] = u.groups[g].resolved x u.now := by simp [hw]
  by_cases hrel : w.groups[g].state = .released
  · have hheld : 0 < heldGroups (grantEntries (entryHas g) w) := by
      refine heldGroups_pos (g := g) ?_
      have hcount : 0 < w.groups[g].holdCount := by
        rw [hself] at hrel ⊢
        exact holdCount_of_resolved_released hrel
      simpa using hcount
    have hafter : afterResolution g w = grantEntries (entryHas g) w := by
      unfold afterResolution
      rw [hrel]
    have hgrant : ChamberHeld u (grantEntries (entryHas g) w) := by
      have := chamberHeld_grantEntries (entryHas g) w
      simpa [ChamberHeld, heldDown, hchamber] using this
    rw [hafter]
    unfold ringTestAfter
    split
    · obtain h | h := ringTest_of_held hheld <;> rw [h]
      · exact hgrant
      · refine hgrant.step (by simp [completeAbort]) (by simp [completeAbort]) (by simp [completeAbort]) ?_
        exact speedCeiling_congr (by simp [completeAbort]) (by simp [completeAbort]) (by simp [completeAbort])
          (by simp [completeAbort]) (by simp [completeAbort]) (by simp [completeAbort])
          (someOvertime_of_stack (by simp [completeAbort]))
    · exact hgrant
  · left
    simp [afterResolution_chamber hrel, hchamber]

theorem effect_chamberHeld {c : Instr} {u v : State} (h : Effect c u v) (hc : .chamber ∉ mayChange c) :
    ChamberHeld u v := by
  by_cases hg : mayGrant c = true
  · cases c with
    | retractDone p =>
      obtain ⟨g, -, rfl⟩ := acts_retractDone h
      simpa [ChamberHeld, heldDown] using chamberHeld_grantEntries (entryHas g)
        (setGroup g (u.groups[g].enter .released u.now) u)
    | groupState p => exact chamberHeld_groupState h
    | _ => simp [mayGrant] at hg
  · have ha := effect_alters h
    rw [if_neg hg] at ha
    exact .inl (ha.chamber hc)

/-- The frame of an event: the effect's, and the setpoint where the standstill limit lowers it. -/
theorem onlyChanges_of_effect {c : Instr} {u v t : State} (h : Effect c u v) (hcl : Closes v t) :
    OnlyChanges (mayChange c) u t := by
  have ha := effect_alters h
  have hkeep : ∀ b, b ≠ .chamber → b ∉ mayChange c → b ∉ if mayGrant c then .chamber :: mayChange c else mayChange c := by
    intro b hne hb
    split <;> simp_all
  intro b hb
  have hin := hcl.inputs
  cases b with
  | chamber =>
    have hheld := (effect_chamberHeld h hb).of_closed hin hcl.permits hcl.chamber
    rw [ChamberHeld] at hheld
    refine hheld.imp id fun ⟨hrun, hallow, hch⟩ => ⟨?_, hch⟩
    rw [standstillLimit_of_permits hcl.permits]
    simp [hrun, hallow]
  | store => exact hin.store.trans (ha.store (hkeep _ (by simp) hb))
  | account => exact hin.account.trans (ha.account (hkeep _ (by simp) hb))
  | groups => exact hin.groups.trans (ha.groups (hkeep _ (by simp) hb))
  | stack => exact hin.stack.trans (ha.stack (hkeep _ (by simp) hb))
  | ring => exact hin.ring.trans (ha.ring (hkeep _ (by simp) hb))
  | plan => exact hin.plan.trans (ha.plan (hkeep _ (by simp) hb))
  | grout => exact hin.grout.trans (ha.grout (hkeep _ (by simp) hb))
  | cutter => exact hin.cutter.trans (ha.cutter (hkeep _ (by simp) hb))
  | modes => exact hin.modes.trans (ha.modes (hkeep _ (by simp) hb))

theorem SameRecords.onlyChanges {p : Option Port} {s t : State} (h : SameRecords p s t) (l : List Block) :
    OnlyChanges l s t := by
  intro b _
  cases b with
  | chamber => exact .inl h.chamber
  | store => exact h.store
  | account => exact h.account
  | groups => exact h.groups
  | stack => exact h.stack
  | ring => exact h.ring
  | plan => exact h.plan
  | grout => exact h.grout
  | cutter => exact h.cutter
  | modes => exact h.modes

theorem SameRecords.onlyChanges_trans {p : Option Port} {l : List Block} {s t u : State} (h : SameRecords p s t)
    (k : OnlyChanges l t u) : OnlyChanges l s u := by
  intro b hb
  have kb := k b hb
  cases b <;> simp_all [Keeps, heldDown, h.store, h.account, h.groups, h.stack, h.ring, h.plan, h.grout, h.chamber,
    h.cutter, h.modes]

/-- A command that takes a frame takes it from its own link. -/
theorem SameRecords.linkOf_of_not_touched {c : Instr} {s t : State} (h : SameRecords (portOf c) s t) {q : Port}
    (hq : touchesLink c q = false) : linkOf t q = linkOf s q := by
  obtain h | ⟨hp, -⟩ := h.links q
  · exact h
  · cases c <;> simp_all [touchesLink, portOf]

/-- Settles O4: the effect's frame, over a state that differs in the frame taken alone, closed by the end of the event. -/
theorem wholeMachineFrame : Obligations.WholeMachineFrame := by
  intro c s t h
  obtain ⟨failed, rfl, rfl⟩ | ⟨hrec, -⟩ | ⟨u, v, hrec, -, hacts, hcl⟩ := exec_cases h
  · exact ⟨fun b hb => absurd (by cases b <;> simp [mayChange, allBlocks]) hb, fun q hq => by simp [touchesLink] at hq⟩
  · exact ⟨hrec.onlyChanges _, fun q hq => hrec.linkOf_of_not_touched hq⟩
  · refine ⟨hrec.onlyChanges_trans (onlyChanges_of_effect hacts hcl), fun q hq => ?_⟩
    rw [linkOf_of_links hcl.inputs.links, (effect_alters hacts).links q (reachesLink_of_not_touched hq), hrec.linkOf_of_not_touched hq]

end Sys2Proof.Machine

/-! The plan store (R184): every command that reaches it keeps its canonical form. -/

namespace Sys2Proof.Machine

set_option Elab.async false

/-- A command's effect keeps every block but those of its step and the chamber. -/
theorem effect_alters_chamber {c : Instr} {u v : State} (h : Effect c u v) :
    AltersOn (reachesLink c) (.chamber :: mayChange c) u v :=
  (effect_alters h).mono (fun _ => id) (by split <;> simp)

theorem PlanSound.of_plan {s t : State} (h : PlanSound s) (e : t.plan = s.plan) : PlanSound t :=
  ⟨e ▸ h.rising, e ▸ h.inStore, e ▸ h.written, e ▸ h.running, e ▸ h.job⟩

theorem planSound_record {s : State} (h : PlanSound s) (c : LastCommand) : PlanSound (record c s) :=
  ⟨h.rising, h.inStore, h.written, h.running, h.job⟩

theorem planSound_erased {s : State} (base now : Nat) : PlanSound { s with plan := s.plan.erased base now } :=
  ⟨rfl, fun _ hr => (List.not_mem_nil hr).elim, rfl, rfl, fun _ hj => (Option.some_ne_none _ hj.symm).elim⟩

theorem planSound_ended {s : State} (h : PlanSound s) : PlanSound { s with plan := s.plan.ended } :=
  ⟨h.rising, h.inStore, h.written, rfl, fun _ hj => by cases hj⟩

theorem inSpan_iff (k : PlanStore) (ring : Nat) :
    inSpan k ring = true ↔ k.base ≤ ring ∧ ring ≤ spanLast k := by
  simp [inSpan]

theorem rowOfRing_of_inSpan {k : PlanStore} {ring : Nat} (h : inSpan k ring = true) :
    rowOfRing k ring = lookupRow k.rows (ring - k.base) := by
  simp [rowOfRing, h]

/-- A write that R188 takes: 1 to 16 rows in their ranges, its rings in the span and their rows BLANK. -/
theorem writeRefusal_none {first : Nat} {rows : List PlanRow} {s : State} (h : writeRefusal first rows s = none) :
    (1 ≤ rows.length ∧ rows.length ≤ 16) ∧ (∀ r ∈ rows, rowInRange r = true) ∧
    (s.plan.base ≤ first ∧ first + rows.length - 1 ≤ spanLast s.plan) ∧
    ∀ i < rows.length, rowOfRing s.plan (first + i) = none := by
  unfold writeRefusal at h
  split at h
  · cases h
  · rename_i hrows
    unfold rowsRefusal at hrows
    split at hrows
    · cases hrows
    · rename_i hlen
      split at hrows
      · cases hrows
      · rename_i hrange
        split at hrows
        · rename_i hspan
          simp only [Bool.and_eq_true, inSpan_iff] at hspan
          simp only at h
          split at h
          · cases h
          · split at h
            · cases h
            · rename_i hblank
              refine ⟨by omega, fun r hr => ?_, ⟨hspan.1.1, hspan.2.2⟩, fun i hi => ?_⟩
              · simpa using List.findIdx?_eq_none_iff.mp hrange r hr
              · simpa using List.find?_eq_none.mp hblank (first + i)
                  (List.mem_map.mpr ⟨i, List.mem_range.mpr hi, rfl⟩)
        · cases hrows

theorem planSound_writing {s : State} (h : PlanSound s) (c : PlanCommand) {first : Nat} {rows : List PlanRow}
    (hw : writeRefusal first rows s = none) (now : Nat) :
    PlanSound { s with plan := s.plan.writing c first now rows } := by
  obtain ⟨hlen, -, ⟨hfirst, hlast⟩, hblank⟩ := writeRefusal_none hw
  refine ⟨h.rising, h.inStore, h.written, rfl, ?_⟩
  rintro j ⟨⟩
  refine ⟨rfl, hfirst, fun i hi => ?_⟩
  have hi : i < rows.length := hi
  have hspan : spanLast s.plan ≤ s.plan.base + 2047 := Nat.min_le_left _ _
  have hin : inSpan s.plan (first + i) = true := by rw [inSpan_iff]; omega
  have hb := hblank i hi
  rw [rowOfRing_of_inSpan hin] at hb
  refine ⟨?_, hb⟩
  show first + i - s.plan.base < 2048
  omega

/-- A row stored keeps the form: its row was BLANK and lies in the store (R189). -/
theorem planSound_rowStored {s : State} (h : PlanSound s) {row : PlanRow} {rest : List PlanRow} {ring due : Nat}
    (hjob : s.plan.job = some { rows := row :: rest, nextRing := ring, nextDue := due }) :
    PlanSound
      { s with plan := s.plan.rowStored { rows := row :: rest, nextRing := ring, nextDue := due } row rest } := by
  obtain ⟨hstatus, hbase, hrows⟩ := h.job _ hjob
  have hbase : s.plan.base ≤ ring := hbase
  obtain ⟨hin, hblank⟩ := hrows 0 (by simp)
  have hin : ring - s.plan.base < Config.planRows := hin
  have hblank : lookupRow s.plan.rows (ring - s.plan.base) = none := hblank
  refine ⟨rowsRising_insertRow _ _ h.rising, fun r hr => ?_, ?_, ?_, ?_⟩
  · obtain rfl | hr := mem_insertRow hr
    · exact hin
    · exact h.inStore r hr
  · show s.plan.written + 1 = (insertRow (ring - s.plan.base) row s.plan.rows).length
    rw [length_insertRow row hblank, h.written]
  · show (s.plan.running.map LastCommand.oneMore).isSome = _
    rw [Option.isSome_map]
    exact h.running
  · rintro j ⟨⟩
    refine ⟨hstatus, show s.plan.base ≤ ring + 1 by omega, fun i hi => ?_⟩
    obtain ⟨hin', hblank'⟩ := hrows (i + 1) (by simpa using hi)
    have hring : ring + 1 + i = ring + (i + 1) := by omega
    refine ⟨?_, ?_⟩
    · show ring + 1 + i - s.plan.base < _
      rw [hring]
      exact hin'
    · show lookupRow (insertRow (ring - s.plan.base) row s.plan.rows) (ring + 1 + i - s.plan.base) = none
      rw [lookupRow_insertRow_other _ _ (by omega), hring]
      exact hblank'

theorem planSound_completeRow {s : State} (h : PlanSound s) : PlanSound (completeRow s) := by
  unfold completeRow
  split
  · rename_i row rest ring due hjob
    have hstored := planSound_rowStored h hjob
    dsimp only
    split
    · exact planSound_ended hstored
    · exact hstored
  · exact h

theorem planSound_powerUp {s : State} (h : PlanSound s) (failed : StoredFailures) : PlanSound (powerUp failed s) := by
  have hsub : ∀ r ∈ s.plan.rowsAtPowerOn failed, r ∈ s.plan.rows := by
    intro r hr
    unfold PlanStore.rowsAtPowerOn at hr
    split at hr
    · cases hr
    · exact (List.mem_filter.mp hr).1
  refine ⟨?_, fun r hr => h.inStore r (hsub r hr), ?_, rfl, fun j hj => by cases hj⟩
  · show rowsRising (s.plan.rowsAtPowerOn failed) = true
    unfold PlanStore.rowsAtPowerOn
    split
    · rfl
    · exact rowsRising_filter _ h.rising
  · show s.plan.writtenAtPowerOn failed = (s.plan.rowsAtPowerOn failed).length
    unfold PlanStore.writtenAtPowerOn
    split
    · rfl
    · rename_i hok
      obtain ⟨⟨⟨hbase, hcursor⟩, -⟩, hrows⟩ : ((failed.base = false ∧ failed.cursor = false) ∧
        failed.written = false) ∧ failed.rows = [] := by simpa using hok
      simp [PlanStore.rowsAtPowerOn, hbase, hcursor, hrows, h.written]

theorem effect_keeps_planSound {c : Instr} {u v : State} (h : Effect c u v) (hs : PlanSound u) : PlanSound v := by
  cases c
  case powerOn => exact h.elim
  case planErase =>
    obtain ⟨k, rfl⟩ | ⟨base, -, rfl⟩ := acts_planErase h
    · exact planSound_record hs k
    · exact planSound_erased base _
  case planWrite =>
    obtain ⟨k, rfl⟩ | ⟨k, first, rows, -, hw, rfl⟩ := acts_planWrite h
    · exact planSound_record hs k
    · exact planSound_writing hs k hw _
  case planWriteNext =>
    obtain ⟨k, rfl⟩ | ⟨k, first, rows, -, hw, rfl⟩ := acts_planWriteNext h
    · exact planSound_record hs k
    · exact planSound_writing hs k hw _
  case eraseCompletion =>
    obtain ⟨-, rfl⟩ := h
    exact planSound_ended hs
  case rowCompletion =>
    obtain ⟨-, rfl⟩ := h
    exact planSound_completeRow hs
  all_goals exact hs.of_plan ((effect_alters_chamber h).plan (by simp [mayChange]))

/-- Settles O10: five commands reach the store, and each keeps the form. -/
theorem planStoreStaysSound : Obligations.PlanStoreStaysSound :=
  step_keeps (fun _ _ _ h hs => hs.of_plan h.plan) (fun failed _ hs => planSound_powerUp hs failed)
    (fun _ _ _ => effect_keeps_planSound) (fun _ _ h hs => hs.of_plan h.inputs.plan)

end Sys2Proof.Machine

/-! Invariants that read of the account the two grout totals, of the mode unit the mode, and neither groups, stack,
ring nor plan: what a few shared operations keep is kept by everything that is built of them. -/

namespace Sys2Proof.Machine

set_option Elab.async false

/-- From `s` to `t` nothing changes that such an invariant reads: the grout, the screw, the condition table, the mode, the
figures in force, and the cutterhead but for the advance of the revolution in progress. The release stack and the cycle
history may grow, but not beyond their sizes. -/
structure Minor (s t : State) : Prop where
  constants : t.store.constants = s.store.constants := by simp
  profiles  : t.store.profiles = s.store.profiles := by simp
  active    : t.store.active = s.store.active := by simp
  required  : t.account.totals.required = s.account.totals.required := by simp
  injected  : t.account.totals.injected = s.account.totals.injected := by simp
  grout     : t.grout = s.grout := by simp
  chamber   : t.chamber = s.chamber := by simp
  conds     : t.conds = s.conds := by simp
  mode      : t.modes.mode = s.modes.mode := by simp
  increments : t.account.increments = s.account.increments := by simp
  cycles    : t.account.cycles.length ≤ max s.account.cycles.length 8 := by simp
  entries   : t.stack.entries.length ≤ max s.stack.entries.length 3 := by simp
  cutter    : ∃ x, t.cutter = { s.cutter with revAdvance := x } := by simp; exact ⟨_, rfl⟩

theorem Minor.profile {s t : State} (h : Minor s t) : activeProfile t = activeProfile s := by
  simp [activeProfile, h.profiles, h.active]

theorem Minor.constantsOf {s t : State} (h : Minor s t) : constantsOf t = constantsOf s := by
  simp [Machine.constantsOf, h.constants]

theorem Minor.commissioned {s t : State} (h : Minor s t) : commissioned t = commissioned s := by
  simp [Machine.commissioned, h.mode]

/-- The cutterhead and the screw of a profile switch, the profile being in force (R11). -/
def switchUnits (n : Fin 4) (s : State) : State :=
  stopIfMotorsLow (updateTorque (screwAtSwitch { s with store := { s.store with active := n, pendingProfile := none } }))

theorem makeSwitch_eq (n : Fin 4) (s : State) :
    makeSwitch n s = refresh (disallowContinuous
      (closeWhile (judgeDebt (overtimeAtSwitch (switchUnits n s))).account.accumulator
        (judgeDebt (overtimeAtSwitch (switchUnits n s))))) := rfl

/-- A switch in CONTINUOUS has a commissioned part. -/
theorem disallowContinuous_cases (s : State) :
    disallowContinuous s = s ∨ (s.modes.mode = .continuous ∧ (activeProfile s).continuousAllowed = false ∧
      disallowContinuous s = changeMode .build .profile { s with modes := { s.modes with advance := .pending } }) := by
  unfold disallowContinuous
  split
  · rename_i h
    exact .inr ⟨h.1, h.2, rfl⟩
  · exact .inl rfl

theorem disallowContinuous_keeps {P : State → Prop}
    (claims : ∀ s m, m.mode = s.modes.mode → P s → P { s with modes := m })
    (mode : ∀ m cause s, s.modes.mode ≠ .uncommissioned → s.modes.mode ≠ .halted → m ≠ .uncommissioned → P s →
      P (changeMode m cause s)) {s : State} (hs : P s) : P (disallowContinuous s) := by
  obtain e | ⟨hmode, -, e⟩ := disallowContinuous_cases s
  · rwa [e]
  · rw [e]
    exact mode _ _ _ (by simp [hmode]) (by simp [hmode]) (by simp) (claims s _ rfl hs)

/-- `P` is kept by what a profile switch is built of. -/
structure CarriedBySwitch (P : State → Prop) : Prop where
  overtime : ∀ s, P s → P (overtimeAtSwitch s)
  raised   : ∀ s n, P s → P { s with store := { s.store with pendingProfile := n } }
  refresh  : ∀ s, P s → P (refresh s)
  closure  : ∀ s, P s → P (closureEffects s)
  judge    : ∀ s, P s → P (judgeDebt s)
  switch   : ∀ n s, heldGroups s ≤ releaseLimitIn s.store.profiles[n] s.modes.mode → P s → P (switchUnits n s)
  disallow : ∀ s, P s → P (disallowContinuous s)

/-- `P` is kept by what a profile switch and a change of mode are built of. -/
structure CarriedByMode (P : State → Prop) : Prop extends CarriedBySwitch P where
  claims   : ∀ s m, m.mode = s.modes.mode → P s → P { s with modes := m }
  mode     : ∀ m cause s, s.modes.mode ≠ .uncommissioned → s.modes.mode ≠ .halted → m ≠ .uncommissioned → P s →
    P (changeMode m cause s)
  disallow := fun _ hs => disallowContinuous_keeps claims mode hs

/-- `P` is kept by the operations of which the rules of several chapters are built. -/
structure Carried (P : State → Prop) : Prop extends CarriedByMode P where
  minor    : ∀ {s t}, P s → Minor s t → P t
  overtime := fun _ hs => minor hs { entries := by simp [overtimeAtSwitch] }
  raised   := fun _ _ hs => minor hs {}
  claims   := fun _ _ hm hs => minor hs { mode := hm }

theorem derivedMode_ne_uncommissioned (a b : Claim) : derivedMode a b ≠ .uncommissioned := by
  cases a <;> cases b <;> simp [derivedMode]

theorem length_pushCapped_le {α : Type} (cap : Nat) (l : List α) (x : α) (hcap : 1 ≤ cap) :
    (pushCapped cap l x).length ≤ cap := by
  unfold pushCapped
  split <;> simp <;> omega

theorem length_foldl_openEntry (l : List StackEntry) (s : State) :
    (l.foldl openEntry s).stack.entries.length = s.stack.entries.length := by
  induction l generalizing s with
  | nil => rfl
  | cons e l ih => simp [ih, openEntry]

theorem length_pushEntry (p : Fin 7) (s : State) :
    (pushEntry p s).stack.entries.length = s.stack.entries.length + 1 := by
  simp [pushEntry, length_foldl_openEntry]

/-- The mode that a part takes as it leaves UNCOMMISSIONED (R5). -/
def modeTaken (s : State) : State :=
  if (activeHalts s).isEmpty then deriveMode .commissioned s
  else enterMode .halted .commissioned { s with modes := s.modes.claimsAtHalt }

theorem commission_eq (s : State) : commission s = updateGate (modeTaken s) := rfl

theorem claimsAtHalt_mode (s : State) : s.modes.claimsAtHalt.mode = s.modes.mode := rfl

namespace CarriedBySwitch
variable {P : State → Prop} (h : CarriedBySwitch P)
include h

theorem closeWhile (fuel : Nat) {s : State} (hs : P s) : P (closeWhile fuel s) := by
  induction fuel generalizing s with
  | zero => exact hs
  | succ n ih =>
    unfold Machine.closeWhile
    split
    · exact ih (h.refresh _ (h.closure _ hs))
    · exact hs

theorem makeSwitch (n : Fin 4) {s : State}
    (hheld : heldGroups s ≤ releaseLimitIn s.store.profiles[n] s.modes.mode) (hs : P s) : P (makeSwitch n s) := by
  rw [makeSwitch_eq]
  have hjudged := h.judge _ (h.overtime _ (h.switch n s hheld hs))
  exact h.refresh _ (h.disallow _ (h.closeWhile _ hjudged))

theorem switchTest {s : State} (hs : P s) : P (switchTest s) := by
  unfold Machine.switchTest
  split
  · exact hs
  · split
    · exact h.makeSwitch _ ‹_› hs
    · exact hs

theorem selectProfile (n : Fin 4) {s : State} (hs : P s) : P (selectProfile n s).1 := by
  unfold Machine.selectProfile
  split
  · exact h.raised s none hs
  · simp only
    have hraised := h.raised s (some n) hs
    split
    · exact h.switchTest hraised
    · exact hraised

theorem closeAndTest (fuel : Nat) {s : State} (hs : P s) : P (closeAndTest fuel s) := by
  induction fuel generalizing s with
  | zero => exact hs
  | succ n ih =>
    unfold Machine.closeAndTest
    split
    · exact ih (h.switchTest (h.refresh _ (h.closure _ hs)))
    · exact hs

/-- A mode is entered by its change and, in STANDSTILL and HALTED, the switch test (R10, R168). -/
theorem enterMode_of_changeMode {m : Mode} {cause : ModeCause} {s : State} (hs : P s)
    (hnew : P (changeMode m cause s)) : P (enterMode m cause s) := by
  unfold Machine.enterMode
  split
  · exact hs
  · simp only
    split
    · exact h.switchTest hnew
    · exact hnew

end CarriedBySwitch

namespace CarriedByMode
variable {P : State → Prop} (h : CarriedByMode P)
include h

/-- Where every change of mode keeps `P`, so does the end of HALTED by HALT CLEAR (R170). -/
theorem haltCleared (hchange : ∀ m cause s, s.modes.mode ≠ .uncommissioned → m ≠ .uncommissioned → P s →
    P (changeMode m cause s)) {s : State} (hmode : s.modes.mode = .halted) (hs : P s) :
    P (deriveMode .haltClear (setOperatorHalt false s)) := by
  have hcleared : P (setOperatorHalt false s) := h.claims _ _ rfl hs
  exact h.enterMode_of_changeMode hcleared
    (hchange _ _ _ (by simp [setOperatorHalt, hmode]) (derivedMode_ne_uncommissioned _ _) hcleared)

/-- Where every change of mode keeps `P`, so does the end of UNCOMMISSIONED, but for the gate (R5). -/
theorem modeTaken (hchange : ∀ m cause s, P s → P (changeMode m cause s)) {s : State} (hs : P s) :
    P (modeTaken s) := by
  unfold Machine.modeTaken
  split
  · exact h.enterMode_of_changeMode hs (hchange _ _ _ hs)
  · have hclaims := h.claims s s.modes.claimsAtHalt (claimsAtHalt_mode s) hs
    exact h.enterMode_of_changeMode hclaims (hchange _ _ _ hclaims)

theorem enterMode (m : Mode) (cause : ModeCause) {s : State} (hmode : s.modes.mode ≠ .uncommissioned)
    (hhalt : s.modes.mode ≠ .halted) (hm : m ≠ .uncommissioned) (hs : P s) : P (enterMode m cause s) :=
  h.enterMode_of_changeMode hs (h.mode m cause s hmode hhalt hm hs)

theorem deriveMode (cause : ModeCause) {s : State} (hmode : s.modes.mode ≠ .uncommissioned)
    (hhalt : s.modes.mode ≠ .halted) (hs : P s) : P (deriveMode cause s) :=
  h.enterMode _ cause hmode hhalt (derivedMode_ne_uncommissioned _ _) hs

theorem claimsChanged (cause : ModeCause) {s : State} (hs : P s) : P (claimsChanged cause s) := by
  unfold Machine.claimsChanged
  split
  · exact hs
  · exact h.deriveMode cause (by tauto) (by tauto) hs

theorem haltMachine {s : State} (hs : P s) : P (haltMachine s) := by
  unfold Machine.haltMachine
  split
  · exact hs
  · rename_i hne
    exact h.enterMode _ _ (fun e => hne (.inl e)) (fun e => hne (.inr e)) (by simp) (h.claims s _ rfl hs)

theorem reexamine {s : State} (hs : P s) : P (reexamine s) := by
  unfold Machine.reexamine
  split
  · split
    · exact h.claimsChanged _ (h.claims s _ rfl hs)
    · split
      · exact h.claimsChanged _ (h.claims s _ rfl hs)
      · exact hs
  · exact hs

theorem heldChanged (before : Nat) {s : State} (hs : P s) : P (heldChanged before s) := by
  unfold Machine.heldChanged
  extract_lets t
  have ht : P t := by
    simp only [t]
    split
    · exact hs
    · exact h.reexamine hs
  split
  · exact h.switchTest ht
  · exact ht

end CarriedByMode

namespace Carried
variable {P : State → Prop} (h : Carried P)
include h

theorem popEntry {s : State} (hs : P s) : P (popEntry s) := by
  unfold Machine.popEntry
  split
  · exact hs
  · rename_i e rest he
    exact h.refresh _ (h.heldChanged _ (h.minor hs { entries := by simp [he] }))

theorem popMany (n : Nat) {s : State} (hs : P s) : P (popMany n s) := by
  induction n generalizing s with
  | zero => exact hs
  | succ n ih => exact ih (h.popEntry hs)

theorem ringTest {s : State} (hs : P s) : P (ringTest s) := by
  unfold Machine.ringTest
  split
  · split
    · exact h.minor hs (by unfold closeRing; exact { cycles := by simp [length_pushCapped_le] })
    · exact hs
  · split
    · exact h.minor hs (by unfold completeAbort; exact {})
    · exact hs
  all_goals exact hs

theorem ringTestAfter (x : GroupState) {s : State} (hs : P s) : P (ringTestAfter x s) := by
  unfold Machine.ringTestAfter
  split
  · exact h.ringTest hs
  · exact hs

theorem abortRing (cause : RingCause) {s : State} (hs : P s) : P (abortRing cause s) := by
  have hpopped := h.popMany s.stack.entries.length hs
  unfold Machine.abortRing
  exact h.ringTest (h.minor hpopped {})

theorem grantEntries (which : StackEntry → Bool) {s : State} (hs : P s) : P (grantEntries which s) := by
  have hfold : ∀ (l : List StackEntry) (t : State), P t → P (l.foldl (fun s e => Machine.refresh (openEntry s e)) t) := by
    intro l
    induction l with
    | nil => exact fun t ht => ht
    | cons e l ih => exact fun t ht => ih _ (h.refresh _ (h.minor ht {}))
  exact hfold _ s hs

theorem afterResolution (g : Fin 16) {s : State} (hs : P s) : P (afterResolution g s) := by
  unfold Machine.afterResolution
  split
  case h_3 => exact h.grantEntries _ hs
  all_goals exact h.minor hs {}

theorem openPosition (p : Fin 7) {s : State} (hfree : s.stack.entries.length < 3) (hs : P s) :
    P (openPosition p s) := by
  have hlength : (pushEntry p s).stack.entries.length ≤ 3 := by
    rw [length_pushEntry]
    exact hfree
  unfold Machine.openPosition announceFirst
  refine h.heldChanged _ ?_
  split <;> exact h.minor hs { entries := by simp [hlength] }

theorem refuseFull {s : State} (hs : P s) : P (refuseFull s) := by
  unfold Machine.refuseFull
  simp only
  split
  · exact h.haltMachine (h.minor hs {})
  · exact h.minor hs {}

theorem closeSet (p : Fin 7) {s : State} (hs : P s) : P (closeSet p s) := by
  unfold Machine.closeSet
  simp only
  split
  · have hclosing : P { s with ring := { s.ring with setList := s.ring.setList ++ [p], state := .closing } } :=
      h.minor hs {}
    exact h.ringTest (h.minor (h.popEntry hclosing) {})
  · exact h.popEntry (h.minor hs {})

theorem closeNotSet (p : Fin 7) {s : State} (hs : P s) : P (closeNotSet p s) := by
  unfold Machine.closeNotSet
  simp only
  split
  · exact h.popEntry (h.minor hs {})
  · exact h.abortRing _ (h.minor (h.popEntry hs) {})

theorem countAdvance (n : Nat) {s : State} (hs : P s) : P (countAdvance n s) := by
  unfold Machine.countAdvance
  refine h.minor hs { cutter := ?_ }
  simp only
  split <;> exact ⟨_, rfl⟩

theorem strokesTaken (a : StrokeArgs) {s : State} (hs : P s) : P (strokesTaken a s) := by
  have hcounted : P (strokesCounted a s) := h.countAdvance _ (h.minor hs {})
  unfold Machine.strokesTaken
  exact h.minor (h.closeAndTest (strokesCounted a s).account.accumulator hcounted) {}

theorem silenceLink (p : Port) {s : State} (hs : P s) : P (silenceLink p s) := by
  unfold Machine.silenceLink
  simp only
  split
  · exact h.haltMachine (h.minor hs {})
  · exact h.minor hs {}

theorem ringArmed (row : PlanRow) {s : State} (hs : P s) : P (ringArmed row s).1 := by
  unfold Machine.ringArmed raiseSelection
  split
  · exact h.minor hs {}
  · exact h.selectProfile _ (h.minor hs {})

end Carried

/-- The commands whose effect is built of the shared operations, and of changes that such an invariant does not read. -/
def isShared : Instr → Bool
  | .frameReceive _ _ | .frameTimeout _ | .linkSilenceExpiry _ | .strokeReport _ | .retractDone _ | .extendDone _
  | .groupFault _ | .groupState _ | .claimAdvance _ | .dropAdvance _ | .claimBuild _ | .dropBuild _ | .ringArm _
  | .segmentOpen _ | .segmentPlaced _ | .segmentClose _ | .ringAbort _ | .profileSelect _ | .planErase _
  | .planWrite _ | .planWriteNext _ | .flagsClear _ | .halt _ | .retractTimerExpiry _
  | .releaseTimerExpiry _ | .advanceSpeedExpiry | .eraseCompletion | .rowCompletion => true
  | _ => false

theorem Carried.effect {P : State → Prop} (h : Carried P) {c : Instr} {u v : State} (he : Effect c u v)
    (hc : isShared c = true) (hs : P u) : P v := by
  cases c with
  | frameReceive p bytes =>
    obtain rfl := he
    exact h.minor hs {}
  | frameTimeout p =>
    obtain rfl := he
    exact h.minor hs {}
  | linkSilenceExpiry p =>
    obtain ⟨-, rfl⟩ := he
    exact h.silenceLink p hs
  | strokeReport p =>
    obtain ⟨a, rfl⟩ := acts_strokeReport he
    exact h.strokesTaken a hs
  | retractDone p =>
    obtain ⟨g, -, rfl⟩ := acts_retractDone he
    exact h.grantEntries _ (h.minor hs {})
  | extendDone p =>
    obtain ⟨g, -, rfl⟩ := acts_extendDone he
    exact h.ringTest (h.minor hs {})
  | groupFault p =>
    obtain ⟨g, -, rfl⟩ := acts_groupFault he
    exact h.ringTestAfter _ (h.minor hs {})
  | groupState p =>
    obtain ⟨g, x, -, rfl⟩ := acts_groupState he
    exact h.ringTestAfter _ (h.afterResolution _ (h.minor hs {}))
  | claimAdvance p =>
    obtain ⟨-, -, -, rfl⟩ := acts_claimAdvance he
    exact h.claimsChanged _ (h.minor hs {})
  | dropAdvance p =>
    obtain ⟨-, rfl⟩ | ⟨-, -, rfl⟩ := acts_dropAdvance he
    · exact h.minor hs {}
    · exact h.claimsChanged _ (h.minor hs {})
  | claimBuild p =>
    obtain ⟨-, -, rfl⟩ := acts_claimBuild he
    exact h.claimsChanged _ (h.minor hs {})
  | dropBuild p =>
    obtain ⟨-, rfl⟩ | ⟨-, -, -, rfl⟩ := acts_dropBuild he
    · exact h.minor hs {}
    · exact h.claimsChanged _ (h.minor hs {})
  | ringArm p =>
    obtain ⟨row, -, -, rfl⟩ := acts_ringArm he
    exact h.ringArmed row hs
  | segmentOpen p =>
    obtain ⟨q, -, rfl | ⟨hstack, rfl⟩⟩ := acts_segmentOpen he
    · exact h.refuseFull hs
    · exact h.openPosition q (stackRefusal_none hstack).1 hs
  | segmentPlaced p =>
    obtain ⟨e, rest, hstack, -, rfl⟩ := acts_segmentPlaced he
    exact h.minor hs { entries := by simp [hstack] }
  | segmentClose p =>
    obtain ⟨-, rfl⟩ | ⟨e, rest, -, ⟨-, rfl⟩ | rfl⟩ := acts_segmentClose he
    · exact h.minor hs {}
    · exact h.closeSet _ hs
    · exact h.closeNotSet _ hs
  | ringAbort p =>
    obtain ⟨-, rfl⟩ | ⟨-, rfl⟩ := acts_ringAbort he
    · exact h.minor hs {}
    · exact h.abortRing _ hs
  | profileSelect p =>
    obtain ⟨n, rfl⟩ := acts_profileSelect he
    exact h.selectProfile n hs
  | planErase p =>
    obtain ⟨k, rfl⟩ | ⟨base, -, rfl⟩ := acts_planErase he <;> exact h.minor hs {}
  | planWrite p =>
    obtain ⟨k, rfl⟩ | ⟨k, first, rows, -, -, rfl⟩ := acts_planWrite he <;> exact h.minor hs {}
  | planWriteNext p =>
    obtain ⟨k, rfl⟩ | ⟨k, first, rows, -, -, rfl⟩ := acts_planWriteNext he <;> exact h.minor hs {}
  | flagsClear p =>
    obtain rfl := acts_flagsClear he
    exact h.minor hs (by unfold flagsDown; exact {})
  | halt p =>
    obtain ⟨-, rfl⟩ := acts_halt he
    exact h.haltMachine (h.minor hs {})
  | retractTimerExpiry g =>
    obtain ⟨-, rfl⟩ := he
    exact h.minor hs (by unfold markSlow; exact {})
  | releaseTimerExpiry p =>
    obtain ⟨-, rfl⟩ := he
    exact h.minor hs (by unfold setOvertime; exact {})
  | advanceSpeedExpiry =>
    obtain ⟨-, rfl⟩ := he
    exact h.minor hs (by unfold runOutSpeed; exact {})
  | eraseCompletion =>
    obtain ⟨-, rfl⟩ := he
    exact h.minor hs (by unfold completeErase; exact {})
  | rowCompletion =>
    obtain ⟨-, rfl⟩ := he
    exact h.minor hs (by unfold completeRow; split <;> exact {})
  | _ => simp [isShared] at hc

end Sys2Proof.Machine

/-! The cutterhead (chapter 7): torque ceiling, rest states and rocking phase agree, and it turns only as R146 lets it. -/

namespace Sys2Proof.Machine

set_option Elab.async false

/-! ## The run state after a stop -/

/-- The cutterhead turns or is being rocked (R146). -/
def moving (r : RunState) : Bool := turning r || r = .rocking

theorem toList_eq_map_finRange {α : Type} {n : Nat} (v : Vector α n) :
    v.toList = (List.finRange n).map fun i => v[i] := by
  apply List.ext_getElem <;> simp

theorem countWhere_updateEach {α : Type} {n : Nat} (v : Vector α n) (f : Fin n → α → α) (p : α → Bool)
    (h : ∀ i m, p (f i m) = p m) : countWhere (updateEach v f) p = countWhere v p := by
  have hcount : ∀ w : Vector α n, countWhere w p = (List.finRange n).countP fun i => p w[i] := by
    intro w
    rw [countWhere, toList_eq_map_finRange, List.countP_map]
    rfl
  simp [hcount, h]

theorem motorIsIn_congr {m m' : Motor} (h : m'.membership = m.membership) : m'.isIn = m.isIn := by
  simp [Motor.isIn, h]

@[simp] theorem inMotors_leaveRunning (s : State) : inMotors (leaveRunning s).cutter = inMotors s.cutter :=
  countWhere_updateEach _ _ _ fun _ _ => motorIsIn_congr rfl

@[simp] theorem inMotors_leaveIfRunning (s : State) : inMotors (leaveIfRunning s).cutter = inMotors s.cutter := by
  unfold leaveIfRunning
  split <;> simp

@[simp] theorem leaveIfRunning_cutter_frame (s : State) :
    (leaveIfRunning s).cutter.run = s.cutter.run ∧ (leaveIfRunning s).cutter.torqueCeiling = s.cutter.torqueCeiling ∧
    (leaveIfRunning s).cutter.phase = s.cutter.phase ∧ (leaveIfRunning s).cutter.rock = s.cutter.rock ∧
    (leaveIfRunning s).cutter.revolutions = s.cutter.revolutions := by
  unfold leaveIfRunning
  split <;> (and_intros <;> rfl)

@[simp] theorem retarget_frame (target now : Nat) (c : Cutter) :
    (retarget target now c).run = c.run ∧ (retarget target now c).torqueCeiling = c.torqueCeiling ∧
    (retarget target now c).phase = c.phase ∧ (retarget target now c).rock = c.rock ∧
    (retarget target now c).motors = c.motors ∧ (retarget target now c).jam = c.jam ∧
    (retarget target now c).reference = c.reference ∧ (retarget target now c).revolutions = c.revolutions := by
  unfold retarget
  split
  · and_intros <;> rfl
  · split <;> (and_intros <;> rfl)

theorem enterStopping_cutter (s : State) :
    (enterStopping s).cutter = retarget 0 s.now { (leaveIfRunning s).cutter with run := .stopping, jam := none } := by
  simp [enterStopping]

theorem enterRest_cutter (r : RunState) (s : State) :
    (enterRest r s).cutter = restCutter r (leaveIfRunning s).cutter := rfl

/-- The three ends of a forced stop (R146). -/
theorem forcedStop_cases (s : State) :
    (forcedStop s = s ∧ moving s.cutter.run = false) ∨ (turning s.cutter.run = true ∧ forcedStop s = enterStopping s) ∨
    (s.cutter.run = .rocking ∧ forcedStop s = enterRest .jammed s) := by
  unfold forcedStop
  cases h : s.cutter.run <;> simp [moving, turning]

theorem forcedStop_not_moving (s : State) : moving (forcedStop s).cutter.run = false := by
  obtain ⟨e, h⟩ | ⟨-, e⟩ | ⟨-, e⟩ := forcedStop_cases s
  · rw [e, h]
  · simp [e, enterStopping_cutter, moving, turning]
  · rw [e]
    rfl

theorem inMotors_retarget (target now : Nat) (c : Cutter) : inMotors (retarget target now c) = inMotors c := by
  simp [inMotors]

@[simp] theorem inMotors_forcedStop (s : State) : inMotors (forcedStop s).cutter = inMotors s.cutter := by
  obtain ⟨e, -⟩ | ⟨-, e⟩ | ⟨-, e⟩ := forcedStop_cases s
  · rw [e]
  · rw [e, enterStopping_cutter, inMotors_retarget]
    exact inMotors_leaveIfRunning s
  · rw [e]
    exact inMotors_leaveIfRunning s

/-- What the stop of a cutterhead changes of the chamber unit: the standstill snapshot alone (R127). -/
theorem leaveIfRunning_chamber (s : State) :
    (leaveIfRunning s).chamber = s.chamber ∨
      (leaveIfRunning s).chamber = { s.chamber with snapshot := some s.chamber.integrator } := by
  unfold leaveIfRunning
  split
  · exact .inr rfl
  · exact .inl rfl

theorem forcedStop_chamber (s : State) :
    (forcedStop s).chamber = s.chamber ∨
      (forcedStop s).chamber = { s.chamber with snapshot := some s.chamber.integrator } := by
  obtain ⟨e, -⟩ | ⟨-, e⟩ | ⟨-, e⟩ := forcedStop_cases s
  · exact .inl (by rw [e])
  · rw [e]
    exact leaveIfRunning_chamber s
  · rw [e]
    exact leaveIfRunning_chamber s

@[simp] theorem forcedStop_status (s : State) : (forcedStop s).chamber.status = s.chamber.status := by
  obtain e | e := forcedStop_chamber s <;> rw [e]

theorem stopIfMotorsLow_cases (s : State) :
    (motorsLow s = false ∧ stopIfMotorsLow s = s) ∨ (motorsLow s = true ∧ stopIfMotorsLow s = forcedStop s) := by
  unfold stopIfMotorsLow
  split
  · exact .inr ⟨‹_›, rfl⟩
  · exact .inl ⟨by simp_all, rfl⟩

/-- The hand-off changes of the chamber unit the setpoint alone. -/
@[simp] theorem refresh_chamber_frame (s : State) :
    (refresh s).chamber.status = s.chamber.status ∧ (refresh s).chamber.integrator = s.chamber.integrator ∧
    (refresh s).chamber.snapshot = s.chamber.snapshot ∧ (refresh s).chamber.gateAllowed = s.chamber.gateAllowed := by
  rw [refresh_chamber]
  split <;> (and_intros <;> rfl)

@[simp] theorem screwAtSwitch_status (s : State) : (screwAtSwitch s).chamber.status = s.chamber.status := by
  unfold screwAtSwitch limitSetpoint computeSetpoint
  simp only
  split <;> rfl

/-- The mode after a change of it: the condition table is evaluated, and a cutterhead that may no longer turn has been
stopped (R146, R168). -/
theorem changeMode_cases (m : Mode) (cause : ModeCause) (s : State) :
    changeMode m cause s = s ∧ s.modes.mode = m ∨ s.modes.mode ≠ m ∧
      ∃ t : State, t = { s with modes := { s.modes with mode := m, haltOutput := m = .halted, cause } } ∧
      (((advancing s.modes.mode = false ∨ advancing m = true) ∧ changeMode m cause s = evalConditions t) ∨
        (advancing m = false ∧ changeMode m cause s = evalConditions (forcedStop t))) := by
  unfold changeMode
  split
  · exact .inl ⟨rfl, ‹_›⟩
  · refine .inr ⟨‹_›, _, rfl, ?_⟩
    simp only
    cases hm : advancing s.modes.mode <;> cases hn : advancing m <;> simp

/-! ## The cutterhead's records -/

/-- The clauses of `CutterSound` about the unit's own record. -/
structure CutterShape (c : Cutter) : Prop where
  rest  : atRest c.run = true → c.reference = 0 ∧ c.ramp = none ∧ c.jam = none
  phase : c.phase.isSome = decide (c.run = .rocking)
  rock  : c.rock.isSome = decide (c.run = .rocking)

theorem cutterSound_iff (s : State) :
    CutterSound s ↔ s.cutter.torqueCeiling = torqueCeilingOf s ∧ CutterShape s.cutter :=
  ⟨fun h => ⟨h.ceiling, h.rest, h.phase, h.rock⟩, fun h => ⟨h.1, h.2.rest, h.2.phase, h.2.rock⟩⟩

theorem torqueCeilingOf_congr {s t : State} (hp : activeProfile t = activeProfile s) (hk : constantsOf t = constantsOf s)
    (hm : inMotors t.cutter = inMotors s.cutter) : torqueCeilingOf t = torqueCeilingOf s := by
  simp [torqueCeilingOf, hp, hk, hm]

/-- A cutterhead that keeps its ceiling and its IN motors stays sound when its own record does. -/
theorem CutterSound.of_shape {s t : State} (h : CutterSound s) (hstore : t.store = s.store)
    (hm : inMotors t.cutter = inMotors s.cutter) (hc : t.cutter.torqueCeiling = s.cutter.torqueCeiling)
    (hshape : CutterShape t.cutter) : CutterSound t :=
  (cutterSound_iff t).mpr
    ⟨by rw [hc, h.ceiling, torqueCeilingOf_congr (by simp [activeProfile, hstore]) (by simp [constantsOf, hstore]) hm],
      hshape⟩

theorem CutterSound.shape {s : State} (h : CutterSound s) : CutterShape s.cutter := ((cutterSound_iff s).mp h).2

theorem CutterSound.of_same {s t : State} (h : CutterSound s) (hstore : t.store = s.store)
    (hc : t.cutter = s.cutter) : CutterSound t :=
  h.of_shape hstore (by rw [hc]) (by rw [hc]) (hc ▸ h.shape)

/-- Out of the rest states, and of ROCKING, neither a rocking phase nor a rock timer is present. -/
theorem CutterShape.of_run {c : Cutter} (hr : atRest c.run = false) (hk : c.run ≠ .rocking) (hp : c.phase = none)
    (ht : c.rock = none) : CutterShape c :=
  ⟨by simp [hr], by simp [hp, hk], by simp [ht, hk]⟩

theorem CutterShape.phase_none {c : Cutter} (h : CutterShape c) (hk : c.run ≠ .rocking) :
    c.phase = none ∧ c.rock = none := by
  have hp := h.phase
  have hr := h.rock
  simp_all

theorem cutterShape_restCutter {r : RunState} (hr : r ≠ .rocking) (c : Cutter) : CutterShape (restCutter r c) :=
  ⟨fun _ => ⟨rfl, rfl, rfl⟩, by simp [restCutter, hr], by simp [restCutter, hr]⟩

theorem cutterSound_enterRest {s : State} (h : CutterSound s) {r : RunState} (hr : r ≠ .rocking) :
    CutterSound (enterRest r s) :=
  h.of_shape (by simp) (inMotors_leaveIfRunning s) (leaveIfRunning_cutter_frame s).2.1 (cutterShape_restCutter hr _)

theorem cutterSound_forcedStop {s : State} (h : CutterSound s) : CutterSound (forcedStop s) := by
  obtain ⟨e, -⟩ | ⟨hturn, e⟩ | ⟨-, e⟩ := forcedStop_cases s
  · rwa [e]
  · have hnone := h.shape.phase_none (by rintro hk; simp [hk, turning] at hturn)
    rw [e]
    refine h.of_shape (by simp) ?_ ?_ ?_
    · rw [enterStopping_cutter, inMotors_retarget]
      exact inMotors_leaveIfRunning s
    · simp [enterStopping_cutter]
    · refine .of_run ?_ ?_ ?_ ?_ <;> simp [enterStopping_cutter, atRest, hnone.1, hnone.2]
  · rw [e]
    exact cutterSound_enterRest h (by simp)

theorem cutterSound_stopIfMotorsLow {s : State} (h : CutterSound s) : CutterSound (stopIfMotorsLow s) := by
  obtain ⟨-, e⟩ | ⟨-, e⟩ := stopIfMotorsLow_cases s
  · rwa [e]
  · rw [e]
    exact cutterSound_forcedStop h

/-- The ceiling computed again is right whatever it was before (R140). -/
theorem cutterSound_updateTorque {s : State} (h : CutterShape s.cutter) : CutterSound (updateTorque s) :=
  (cutterSound_iff _).mpr ⟨rfl, h.rest, h.phase, h.rock⟩

theorem cutterSound_changeMode (m : Mode) (cause : ModeCause) {s : State} (h : CutterSound s) :
    CutterSound (changeMode m cause s) := by
  obtain ⟨e, -⟩ | ⟨-, t, rfl, ⟨-, e⟩ | ⟨-, e⟩⟩ := changeMode_cases m cause s
  · rwa [e]
  · rw [e]
    exact h.of_same rfl rfl
  · have ht : CutterSound { s with modes := { s.modes with mode := m, haltOutput := m = .halted, cause } } :=
      h.of_same rfl rfl
    rw [e]
    exact (cutterSound_forcedStop ht).of_same (by simp) (by simp)

theorem cutterSound_carried : Carried CutterSound where
  minor := by
    intro s t h hm
    obtain ⟨x, hx⟩ := hm.cutter
    refine (cutterSound_iff t).mpr ⟨?_, ?_⟩
    · rw [torqueCeilingOf_congr hm.profile hm.constantsOf (by rw [hx]; rfl), hx]
      exact h.ceiling
    · rw [hx]
      exact ⟨h.rest, h.phase, h.rock⟩
  refresh := fun s h => h.of_same (by simp) (by simp)
  closure := fun s h => h.of_same (by simp) (by simp)
  judge := fun s h => h.of_same (by simp) (by simp)
  switch := fun n s _ h => cutterSound_stopIfMotorsLow (cutterSound_updateTorque (by simpa using h.shape))
  mode := fun m cause s _ _ _ h => cutterSound_changeMode m cause h

theorem cutterSound_commission {s : State} (h : CutterSound s) : CutterSound (commission s) :=
  (cutterSound_carried.modeTaken (fun m cause _ => cutterSound_changeMode m cause) h).of_same rfl rfl

@[simp] theorem inMotors_enterRunning (s : State) : inMotors (enterRunning s).cutter = inMotors s.cutter := by
  refine countWhere_updateEach s.cutter.motors
    (fun _ m => if m.isIn then { m with inShare := true, deviation := none } else m) _ fun i m => motorIsIn_congr ?_
  split <;> rfl

theorem shareMotor_membership (window mean now : Nat) (m : Motor) :
    (shareMotor window mean now m).membership = m.membership := by
  unfold shareMotor
  split
  · split <;> rfl
  · rfl

@[simp] theorem inMotors_shareTest (s : State) : inMotors (shareTest s).cutter = inMotors s.cutter :=
  countWhere_updateEach _ _ _ fun _ m => motorIsIn_congr (shareMotor_membership _ _ _ m)

theorem cutterSound_driveTests {s : State} (h : CutterSound s) : CutterSound (driveTests s) := by
  have hjam : ∀ t : State, CutterSound t → atRest t.cutter.run = false → CutterSound (jamTest t) := fun t ht hr =>
    ht.of_shape rfl rfl rfl ⟨fun hr' => absurd (hr.symm.trans hr') (by simp), ht.phase, ht.rock⟩
  unfold driveTests
  split
  case h_1 hrun =>
    refine hjam _ ?_ ?_
    · split
      · have hnone := h.shape.phase_none (by simp [hrun])
        exact h.of_shape rfl (by simp) rfl (.of_run rfl (by simp [enterRunning]) hnone.1 hnone.2)
      · exact h
    · split
      · rfl
      · simp [hrun, atRest]
  case h_2 hrun =>
    refine hjam _ ?_ (by simp [shareTest, hrun, atRest])
    exact h.of_shape rfl (by simp) rfl ⟨h.rest, h.phase, h.rock⟩
  case h_3 =>
    split
    · exact cutterSound_enterRest h (by simp)
    · exact h
  case h_4 =>
    split
    · have hr := cutterSound_enterRest h (r := .stopped) (by simp)
      exact hr.of_shape rfl rfl rfl ⟨hr.rest, hr.phase, hr.rock⟩
    · exact h
  all_goals exact h

theorem cutterShape_reset {c : Cutter} : CutterShape c.reset := by
  have hr : c.run.reset ≠ .rocking := by cases c.run <;> simp [RunState.reset]
  have h := cutterShape_restCutter hr c
  exact ⟨h.rest, h.phase, h.rock⟩

theorem inMotors_reset (c : Cutter) : inMotors c.reset = inMotors c :=
  countWhere_updateEach _ _ _ fun _ _ => motorIsIn_congr rfl

theorem cutterSound_warmReset {s : State} (h : CutterSound s) : CutterSound (warmReset s) := by
  have hblocks : CutterSound (resetBlocks s) := h.of_shape rfl (inMotors_reset s.cutter) rfl cutterShape_reset
  unfold warmReset
  have hconds : CutterSound (evalConditions (resetBlocks s)) := hblocks.of_same rfl rfl
  exact (cutterSound_carried.switchTest hconds).of_same (by simp) (by simp)

theorem cutterSound_requestSpeed {s : State} (h : CutterSound s) (hturn : turning s.cutter.run = true) (n : Nat) :
    CutterSound (requestSpeed n s) := by
  have hnone := h.shape.phase_none (by rintro hk; simp [hk, turning] at hturn)
  refine h.of_shape rfl ?_ ?_ (.of_run ?_ ?_ ?_ ?_)
  · exact inMotors_retarget _ _ _
  all_goals simp [requestSpeed, hnone.1, hnone.2]
  · cases hr : s.cutter.run <;> simp_all [turning, atRest]
  · rintro hk
    simp [hk, turning] at hturn

theorem cutterSound_startCutter {s : State} (h : CutterSound s) (hrun : s.cutter.run = .stopped) (d : Direction)
    (n : Nat) : CutterSound (startCutter d n s) := by
  have hnone := h.shape.phase_none (by simp [hrun])
  refine h.of_shape rfl ?_ ?_ (.of_run ?_ ?_ ?_ ?_)
  · exact inMotors_retarget _ _ _
  all_goals simp [startCutter, hnone.1, hnone.2, atRest]

theorem cutterSound_setMotor {s : State} (h : CutterSound s) (i : Fin 8) (m : Motor) : CutterSound (setMotor i m s) :=
  cutterSound_updateTorque ⟨h.rest, h.phase, h.rock⟩

theorem cutterSound_rampStep {s : State} (h : CutterSound s) (hdue : rampDue s = true) : CutterSound (rampStep s) := by
  have hrest : atRest s.cutter.run = false := by
    cases hr : atRest s.cutter.run with
    | false => rfl
    | true =>
      obtain ⟨-, hramp, -⟩ := h.rest hr
      simp [rampDue, hramp, ranFor] at hdue
  exact h.of_shape rfl rfl rfl
    ⟨fun hr => absurd (hrest.symm.trans hr) (by simp), h.phase, h.rock⟩

theorem cutterSound_pressurePart (a : SpoilArgs) {s : State} (h : CutterSound s) : CutterSound (pressurePart a s) := by
  unfold pressurePart
  simp only
  split
  · exact h.of_same (by simp) (by simp)
  · split
    · exact h.of_same rfl rfl
    · exact cutterSound_forcedStop (h.of_same (by simp) (by simp))

theorem cutterSound_spoilTaken (a : SpoilArgs) {s : State} (h : CutterSound s) : CutterSound (spoilTaken a s) := by
  have hread : CutterSound
      { s with chamber := { s.chamber with lastReport := some s.now, screwActual := a.screw, gate := a.gate } } :=
    h.of_same rfl rfl
  have hbelt := beltPart_alters a.belt
  exact (cutterSound_pressurePart a hread).of_same ((hbelt _).store (by simp)) ((hbelt _).cutter (by simp))

/-- A write to a profile that is not the active one changes no figure in force (R7). -/
theorem activeProfile_setProfile {s : State} {i : Fin 4} (hi : i ≠ s.store.active) (p : Profile) :
    activeProfile { s with store := { s.store with profiles := s.store.profiles.set i p } } = activeProfile s := by
  have hne : i.val ≠ s.store.active.val := fun e => hi (Fin.ext e)
  simp [activeProfile, hne]

theorem effect_keeps_cutterSound {c : Instr} {u v : State} (he : Effect c u v) (h : CutterSound u) :
    CutterSound v := by
  cases c
  case resetInput ms =>
    obtain rfl | rfl := he
    · exact h
    · exact cutterSound_warmReset h
  case warmReset p => exact acts_warmReset he ▸ cutterSound_warmReset h
  case revolutionIndexPulse ms =>
    obtain rfl | ⟨-, rfl⟩ := he
    · exact h
    · have hpulse : ∀ c' : Cutter, c'.torqueCeiling = u.cutter.torqueCeiling → c'.motors = u.cutter.motors →
          CutterShape c' → ∀ w, CutterSound { u with cutter := { c' with watch := w } } := fun c' hc hm hs w =>
        h.of_shape rfl (by simp [inMotors, hm]) hc ⟨hs.rest, hs.phase, hs.rock⟩
      unfold takePulse
      simp only
      split
      · split
        · exact hpulse (openRevolution _ _) rfl rfl ⟨h.rest, h.phase, h.rock⟩ _
        · exact hpulse (closeRevolution _ _ _ _) rfl rfl ⟨h.rest, h.phase, h.rock⟩ _
      · exact hpulse (openRevolution _ _) rfl rfl ⟨h.rest, h.phase, h.rock⟩ _
  case driveReport p =>
    obtain ⟨a, rfl⟩ := acts_driveReport he
    exact cutterSound_driveTests (cutterSound_stopIfMotorsLow
      (cutterSound_updateTorque (s := { u with cutter := recordReport a u.cutter }) ⟨h.rest, h.phase, h.rock⟩))
  case cutterStart p =>
    obtain ⟨hturn, n, rfl⟩ | ⟨hrun, -, -, -, d, n, rfl⟩ := acts_cutterStart he
    · exact cutterSound_requestSpeed h hturn n
    · exact cutterSound_startCutter h hrun d n
  case cutterSpeed p =>
    obtain ⟨hturn, n, rfl⟩ := acts_cutterSpeed he
    exact cutterSound_requestSpeed h hturn n
  case cutterStop p => exact acts_cutterStop he ▸ cutterSound_forcedStop h
  case cutterRock p =>
    obtain ⟨-, -, -, -, rfl⟩ := acts_cutterRock he
    exact h.of_shape rfl rfl rfl ⟨fun hr => absurd hr (by simp [startRocking, atRest]), rfl, rfl⟩
  case motorReadmit p =>
    obtain ⟨i, -, -, rfl⟩ := acts_motorReadmit he
    exact cutterSound_setMotor h i _
  case spoilReport p =>
    obtain ⟨a, rfl⟩ := acts_spoilReport he
    exact cutterSound_spoilTaken a h
  case constantsWrite p =>
    obtain ⟨k, -, rfl⟩ := acts_constantsWrite he
    have hk : CutterSound (installConstants k u) := cutterSound_updateTorque ⟨h.rest, h.phase, h.rock⟩
    split
    · exact cutterSound_commission hk
    · exact hk
  case haltClear p =>
    obtain ⟨hmode, -, rfl⟩ := acts_haltClear he
    exact cutterSound_carried.haltCleared (fun m cause _ _ _ => cutterSound_changeMode m cause) hmode h
  case profileWrite p =>
    obtain ⟨i, q, hi, -, -, rfl⟩ := acts_profileWrite he
    refine (cutterSound_iff _).mpr ⟨?_, h.shape⟩
    rw [torqueCeilingOf_congr (activeProfile_setProfile hi q) rfl rfl]
    exact h.ceiling
  case conditionAck p =>
    obtain ⟨name, subject, rfl⟩ := acts_conditionAck he
    refine CutterSound.of_same (s := clearTrip name u) ?_ rfl rfl
    unfold clearTrip
    split
    · exact (cutterSound_enterRest h (by simp)).of_same rfl rfl
    · exact h
  case estimateLossExpiry =>
    obtain ⟨-, rfl⟩ := he
    exact cutterSound_forcedStop (h.of_same (by simp) (by simp))
  case rampStep =>
    obtain ⟨hdue, rfl⟩ := he
    exact cutterSound_rampStep h hdue
  case deviationTimerExpiry i =>
    obtain ⟨-, rfl⟩ := he
    exact cutterSound_stopIfMotorsLow (cutterSound_setMotor h i _)
  case indexWatchExpiry =>
    obtain ⟨-, rfl⟩ := he
    exact h.of_shape rfl rfl rfl ⟨h.rest, h.phase, h.rock⟩
  case jamTimerExpiry =>
    obtain ⟨-, rfl⟩ := he
    exact cutterSound_enterRest h (by simp)
  case reversePhaseExpiry =>
    obtain ⟨hdue, rfl⟩ := he
    have hrun : u.cutter.run = .rocking := by simp_all [rockDue]
    exact h.of_shape rfl rfl rfl
      ⟨fun hr => by simp [beginForward, hrun, atRest] at hr, by simp [beginForward, hrun], by simp [beginForward, hrun]⟩
  case forwardPhaseExpiry =>
    obtain ⟨-, rfl⟩ := he
    have hrest := cutterSound_enterRest h (r := if u.cutter.attempts - 1 = 0 then .tripped else .jammed) (by split <;> simp)
    exact hrest.of_shape rfl rfl rfl ⟨hrest.rest, hrest.phase, hrest.rock⟩
  case doseTake p =>
    obtain ⟨i, rfl⟩ := acts_doseTake he
    exact h.of_same rfl rfl
  case doseClose p =>
    obtain ⟨a, i, d, -, rfl⟩ := acts_doseClose he
    exact h.of_same rfl rfl
  case lineState p =>
    obtain ⟨i, x, k, rfl⟩ := acts_lineState he
    exact h.of_same rfl rfl
  case powerOn | supplyLoss | planBlankCheck | planVerify | planStatus | read | unknownRequest => exact he.elim
  all_goals exact cutterSound_carried.effect he rfl h

theorem cutterSound_powerUp (failed : StoredFailures) (s : State) : CutterSound (powerUp failed s) := by
  refine (cutterSound_iff _).mpr ⟨?_, ⟨fun _ => ⟨rfl, rfl, rfl⟩, rfl, rfl⟩⟩
  have hin : inMotors (powerUp failed s).cutter = 0 := by
    show inMotors Cutter.initial = 0
    decide
  rw [torqueCeilingOf, hin]
  simp [powerUp, blocksAtPowerOn, Cutter.initial]

/-- Settles O12. -/
theorem cutterheadStaysSound : Obligations.CutterheadStaysSound :=
  step_keeps (fun _ _ _ h hs => hs.of_same h.store h.cutter) (fun failed s _ => cutterSound_powerUp failed s)
    (fun _ _ _ => effect_keeps_cutterSound) (fun _ _ h hs => hs.of_same h.inputs.store h.inputs.cutter)

end Sys2Proof.Machine

/-! The cutterhead turns or rocks only in ADVANCE or CONTINUOUS, with a current estimate and enough motors (R146). -/

namespace Sys2Proof.Machine

set_option Elab.async false

theorem turningAllowed_iff (s : State) : TurningAllowed s ↔
    (moving s.cutter.run = true →
      advancing s.modes.mode = true ∧ s.chamber.status ≠ .lost ∧ motorsLow s = false) := by
  simp [TurningAllowed, moving]

theorem TurningAllowed.of_still {s : State} (h : moving s.cutter.run = false) : TurningAllowed s := by
  rw [turningAllowed_iff]
  simp [h]

theorem motorsLow_congr {s t : State} (hp : activeProfile t = activeProfile s)
    (hm : inMotors t.cutter = inMotors s.cutter) : motorsLow t = motorsLow s := by
  simp [motorsLow, hp, hm]

/-- A cutterhead that does not begin to move, with mode, estimate and motors as they stand, is allowed to go on. -/
theorem TurningAllowed.of_frame {s t : State} (h : TurningAllowed s)
    (hrun : moving t.cutter.run = true → moving s.cutter.run = true) (hmode : t.modes.mode = s.modes.mode)
    (hstatus : t.chamber.status = s.chamber.status) (hlow : motorsLow t = motorsLow s) : TurningAllowed t := by
  rw [turningAllowed_iff] at *
  intro hm
  rw [hmode, hstatus, hlow]
  exact h (hrun hm)

theorem TurningAllowed.of_same {s t : State} (h : TurningAllowed s) (hstore : t.store = s.store)
    (hc : t.cutter = s.cutter) (hmode : t.modes.mode = s.modes.mode)
    (hstatus : t.chamber.status = s.chamber.status) : TurningAllowed t :=
  h.of_frame (by rw [hc]; exact id) hmode hstatus (motorsLow_congr (by simp [activeProfile, hstore]) (by rw [hc]))

/-- The stop of R146 makes up for a count of motors that may be too low. -/
theorem turningAllowed_stopIfMotorsLow {s : State}
    (h : moving s.cutter.run = true → advancing s.modes.mode = true ∧ s.chamber.status ≠ .lost) :
    TurningAllowed (stopIfMotorsLow s) := by
  obtain ⟨hlow, e⟩ | ⟨-, e⟩ := stopIfMotorsLow_cases s
  · rw [e, turningAllowed_iff]
    exact fun hm => ⟨(h hm).1, (h hm).2, hlow⟩
  · rw [e]
    exact .of_still (forcedStop_not_moving s)

theorem TurningAllowed.mode_status {s : State} (h : TurningAllowed s) (hm : moving s.cutter.run = true) :
    advancing s.modes.mode = true ∧ s.chamber.status ≠ .lost := by
  obtain ⟨hmode, hstatus, -⟩ := (turningAllowed_iff s).mp h hm
  exact ⟨hmode, hstatus⟩

theorem turningAllowed_changeMode (m : Mode) (cause : ModeCause) {s : State} (h : TurningAllowed s) :
    TurningAllowed (changeMode m cause s) := by
  obtain ⟨e, -⟩ | ⟨-, t, rfl, ⟨hadv, e⟩ | ⟨-, e⟩⟩ := changeMode_cases m cause s
  · rwa [e]
  · rw [e, turningAllowed_iff]
    intro hm
    obtain ⟨hmode, hstatus, hlow⟩ := (turningAllowed_iff s).mp h hm
    exact ⟨hadv.resolve_left (by simp [hmode]), hstatus, hlow⟩
  · rw [e]
    exact .of_still (forcedStop_not_moving _)

theorem turningAllowed_carried : Carried TurningAllowed where
  minor := by
    intro s t h hm
    obtain ⟨x, hx⟩ := hm.cutter
    exact h.of_frame (by rw [hx]; exact id) hm.mode (by rw [hm.chamber]) (motorsLow_congr hm.profile (by rw [hx]; rfl))
  refresh := fun s h => h.of_same (by simp) (by simp) (by simp) (by simp)
  closure := fun s h => h.of_same (by simp) (by simp) (by simp) (by simp)
  judge := fun s h => h.of_same (by simp) (by simp) (by simp) (by simp)
  switch := fun n s _ h => turningAllowed_stopIfMotorsLow fun hm => by
    simpa using h.mode_status (by simpa using hm)
  mode := fun m cause s _ _ _ h => turningAllowed_changeMode m cause h

/-! ## The cutterhead's own commands -/

theorem jamTest_frame (s : State) : (jamTest s).cutter.run = s.cutter.run ∧ (jamTest s).modes = s.modes ∧
    (jamTest s).chamber = s.chamber ∧ (jamTest s).store = s.store ∧ inMotors (jamTest s).cutter = inMotors s.cutter :=
  ⟨rfl, rfl, rfl, rfl, rfl⟩

theorem TurningAllowed.jamTest {s : State} (h : TurningAllowed s) : TurningAllowed (jamTest s) :=
  h.of_frame id rfl rfl rfl

theorem turningAllowed_driveTests {s : State} (h : TurningAllowed s) : TurningAllowed (driveTests s) := by
  unfold driveTests
  split
  case h_1 hrun =>
    refine TurningAllowed.jamTest ?_
    split
    · exact h.of_frame (by simp [moving, hrun, turning]) rfl rfl (motorsLow_congr rfl (inMotors_enterRunning s))
    · exact h
  case h_2 hrun =>
    exact TurningAllowed.jamTest (h.of_frame id rfl rfl (motorsLow_congr rfl (inMotors_shareTest s)))
  case h_3 =>
    split
    · exact .of_still rfl
    · exact h
  case h_4 =>
    split
    · exact .of_still rfl
    · exact h
  all_goals exact h

theorem turningAllowed_warmReset (s : State) : TurningAllowed (warmReset s) := by
  have hblocks : TurningAllowed (evalConditions (resetBlocks s)) := .of_still (by
    show moving s.cutter.run.reset = false
    cases s.cutter.run <;> rfl)
  exact turningAllowed_carried.refresh _ (turningAllowed_carried.switchTest hblocks)

theorem turningAllowed_requestSpeed (n : Nat) {s : State} (h : TurningAllowed s) :
    TurningAllowed (requestSpeed n s) :=
  h.of_frame (by simp [requestSpeed]) rfl rfl (motorsLow_congr rfl (inMotors_retarget _ _ _))

theorem turningAllowed_pressurePart (a : SpoilArgs) {s : State} (h : TurningAllowed s) :
    TurningAllowed (pressurePart a s) := by
  unfold pressurePart
  simp only
  split
  · rename_i value status he
    have hstatus : status ≠ .lost := by
      unfold estimateOf at he
      split at he <;> simp_all <;> simp [← he.2]
    rw [turningAllowed_iff] at h ⊢
    intro hm
    obtain ⟨hmode, -, hlow⟩ := h hm
    exact ⟨hmode, hstatus, hlow⟩
  · split
    · exact h.of_same rfl rfl rfl rfl
    · exact .of_still (forcedStop_not_moving _)

theorem turningAllowed_spoilTaken (a : SpoilArgs) {s : State} (h : TurningAllowed s) :
    TurningAllowed (spoilTaken a s) := by
  have hread : TurningAllowed
      { s with chamber := { s.chamber with lastReport := some s.now, screwActual := a.screw, gate := a.gate } } :=
    h.of_same rfl rfl rfl rfl
  have hstatus : ∀ t : State, (beltPart a.belt t).chamber.status = t.chamber.status := by
    intro t
    unfold beltPart
    split
    · rfl
    · simp only
      split <;> rfl
  have hbelt := beltPart_alters a.belt
  exact (turningAllowed_pressurePart a hread).of_same ((hbelt _).store (by simp)) ((hbelt _).cutter (by simp))
    (congrArg ModeUnit.mode ((hbelt _).modes (by simp))) (hstatus _)

theorem turningAllowed_commission {s : State} (h : TurningAllowed s) : TurningAllowed (commission s) :=
  (turningAllowed_carried.modeTaken (fun m cause _ => turningAllowed_changeMode m cause) h).of_same rfl rfl rfl rfl

/-- The cutterhead stands in UNCOMMISSIONED and STANDSTILL (R146). -/
theorem TurningAllowed.still_of_writable {s : State} (h : TurningAllowed s) (hw : constantsWritable s = true) :
    moving s.cutter.run = false := by
  cases hm : moving s.cutter.run with
  | false => rfl
  | true =>
    obtain ⟨hadv, -⟩ := (turningAllowed_iff s).mp h hm
    simp only [constantsWritable, Bool.and_eq_true, Bool.or_eq_true, decide_eq_true_eq] at hw
    obtain ⟨⟨hmode | hmode, -⟩, -⟩ := hw <;> simp [hmode, advancing] at hadv

theorem effect_keeps_turningAllowed {c : Instr} {u v : State} (he : Effect c u v) (h : TurningAllowed u) :
    TurningAllowed v := by
  cases c
  case resetInput ms =>
    obtain rfl | rfl := he
    · exact h
    · exact turningAllowed_warmReset u
  case warmReset p => exact acts_warmReset he ▸ turningAllowed_warmReset u
  case revolutionIndexPulse ms =>
    obtain rfl | ⟨-, rfl⟩ := he
    · exact h
    · unfold takePulse
      simp only
      split
      · split <;> exact h.of_frame id rfl rfl rfl
      · exact h.of_frame id rfl rfl rfl
  case driveReport p =>
    obtain ⟨a, rfl⟩ := acts_driveReport he
    exact turningAllowed_driveTests (turningAllowed_stopIfMotorsLow h.mode_status)
  case cutterStart p =>
    obtain ⟨-, n, rfl⟩ | ⟨-, hadv, hstatus, hlow, d, n, rfl⟩ := acts_cutterStart he
    · exact turningAllowed_requestSpeed n h
    · refine (turningAllowed_iff _).mpr fun _ => ⟨hadv, hstatus, ?_⟩
      exact (motorsLow_congr (s := u) (t := startCutter d n u) rfl (inMotors_retarget _ _ _)).trans hlow
  case cutterSpeed p =>
    obtain ⟨-, n, rfl⟩ := acts_cutterSpeed he
    exact turningAllowed_requestSpeed n h
  case cutterStop p => exact acts_cutterStop he ▸ .of_still (forcedStop_not_moving u)
  case cutterRock p =>
    obtain ⟨-, hadv, hstatus, hlow, rfl⟩ := acts_cutterRock he
    exact (turningAllowed_iff _).mpr fun _ => ⟨hadv, hstatus, hlow⟩
  case motorReadmit p =>
    obtain ⟨i, hrun, -, rfl⟩ := acts_motorReadmit he
    refine .of_still (show moving u.cutter.run = false from ?_)
    obtain e | e := hrun <;> simp [e, moving, turning]
  case spoilReport p =>
    obtain ⟨a, rfl⟩ := acts_spoilReport he
    exact turningAllowed_spoilTaken a h
  case constantsWrite p =>
    obtain ⟨k, hw, rfl⟩ := acts_constantsWrite he
    have hk : TurningAllowed (installConstants k u) := .of_still (h.still_of_writable hw)
    split
    · exact turningAllowed_commission hk
    · exact hk
  case haltClear p =>
    obtain ⟨hmode, -, rfl⟩ := acts_haltClear he
    exact turningAllowed_carried.haltCleared (fun m cause _ _ _ => turningAllowed_changeMode m cause) hmode h
  case profileWrite p =>
    obtain ⟨i, q, hi, -, -, rfl⟩ := acts_profileWrite he
    exact h.of_frame id rfl rfl (motorsLow_congr (activeProfile_setProfile hi q) rfl)
  case conditionAck p =>
    obtain ⟨name, subject, rfl⟩ := acts_conditionAck he
    refine TurningAllowed.of_same (s := clearTrip name u) ?_ rfl rfl rfl rfl
    unfold clearTrip
    split
    · exact .of_still rfl
    · exact h
  case estimateLossExpiry =>
    obtain ⟨-, rfl⟩ := he
    exact .of_still (forcedStop_not_moving _)
  case rampStep | indexWatchExpiry =>
    obtain ⟨-, rfl⟩ := he
    exact h.of_frame id rfl rfl rfl
  case deviationTimerExpiry i =>
    obtain ⟨-, rfl⟩ := he
    exact turningAllowed_stopIfMotorsLow h.mode_status
  case jamTimerExpiry =>
    obtain ⟨-, rfl⟩ := he
    exact .of_still rfl
  case reversePhaseExpiry =>
    obtain ⟨-, rfl⟩ := he
    exact h.of_frame id rfl rfl rfl
  case forwardPhaseExpiry =>
    obtain ⟨-, rfl⟩ := he
    refine .of_still (show moving (if u.cutter.attempts - 1 = 0 then .tripped else .jammed) = false from ?_)
    split <;> rfl
  case doseTake p =>
    obtain ⟨i, rfl⟩ := acts_doseTake he
    exact h.of_same rfl rfl rfl rfl
  case doseClose p =>
    obtain ⟨a, i, d, -, rfl⟩ := acts_doseClose he
    exact h.of_same rfl rfl rfl rfl
  case lineState p =>
    obtain ⟨i, x, k, rfl⟩ := acts_lineState he
    exact h.of_same rfl rfl rfl rfl
  case powerOn | supplyLoss | planBlankCheck | planVerify | planStatus | read | unknownRequest => exact he.elim
  all_goals exact turningAllowed_carried.effect he rfl h

/-- Settles O50. -/
theorem turningStaysAllowed : Obligations.TurningStaysAllowed :=
  step_keeps (fun _ _ _ h hs => hs.of_same h.store h.cutter (by rw [h.modes]) (by rw [h.chamber]))
    (fun _ _ _ => .of_still rfl) (fun _ _ _ => effect_keeps_turningAllowed) fun v t h hs =>
      hs.of_same h.inputs.store h.inputs.cutter (by rw [h.inputs.modes]) (by
        rw [h.chamber]
        split <;> rfl)

end Sys2Proof.Machine

/-! Permits and condition table follow the records (R176 to R178); the screw stays held (R125, R126, R128) and its
integrator bounded (R11, R123). -/

namespace Sys2Proof.Machine

set_option Elab.async false

/-! ## What the derived records read -/

theorem exists_portIndex : ∀ i : Fin 5, ∃ q, portIndex q = i := by
  intro i
  fin_cases i
  exacts [⟨.drive, rfl⟩, ⟨.erector, rfl⟩, ⟨.grout, rfl⟩, ⟨.spoil, rfl⟩, ⟨.cabin, rfl⟩]

namespace SameRecords
variable {p : Option Port} {s t : State} (h : SameRecords p s t)
include h

/-- Taking the head of a list leaves the state of the link. -/
theorem silent (i : Nat) :
    (t.links[i]?).map (fun l => l.ever && !l.active) = (s.links[i]?).map fun l => l.ever && !l.active := by
  by_cases hi : i < 5
  · obtain ⟨q, hq⟩ := exists_portIndex ⟨i, hi⟩
    have hlink : ∀ u : State, u.links[i]? = some (linkOf u q) := fun u => by simp [linkOf, hq, hi]
    rw [hlink, hlink]
    obtain e | ⟨-, e⟩ := h.links q <;> simp [e]
  · simp [hi]

theorem level (name : CondName) (subject : Option Nat) : level t name subject = level s name subject := by
  cases name
  case linkSilent =>
    cases subject with
    | none => rfl
    | some i =>
      have hi := h.silent i
      simp only [Machine.level, Option.bind_some]
      cases hs : s.links[i]? <;> cases ht : t.links[i]? <;> simp_all
  all_goals
    simp only [Machine.level, groutBacklog, someOvertime, noArmableRow, motorsLow, subjectGroup, constantsOf, activeProfile,
      h.store, h.account, h.groups, h.stack, h.ring, h.plan, h.grout, h.chamber, h.cutter, h.modes]
  all_goals rfl

theorem classOf (name : CondName) (subject : Option Nat) : classOf t name subject = classOf s name subject := by
  cases name <;> simp only [Machine.classOf, h.stack]

theorem permitsOf : permitsOf t = permitsOf s := by
  have hlimiting : limitingConditions t = limitingConditions s := by
    unfold limitingConditions
    congr 1
    funext k
    rw [h.level, h.classOf]
  have hspeed : speedCeiling t = speedCeiling s := by
    simp only [speedCeiling, advanceBlocked, h.level, governedSpeed, activeProfile, someGroupIs, h.store, h.groups,
      h.cutter, h.modes]
    rfl
  simp only [Machine.permitsOf, advancePermitOf, cutterPermitOf, buildPermitOf, groutPermitOf, hlimiting, hspeed,
    thrustCeiling, thrustGroups, commissioned, activeProfile, h.store, h.account, h.groups, h.stack, h.cutter, h.modes]

end SameRecords

/-! ## Permits and conditions -/

/-- The table lists the 98 entries in order (R177). -/
def TableListed (s : State) : Prop := s.conds.map (fun e => (e.name, e.subject)) = condKeys

theorem TableListed.of_conds {s t : State} (h : TableListed s) (e : t.conds = s.conds) : TableListed t := by
  unfold TableListed
  rw [e]
  exact h

theorem TableListed.evaluated {s t : State} (h : TableListed s) (f : CondEntry → CondEntry)
    (hf : ∀ e, (f e).name = e.name ∧ (f e).subject = e.subject) (e : t.conds = s.conds.map f) : TableListed t := by
  unfold TableListed
  rw [e, List.map_map]
  exact Eq.trans (List.map_congr_left fun e _ => by simp [hf e]) h

theorem evalEntry_key (s : State) (e : CondEntry) : (evalEntry s e).name = e.name ∧ (evalEntry s e).subject = e.subject :=
  ⟨rfl, rfl⟩

theorem tableListed_evalConditions {s : State} (h : TableListed s) : TableListed (evalConditions s) :=
  h.evaluated _ (evalEntry_key s) rfl

theorem tableListed_changeMode (m : Mode) (cause : ModeCause) {s : State} (h : TableListed s) :
    TableListed (changeMode m cause s) := by
  obtain ⟨e, -⟩ | ⟨-, t, rfl, ⟨-, e⟩ | ⟨-, e⟩⟩ := changeMode_cases m cause s
  · rwa [e]
  · rw [e]
    exact tableListed_evalConditions (h.of_conds rfl)
  · rw [e]
    exact tableListed_evalConditions (h.of_conds (by simp))

theorem tableListed_carried : Carried TableListed where
  minor := fun h hm => h.of_conds hm.conds
  refresh := fun s h => h.evaluated _ (evalEntry_key _) (refresh_conds s)
  closure := fun s h => h.of_conds (by simp)
  judge := fun s h => tableListed_evalConditions (h.of_conds rfl)
  switch := fun n s _ h => h.of_conds (by simp [switchUnits])
  mode := fun m cause s _ _ _ h => tableListed_changeMode m cause h

theorem tableListed_warmReset {s : State} (h : TableListed s) : TableListed (warmReset s) := by
  have hblocks : TableListed (evalConditions (resetBlocks s)) := tableListed_evalConditions (h.of_conds rfl)
  exact tableListed_carried.refresh _ (tableListed_carried.switchTest hblocks)

theorem tableListed_commission {s : State} (h : TableListed s) : TableListed (commission s) :=
  (tableListed_carried.modeTaken (fun m cause _ => tableListed_changeMode m cause) h).of_conds rfl

theorem acknowledged_key (now : Nat) (e : CondEntry) :
    (e.acknowledged now).name = e.name ∧ (e.acknowledged now).subject = e.subject := by
  unfold CondEntry.acknowledged
  split <;> exact ⟨rfl, rfl⟩

theorem tableListed_clearLatches (name : CondName) (subject : Option Nat) {s : State} (h : TableListed s) :
    TableListed (clearLatches name subject s) := by
  refine h.evaluated (fun e => if isNamed name subject e then e.acknowledged s.now else e) (fun e => ?_) rfl
  split
  · exact acknowledged_key s.now e
  · exact ⟨rfl, rfl⟩

@[simp] theorem driveTests_conds (s : State) : (driveTests s).conds = s.conds := by
  unfold driveTests jamTest rockSucceeds
  split
  case h_1 =>
    split <;> rfl
  case h_3 | h_4 =>
    split <;> simp
  all_goals rfl

@[simp] theorem pressurePart_conds (a : SpoilArgs) (s : State) : (pressurePart a s).conds = s.conds := by
  unfold pressurePart
  simp only
  split
  · simp
  · split <;> simp

@[simp] theorem beltPart_conds (counter : Nat) (s : State) : (beltPart counter s).conds = s.conds := by
  unfold beltPart
  split
  · rfl
  · simp only
    split <;> rfl

theorem effect_keeps_tableListed {c : Instr} {u v : State} (he : Effect c u v) (h : TableListed u) :
    TableListed v := by
  cases c
  case resetInput ms =>
    obtain rfl | rfl := he
    · exact h
    · exact tableListed_warmReset h
  case warmReset p => exact acts_warmReset he ▸ tableListed_warmReset h
  case revolutionIndexPulse ms =>
    obtain rfl | ⟨-, rfl⟩ := he
    · exact h
    · exact h.of_conds rfl
  case driveReport p =>
    obtain ⟨a, rfl⟩ := acts_driveReport he
    exact h.of_conds (by simp)
  case cutterStart p =>
    obtain ⟨-, n, rfl⟩ | ⟨-, -, -, -, d, n, rfl⟩ := acts_cutterStart he <;> exact h.of_conds rfl
  case cutterSpeed p =>
    obtain ⟨-, n, rfl⟩ := acts_cutterSpeed he
    exact h.of_conds rfl
  case cutterStop p => exact acts_cutterStop he ▸ h.of_conds (by simp)
  case cutterRock p =>
    obtain ⟨-, -, -, -, rfl⟩ := acts_cutterRock he
    exact h.of_conds rfl
  case motorReadmit p =>
    obtain ⟨i, -, -, rfl⟩ := acts_motorReadmit he
    exact h.of_conds rfl
  case spoilReport p =>
    obtain ⟨a, rfl⟩ := acts_spoilReport he
    exact h.of_conds (by simp [spoilTaken])
  case constantsWrite p =>
    obtain ⟨k, -, rfl⟩ := acts_constantsWrite he
    have hk : TableListed (installConstants k u) := h.of_conds rfl
    split
    · exact tableListed_commission hk
    · exact hk
  case haltClear p =>
    obtain ⟨hmode, -, rfl⟩ := acts_haltClear he
    exact tableListed_carried.haltCleared (fun m cause _ _ _ => tableListed_changeMode m cause) hmode h
  case profileWrite p =>
    obtain ⟨i, q, -, -, -, rfl⟩ := acts_profileWrite he
    exact h.of_conds rfl
  case conditionAck p =>
    obtain ⟨name, subject, rfl⟩ := acts_conditionAck he
    refine tableListed_clearLatches name subject ?_
    unfold clearTrip
    split
    · exact tableListed_evalConditions (h.of_conds (by simp))
    · exact h
  case estimateLossExpiry | rampStep | indexWatchExpiry | jamTimerExpiry | reversePhaseExpiry | forwardPhaseExpiry =>
    obtain ⟨-, rfl⟩ := he
    exact h.of_conds (by simp [rampStep, loseIndex, beginForward, rockFails])
  case deviationTimerExpiry i =>
    obtain ⟨-, rfl⟩ := he
    exact h.of_conds (by simp [removeMotor, setMotor])
  case doseTake p =>
    obtain ⟨i, rfl⟩ := acts_doseTake he
    exact h.of_conds rfl
  case doseClose p =>
    obtain ⟨a, i, d, -, rfl⟩ := acts_doseClose he
    exact h.of_conds rfl
  case lineState p =>
    obtain ⟨i, x, k, rfl⟩ := acts_lineState he
    exact h.of_conds rfl
  case powerOn | supplyLoss | planBlankCheck | planVerify | planStatus | read | unknownRequest => exact he.elim
  all_goals exact tableListed_carried.effect he rfl h

theorem SameRecords.derivedFollow {p : Option Port} {s t : State} (h : SameRecords p s t) (hs : DerivedFollow s) :
    DerivedFollow t where
  permits := by rw [h.permits, h.permitsOf, hs.permits]
  keys := by rw [h.conds, hs.keys]
  levels := by
    intro e he
    rw [h.level, h.classOf]
    exact hs.levels e (h.conds ▸ he)

theorem Closes.derivedFollow {v t : State} (h : Closes v t) (hv : TableListed v) : DerivedFollow t where
  permits := h.permits
  keys := hv.evaluated (t := t) _ (evalEntry_key t) h.conds
  levels := by
    intro e he
    rw [h.conds] at he
    obtain ⟨e', -, rfl⟩ := List.mem_map.mp he
    exact ⟨rfl, rfl⟩

/-- The condition table and the permits that a power-on forms are read of the blocks alone. -/
theorem derivedFollow_powerUp (failed : StoredFailures) (s : State) : DerivedFollow (powerUp failed s) where
  permits := (SameInputs.permitsOf (s := blocksAtPowerOn failed s) ⟨_, _, _, _, _, rfl⟩).symm ▸ rfl
  keys := by simp [powerUp, entryAtPowerOn, Function.comp_def]
  levels := by
    intro e he
    obtain ⟨k, -, rfl⟩ := List.mem_map.mp he
    have hsame : SameInputs (blocksAtPowerOn failed s) (powerUp failed s) := ⟨_, _, _, _, _, rfl⟩
    exact ⟨(hsame.level _ _).symm, (hsame.classOf _ _).symm⟩

/-- Settles O5. -/
theorem permitsAndConditionsFollow : Obligations.PermitsAndConditionsFollow :=
  step_keeps (fun _ _ _ h => h.derivedFollow) (fun failed s _ => derivedFollow_powerUp failed s)
    (fun _ _ _ he hs => effect_keeps_tableListed he hs.keys) fun _ _ h => h.derivedFollow

end Sys2Proof.Machine

/-! The screw stays held (R125, R126, R128) and its integrator bounded (R11, R123). -/

namespace Sys2Proof.Machine

set_option Elab.async false

/-- The setpoint of a LOST estimate is limited (R125). -/
def LostLimited (s : State) : Prop :=
  s.chamber.status = .lost → s.chamber.setpoint ≤ (activeProfile s).standstillCeiling

/-- The gate may open exactly when the part is commissioned and the estimate is not LOST (R128). -/
def GateFollows (s : State) : Prop := s.chamber.gateAllowed = (commissioned s && s.chamber.status ≠ .lost)

/-- From `s` to `t` the laws of the screw are kept, that of the gate where `gated` says so. -/
structure ScrewKept (gated : Prop) (s t : State) : Prop where
  lost    : LostLimited s → LostLimited t
  bounded : IntegratorBounded s → IntegratorBounded t
  gate    : gated → GateFollows s → GateFollows t

section
variable {gated : Prop} {s t u : State}

theorem ScrewKept.trans (h : ScrewKept gated s t) (h' : ScrewKept gated t u) : ScrewKept gated s u :=
  ⟨h'.lost ∘ h.lost, h'.bounded ∘ h.bounded, fun g => h'.gate g ∘ h.gate g⟩

theorem ScrewKept.refl (s : State) : ScrewKept gated s s := ⟨id, id, fun _ => id⟩

/-- The laws read the screw, the profile in force and whether the part is commissioned. -/
theorem ScrewKept.of_frame (hstatus : t.chamber.status = s.chamber.status)
    (hset : t.chamber.setpoint ≤ s.chamber.setpoint) (hgate : t.chamber.gateAllowed = s.chamber.gateAllowed)
    (hint : t.chamber.integrator = s.chamber.integrator)
    (hsnap : t.chamber.snapshot = s.chamber.snapshot ∨ t.chamber.snapshot = some s.chamber.integrator)
    (hp : activeProfile t = activeProfile s) (hcom : gated → commissioned t = commissioned s) :
    ScrewKept gated s t where
  lost h e := by
    rw [hp]
    exact hset.trans (h (hstatus ▸ e))
  bounded h := by
    refine ⟨by rw [hint, hp]; exact h.integrator, fun v hv => ?_⟩
    rw [hp]
    obtain e | e := hsnap
    · exact h.snapshot v (e ▸ hv)
    · rw [e] at hv
      exact Option.some.inj hv ▸ h.integrator
  gate g h := by
    unfold GateFollows at *
    rw [hgate, hcom g, hstatus, h]

theorem ScrewKept.of_same (hc : t.chamber = s.chamber) (hp : activeProfile t = activeProfile s)
    (hcom : gated → commissioned t = commissioned s) : ScrewKept gated s t :=
  .of_frame (by rw [hc]) (by rw [hc]) (by rw [hc]) (by rw [hc]) (.inl (by rw [hc])) hp hcom

theorem activeProfile_of_store (h : t.store = s.store) : activeProfile t = activeProfile s := by
  simp [activeProfile, h]

theorem commissioned_of_modes (h : t.modes = s.modes) : commissioned t = commissioned s := by
  simp [commissioned, h]

/-- The snapshot taken where RUNNING is left (R127). -/
theorem screwKept_of_snapshot
    (h : t.chamber = s.chamber ∨ t.chamber = { s.chamber with snapshot := some s.chamber.integrator })
    (hstore : t.store = s.store) (hmodes : t.modes = s.modes) : ScrewKept gated s t := by
  have hp := activeProfile_of_store hstore
  have hcom := fun _ : gated => commissioned_of_modes hmodes
  obtain e | e := h
  · exact .of_same e hp hcom
  · exact .of_frame (by rw [e]) (by rw [e]) (by rw [e]) (by rw [e]) (.inr (by rw [e])) hp hcom

end

section
variable {gated : Prop} (s : State)

theorem screwKept_forcedStop : ScrewKept gated s (forcedStop s) :=
  screwKept_of_snapshot (forcedStop_chamber s) (by simp) (by simp)

theorem screwKept_enterRest (r : RunState) : ScrewKept gated s (enterRest r s) :=
  screwKept_of_snapshot (leaveIfRunning_chamber s) (by simp) (by simp)

theorem screwKept_stopIfMotorsLow : ScrewKept gated s (stopIfMotorsLow s) := by
  obtain ⟨-, e⟩ | ⟨-, e⟩ := stopIfMotorsLow_cases s
  · rw [e]
    exact .refl s
  · rw [e]
    exact screwKept_forcedStop s

/-- The gate's law is kept by a change of mode that leaves the part commissioned as it was. -/
theorem screwKept_changeMode (m : Mode) (cause : ModeCause)
    (hcom : gated → s.modes.mode ≠ .uncommissioned ∧ m ≠ .uncommissioned) :
    ScrewKept gated s (changeMode m cause s) := by
  have hentered : ScrewKept gated s
      { s with modes := { s.modes with mode := m, haltOutput := m = .halted, cause } } :=
    .of_same rfl rfl fun g => by simp [commissioned, hcom g]
  obtain ⟨e, -⟩ | ⟨-, t, rfl, ⟨-, e⟩ | ⟨-, e⟩⟩ := changeMode_cases m cause s
  · rw [e]
    exact .refl s
  · rw [e]
    exact hentered.trans (.of_same rfl rfl fun _ => rfl)
  · rw [e]
    exact (hentered.trans (screwKept_forcedStop _)).trans (.of_same rfl rfl fun _ => rfl)

theorem screwKept_refresh : ScrewKept gated s (refresh s) := by
  have hset : (refresh s).chamber.setpoint ≤ s.chamber.setpoint := by
    rw [refresh_chamber]
    split
    · exact min_le_left _ _
    · exact le_rfl
  exact .of_frame (by simp) hset (by simp) (by simp) (.inl (by simp)) (activeProfile_of_store (by simp))
    fun _ => commissioned_of_modes (by simp)

/-- R11: integrator and snapshot are clamped to the new screw maximum, the setpoint of a LOST estimate to the new ceiling. -/
theorem screwKept_screwAtSwitch (n : Fin 4) :
    ScrewKept gated s (screwAtSwitch { s with store := { s.store with active := n, pendingProfile := none } }) := by
  have hsnap : ∀ (o : Option Nat) (top v : Nat), (o.map fun w => min w top) = some v → v ≤ top := by
    intro o top v hv
    obtain ⟨w, -, rfl⟩ := Option.map_eq_some_iff.mp hv
    exact min_le_right _ _
  unfold screwAtSwitch
  simp only
  split
  · exact ⟨fun _ _ => min_le_right _ _, fun _ => ⟨min_le_right _ _, hsnap _ _⟩, fun _ h => h⟩
  · rename_i hlost
    exact ⟨fun _ e => absurd e hlost, fun _ => ⟨min_le_right _ _, hsnap _ _⟩, fun _ h => h⟩

theorem screwKept_switchUnits (n : Fin 4) : ScrewKept gated s (switchUnits n s) := by
  refine (screwKept_screwAtSwitch s n).trans (.trans ?_ (screwKept_stopIfMotorsLow _))
  exact .of_same rfl rfl fun _ => rfl

theorem screwKept_carried : Carried (ScrewKept gated s) where
  minor := fun h hm => h.trans (.of_same hm.chamber hm.profile fun _ => hm.commissioned)
  refresh := fun t h => h.trans (screwKept_refresh t)
  closure := fun t h => h.trans
    (.of_same (by simp) (activeProfile_of_store (by simp)) fun _ => commissioned_of_modes (by simp))
  judge := fun t h => h.trans (.of_same rfl rfl fun _ => rfl)
  switch := fun n t _ h => h.trans (screwKept_switchUnits t n)
  mode := fun m cause t hs _ hm h => h.trans (screwKept_changeMode t m cause fun _ => ⟨hs, hm⟩)

/-! ## The commands of the screw and the cutterhead -/

/-- A warm reset clears the setpoint and closes the gate, and keeps the integrator as the snapshot (R134). -/
theorem screwKept_warmReset : ScrewKept gated s (warmReset s) := by
  have hblocks : ScrewKept gated s (evalConditions (resetBlocks s)) := by
    refine ⟨fun _ _ => Nat.zero_le _, fun h => ⟨h.integrator, fun v hv => ?_⟩, fun _ _ => ?_⟩
    · obtain rfl : s.chamber.integrator = v := Option.some.inj hv
      exact h.integrator
    · simp [GateFollows, resetBlocks, Chamber.reset]
  exact (screwKept_carried s).refresh _ ((screwKept_carried s).switchTest hblocks)

/-- The snapshot goes back into the integrator (R127). -/
theorem screwKept_enterRunning : ScrewKept gated s (enterRunning s) where
  lost h := h
  gate _ h := h
  bounded h := by
    refine ⟨?_, fun v hv => Option.noConfusion rfl (heq_of_eq hv)⟩
    show s.chamber.snapshot.getD s.chamber.integrator ≤ _
    cases hsnap : s.chamber.snapshot with
    | none => exact h.integrator
    | some v => exact h.snapshot v hsnap

theorem screwKept_driveTests : ScrewKept gated s (driveTests s) := by
  have hjam : ∀ t : State, ScrewKept gated t (jamTest t) := fun t => .of_same rfl rfl fun _ => rfl
  unfold driveTests
  split
  case h_1 =>
    refine .trans ?_ (hjam _)
    split
    · exact screwKept_enterRunning s
    · exact .refl s
  case h_2 => exact .of_same rfl rfl fun _ => rfl
  case h_3 =>
    split
    · exact screwKept_enterRest s _
    · exact .refl s
  case h_4 =>
    split
    · exact (screwKept_enterRest s .stopped).trans (.of_same rfl rfl fun _ => rfl)
    · exact .refl s
  all_goals exact .refl s

theorem clampNat_le (x : Int) (top : Nat) : clampNat x top ≤ top := by
  unfold clampNat
  omega

theorem integrate_le (h : s.chamber.integrator ≤ 1000 * (activeProfile s).screwMax) :
    integrate s ≤ 1000 * (activeProfile s).screwMax := by
  unfold integrate
  simp only
  split_ifs
  · exact h
  · exact h
  · exact clampNat_le _ _

theorem screwKept_loseEstimate : ScrewKept gated s (loseEstimate s) := by
  refine .trans ?_ (screwKept_forcedStop _)
  exact ⟨fun _ _ => min_le_right _ _, fun h => ⟨h.integrator, h.snapshot⟩, fun _ _ => rfl⟩

theorem estimateOf_current {values : List Int} {v : Int} {status : EstimateStatus}
    (h : estimateOf values = some (v, status)) : status ≠ .lost := by
  unfold estimateOf at h
  split at h <;> simp_all <;> simp [← h.2]

/-- What the transducers read bears on none of the laws. -/
theorem screwKept_read (c : Chamber) (hstatus : c.status = s.chamber.status) (hset : c.setpoint = s.chamber.setpoint)
    (hgate : c.gateAllowed = s.chamber.gateAllowed) (hint : c.integrator = s.chamber.integrator)
    (hsnap : c.snapshot = s.chamber.snapshot) : ScrewKept gated s { s with chamber := c } :=
  .of_frame hstatus (le_of_eq hset) hgate hint (.inl hsnap) rfl fun _ => rfl

theorem screwKept_pressurePart (a : SpoilArgs) : ScrewKept gated s (pressurePart a s) := by
  unfold pressurePart
  simp only
  split
  · rename_i value status he
    have hstatus := estimateOf_current he
    exact ⟨fun _ e => absurd e hstatus, fun h => ⟨integrate_le (updateGate _) h.integrator, h.snapshot⟩, fun _ _ => rfl⟩
  · have hread : ScrewKept gated s
        { s with chamber :=
          { s.chamber with
            transducers := Vector.ofFn (readTransducer s a)
            validCount := (referredValues (Vector.ofFn (readTransducer s a))).length } } :=
      screwKept_read s _ rfl rfl rfl rfl rfl
    split
    · exact hread
    · exact hread.trans (screwKept_loseEstimate _)

theorem beltPart_chamber (counter : Nat) : (beltPart counter s).chamber.status = s.chamber.status ∧
    (beltPart counter s).chamber.setpoint = s.chamber.setpoint ∧
    (beltPart counter s).chamber.gateAllowed = s.chamber.gateAllowed ∧
    (beltPart counter s).chamber.integrator = s.chamber.integrator ∧
    (beltPart counter s).chamber.snapshot = s.chamber.snapshot := by
  unfold beltPart
  split
  · and_intros <;> rfl
  · simp only
    split <;> (and_intros <;> rfl)

theorem screwKept_beltPart (counter : Nat) : ScrewKept gated s (beltPart counter s) := by
  obtain ⟨hstatus, hset, hgate, hint, hsnap⟩ := beltPart_chamber s counter
  have hbelt := beltPart_alters counter s
  exact .of_frame hstatus (le_of_eq hset) hgate hint (.inl hsnap) (activeProfile_of_store (hbelt.store (by simp)))
    fun _ => commissioned_of_modes (hbelt.modes (by simp))

theorem screwKept_spoilTaken (a : SpoilArgs) : ScrewKept gated s (spoilTaken a s) := by
  have hread : ScrewKept gated s
      { s with chamber := { s.chamber with lastReport := some s.now, screwActual := a.screw, gate := a.gate } } :=
    screwKept_read s _ rfl rfl rfl rfl rfl
  exact (hread.trans (screwKept_pressurePart _ a)).trans (screwKept_beltPart _ a.belt)

/-- The part becomes commissioned, and the gate follows at its end (R5, R128). -/
theorem screwKept_commission : ScrewKept True s (commission s) := by
  have hentered : ScrewKept False s (modeTaken s) :=
    (screwKept_carried s).modeTaken (fun m cause t h => h.trans (screwKept_changeMode t m cause False.elim)) (.refl s)
  exact ⟨fun h => hentered.lost h, fun h => ⟨(hentered.bounded h).integrator, (hentered.bounded h).snapshot⟩,
    fun _ _ => rfl⟩

end

theorem effect_keeps_screw {c : Instr} {u v : State} (he : Effect c u v) : ScrewKept True u v := by
  have hkeeps := effect_alters_chamber he
  have hother : v.chamber = u.chamber → Block.store ∉ mayChange c → Block.modes ∉ mayChange c → ScrewKept True u v :=
    fun hch hstore hmodes => .of_same hch (activeProfile_of_store (hkeeps.store (by simpa using hstore)))
      fun _ => commissioned_of_modes (hkeeps.modes (by simpa using hmodes))
  cases c
  case resetInput ms =>
    obtain rfl | rfl := he
    · exact .refl _
    · exact screwKept_warmReset u
  case warmReset p => exact acts_warmReset he ▸ screwKept_warmReset u
  case driveReport p =>
    obtain ⟨a, rfl⟩ := acts_driveReport he
    have hrecorded : ScrewKept True u (updateTorque { u with cutter := recordReport a u.cutter }) :=
      .of_same rfl rfl fun _ => rfl
    exact (hrecorded.trans (screwKept_stopIfMotorsLow _)).trans (screwKept_driveTests _)
  case cutterStop p => exact acts_cutterStop he ▸ screwKept_forcedStop u
  case spoilReport p =>
    obtain ⟨a, rfl⟩ := acts_spoilReport he
    exact screwKept_spoilTaken u a
  case constantsWrite p =>
    obtain ⟨k, -, rfl⟩ := acts_constantsWrite he
    have hk : ScrewKept True u (installConstants k u) := .of_same rfl rfl fun _ => rfl
    split
    · exact hk.trans (screwKept_commission _)
    · exact hk
  case haltClear p =>
    obtain ⟨hmode, -, rfl⟩ := acts_haltClear he
    exact (screwKept_carried u).haltCleared
      (fun m cause t hs hm h => h.trans (screwKept_changeMode t m cause fun _ => ⟨hs, hm⟩)) hmode (.refl u)
  case profileWrite p =>
    obtain ⟨i, q, hi, -, -, rfl⟩ := acts_profileWrite he
    exact .of_same rfl (activeProfile_setProfile hi q) fun _ => rfl
  case estimateLossExpiry =>
    obtain ⟨-, rfl⟩ := he
    exact screwKept_loseEstimate u
  case deviationTimerExpiry i =>
    obtain ⟨-, rfl⟩ := he
    refine .trans ?_ (screwKept_stopIfMotorsLow _)
    exact .of_same rfl rfl fun _ => rfl
  case jamTimerExpiry =>
    obtain ⟨-, rfl⟩ := he
    exact screwKept_enterRest u _
  case powerOn | supplyLoss | planBlankCheck | planVerify | planStatus | read | unknownRequest => exact he.elim
  case revolutionIndexPulse | cutterStart | cutterSpeed | cutterRock | motorReadmit | doseTake | doseClose | lineState |
      conditionAck | rampStep | indexWatchExpiry | reversePhaseExpiry | forwardPhaseExpiry =>
    exact hother ((effect_alters he).chamber (by simp [mayGrant, mayChange])) (by simp [mayChange]) (by simp [mayChange])
  all_goals exact (screwKept_carried u).effect he rfl (.refl u)

theorem SameRecords.screwHeld {p : Option Port} {s t : State} (h : SameRecords p s t) (hs : ScrewHeld s) :
    ScrewHeld t := by
  have hp := activeProfile_of_store h.store
  refine ⟨by rw [h.permits, h.permitsOf, hs.permits], ?_, ?_, ?_⟩
  · rw [h.chamber, hp]
    exact hs.lost
  · rw [standstillLimit, h.chamber, h.cutter, h.permits, hp]
    exact hs.standstill
  · rw [h.chamber, commissioned_of_modes h.modes]
    exact hs.gate

theorem Closes.screw {v t : State} (h : Closes v t) : t.chamber.setpoint ≤ v.chamber.setpoint ∧
    (standstillLimit t = true → t.chamber.setpoint ≤ (activeProfile t).standstillCeiling) := by
  rw [h.chamber]
  split
  · exact ⟨min_le_left _ _, fun _ => min_le_right _ _⟩
  · exact ⟨le_rfl, fun e => absurd e ‹_›⟩

theorem Closes.screwKept {v t : State} (h : Closes v t) : ScrewKept True v t := by
  have hsame : t.chamber.status = v.chamber.status ∧ t.chamber.gateAllowed = v.chamber.gateAllowed ∧
      t.chamber.integrator = v.chamber.integrator ∧ t.chamber.snapshot = v.chamber.snapshot := by
    rw [h.chamber]
    split <;> (and_intros <;> rfl)
  obtain ⟨hstatus, hgate, hint, hsnap⟩ := hsame
  exact .of_frame hstatus h.screw.1 hgate hint (.inl hsnap) (activeProfile_of_store h.inputs.store)
    fun _ => commissioned_of_modes h.inputs.modes

theorem Closes.screwHeld {v t : State} (h : Closes v t) (hv : LostLimited v ∧ GateFollows v) : ScrewHeld t :=
  ⟨h.permits, h.screwKept.lost hv.1, h.screw.2, h.screwKept.gate trivial hv.2⟩

theorem screwHeld_powerUp (failed : StoredFailures) (s : State) : ScrewHeld (powerUp failed s) :=
  ⟨(derivedFollow_powerUp failed s).permits, fun _ => Nat.zero_le _, fun _ => Nat.zero_le _, by
    simp [powerUp, blocksAtPowerOn, Chamber.initial]⟩

/-- Settles O6. -/
theorem screwStaysHeld : Obligations.ScrewStaysHeld :=
  ⟨step_keeps (fun _ _ _ h => h.screwHeld) (fun failed s _ => screwHeld_powerUp failed s)
      (fun _ _ _ he hs => ⟨(effect_keeps_screw he).lost hs.lost, (effect_keeps_screw he).gate trivial hs.gate⟩)
      fun _ _ h => h.screwHeld,
    step_keeps
      (fun _ _ _ h hs => by
        refine ⟨?_, fun v hv => ?_⟩ <;> rw [activeProfile_of_store h.store]
        · exact h.chamber ▸ hs.integrator
        · exact hs.snapshot v (h.chamber ▸ hv))
      (fun failed s _ => ⟨Nat.zero_le _, fun v hv => Option.noConfusion rfl (heq_of_eq hv)⟩)
      (fun _ _ _ he => (effect_keeps_screw he).bounded) fun _ _ h => h.screwKept.bounded⟩

end Sys2Proof.Machine

/-! The largest remainder distribution (R97). -/

namespace Sys2Proof.Machine

set_option Elab.async false

open Finset in
/-- Ranks that count the members before each member, under an order that is total on `A`, run through 0 … |A| − 1. -/
theorem card_rank_lt {n : Nat} (A : Finset (Fin n)) (before : Fin n → Fin n → Bool)
    (irrefl : ∀ i, before i i = false) (trans : ∀ i j k, before i j = true → before j k = true → before i k = true)
    (total : ∀ i j, i ≠ j → before i j = true ∨ before j i = true) {L : Nat} (hL : L ≤ #A) :
    #{i ∈ A | #{j ∈ A | before j i = true} < L} = L := by
  have hlt : ∀ i j, i ∈ A → before i j = true → #{k ∈ A | before k i = true} < #{k ∈ A | before k j = true} := by
    intro i j hi hij
    refine card_lt_card ⟨fun k hk => ?_, fun hsub => ?_⟩
    · rw [mem_filter] at hk ⊢
      exact ⟨hk.1, trans _ _ _ hk.2 hij⟩
    · have hself := (mem_filter.mp (hsub (mem_filter.mpr ⟨hi, hij⟩))).2
      simp [irrefl] at hself
  have hinj : Set.InjOn (fun i => #{j ∈ A | before j i = true}) A := by
    intro i hi j hj e
    by_contra hne
    obtain h | h := total i j hne
    · exact absurd e (hlt i j hi h).ne
    · exact absurd e (hlt j i hj h).ne'
  have himage : A.image (fun i => #{j ∈ A | before j i = true}) = range #A := by
    refine eq_of_subset_of_card_le (fun r hr => ?_) (by rw [card_image_of_injOn hinj, card_range])
    obtain ⟨i, hi, rfl⟩ := mem_image.mp hr
    refine mem_range.mpr (card_lt_card ⟨filter_subset _ _, fun hsub => ?_⟩)
    simpa [irrefl] using (mem_filter.mp (hsub hi)).2
  calc #{i ∈ A | #{j ∈ A | before j i = true} < L}
      = #({i ∈ A | #{j ∈ A | before j i = true} < L}.image fun i => #{j ∈ A | before j i = true}) :=
        (card_image_of_injOn (hinj.mono (filter_subset _ _))).symm
    _ = #{r ∈ A.image (fun i => #{j ∈ A | before j i = true}) | r < L} := by rw [filter_image]
    _ = #(range L) := by
        congr 1
        ext r
        simp only [himage, mem_filter, mem_range]
        omega
    _ = L := card_range L

theorem sum_toList_eq_sum {α : Type} [AddCommMonoid α] {n : Nat} (v : Vector α n) :
    v.toList.sum = ∑ i : Fin n, v[i] := by
  rw [toList_eq_map_finRange, Fin.sum_univ_def]

theorem sumNat_eq_sum (v : Vector Nat 6) : sumNat v = ∑ i : Fin 6, v[i] := sum_toList_eq_sum v

theorem sumInt_eq_sum (v : Vector Int 6) : sumInt v = ∑ i : Fin 6, v[i] := sum_toList_eq_sum v

section
variable (shares : Vector Nat 6) (m : Nat)

/-- Of two recipients the one with the larger remainder, or with the lower number among equal ones, comes first (R97). -/
def servedBefore (j i : Fin 6) : Bool :=
  remPart shares m i < remPart shares m j || (remPart shares m i == remPart shares m j && j < i)

theorem servedBefore_iff (j i : Fin 6) : servedBefore shares m j i = true ↔
    remPart shares m i < remPart shares m j ∨ (remPart shares m i = remPart shares m j ∧ j < i) := by
  simp [servedBefore]

theorem portions_get (i : Fin 6) : (portions shares m)[i] = if shares[i] = 0 then 0
    else basePart shares m i + (if rankOf shares m i < leftOver shares m then 1 else 0) := by
  simp [portions]

/-- The lines that have a share. -/
def recipients : Finset (Fin 6) := {i | 0 < shares[i]}

theorem rankOf_eq_card (i : Fin 6) :
    rankOf shares m i = (Finset.filter (fun j => servedBefore shares m j i = true) (recipients shares)).card := by
  rw [recipients, Finset.filter_filter, rankOf, List.countP_eq_length_filter]
  have hp : (fun j : Fin 6 => decide (0 < shares[j]) && (decide (remPart shares m i < remPart shares m j) ||
      (remPart shares m i == remPart shares m j && decide (j < i)))) =
      fun j => decide (0 < shares[j] ∧ servedBefore shares m j i = true) := by
    funext j
    simp [servedBefore, Bool.decide_and, beq_eq_decide]
  rw [hp]
  rfl

theorem rankOf_lt_of_before {i j : Fin 6} (hi : shares[i] ≠ 0) (h : servedBefore shares m i j = true) :
    rankOf shares m i < rankOf shares m j := by
  rw [rankOf_eq_card, rankOf_eq_card]
  refine Finset.card_lt_card ⟨fun k hk => ?_, fun hsub => ?_⟩
  · simp only [Finset.mem_filter, servedBefore_iff] at hk h ⊢
    refine ⟨hk.1, ?_⟩
    omega
  · have hself : i ∈ recipients shares := by simpa [recipients, Nat.pos_iff_ne_zero] using hi
    have := (Finset.mem_filter.mp (hsub (Finset.mem_filter.mpr ⟨hself, h⟩))).2
    rw [servedBefore_iff] at this
    omega

variable (hS : sumNat shares ≠ 0)
include hS

/-- What is left over after the rounded-down parts makes up the remainders, and is less than the number of recipients. -/
theorem leftOver_lt : leftOver shares m + ∑ i, basePart shares m i = m ∧ leftOver shares m < (recipients shares).card := by
  have hpos : 0 < sumNat shares := Nat.pos_of_ne_zero hS
  have hsum : sumNat shares * ∑ i, basePart shares m i + ∑ i, remPart shares m i = sumNat shares * m := by
    calc sumNat shares * ∑ i, basePart shares m i + ∑ i, remPart shares m i
        = ∑ i : Fin 6, m * shares[i] := by
          rw [Finset.mul_sum, ← Finset.sum_add_distrib]
          exact Finset.sum_congr rfl fun i _ => Nat.div_add_mod _ _
      _ = sumNat shares * m := by rw [← Finset.mul_sum, ← sumNat_eq_sum, Nat.mul_comm]
  have hrem : ∑ i, remPart shares m i < sumNat shares * (recipients shares).card := by
    have hzero : ∀ i ∉ recipients shares, remPart shares m i = 0 := by
      intro i hi
      have hi0 : shares[i] = 0 := by simpa [recipients] using hi
      simp [remPart, hi0]
    have hne : (recipients shares).Nonempty := by
      by_contra hempty
      refine hS ?_
      rw [sumNat_eq_sum]
      refine Finset.sum_eq_zero fun i _ => ?_
      have hi : i ∉ recipients shares := by simp [Finset.not_nonempty_iff_eq_empty.mp hempty]
      simpa [recipients] using hi
    rw [← Finset.sum_subset (Finset.subset_univ (recipients shares)) fun i _ => hzero i, Nat.mul_comm,
      ← smul_eq_mul, ← Finset.sum_const]
    exact Finset.sum_lt_sum_of_nonempty hne fun i _ => Nat.mod_lt _ hpos
  have hle : ∑ i, basePart shares m i ≤ m := Nat.le_of_mul_le_mul_left (hsum ▸ Nat.le_add_right _ _) hpos
  have hleft : leftOver shares m + ∑ i, basePart shares m i = m := by
    rw [leftOver, ← Fin.sum_univ_def]
    omega
  refine ⟨hleft, ?_⟩
  have hmul : sumNat shares * leftOver shares m = ∑ i, remPart shares m i := by
    have := congrArg (sumNat shares * ·) hleft
    simp only [Nat.mul_add] at this
    omega
  exact Nat.lt_of_mul_lt_mul_left (hmul ▸ hrem)

/-- The portions sum to the amount (R97). -/
theorem sum_portions : ∑ i : Fin 6, (portions shares m)[i] = m := by
  obtain ⟨hleft, hlt⟩ := leftOver_lt shares m hS
  have hportion : ∀ i : Fin 6, (portions shares m)[i] = basePart shares m i +
      if i ∈ recipients shares ∧ rankOf shares m i < leftOver shares m then 1 else 0 := by
    intro i
    have hmem : i ∈ recipients shares ↔ shares[i] ≠ 0 := by simp [recipients, Nat.pos_iff_ne_zero]
    rw [portions_get]
    by_cases hi : shares[i] = 0
    · rw [if_pos hi, if_neg (fun e => hmem.mp e.1 hi), basePart, hi]
      simp
    · rw [if_neg hi]
      simp only [hmem.mpr hi, true_and]
  have hcard := card_rank_lt (recipients shares) (servedBefore shares m) (by simp [servedBefore])
    (by simp only [servedBefore_iff]; omega) (by simp only [servedBefore_iff]; omega) hlt.le
  rw [Finset.sum_congr rfl fun i _ => hportion i, Finset.sum_add_distrib, Finset.sum_boole]
  simp only [rankOf_eq_card]
  rw [← Finset.filter_filter, Finset.filter_univ_mem, hcard]
  simpa [Nat.add_comm] using hleft

end

theorem signedPortions_get (shares : Vector Nat 6) (a : Int) (i : Fin 6) :
    (signedPortions shares a)[i] = if a < 0 then -((portions shares a.natAbs)[i] : Int) else (portions shares a.natAbs)[i] := by
  simp [signedPortions]

theorem natAbs_signedPortions (shares : Vector Nat 6) (a : Int) (i : Fin 6) :
    (signedPortions shares a)[i].natAbs = (portions shares a.natAbs)[i] := by
  rw [signedPortions_get]
  split <;> simp

theorem portions_of_recipient {shares : Vector Nat 6} {i : Fin 6} (h : shares[i] ≠ 0) (m : Nat) :
    (portions shares m)[i] = m * shares[i] / sumNat shares + if rankOf shares m i < leftOver shares m then 1 else 0 := by
  rw [portions_get, if_neg h, basePart]

theorem signedPortions_of_no_share {shares : Vector Nat 6} {i : Fin 6} (h : shares[i] = 0) (a : Int) :
    (signedPortions shares a)[i] = 0 := by
  rw [signedPortions_get, portions_get, if_pos h]
  simp

theorem sum_signedPortions {shares : Vector Nat 6} (hS : sumNat shares ≠ 0) (a : Int) :
    ∑ i : Fin 6, (signedPortions shares a)[i] = a := by
  have hsum : ∑ i : Fin 6, ((portions shares a.natAbs)[i] : Int) = a.natAbs := by
    exact_mod_cast sum_portions shares a.natAbs hS
  simp only [signedPortions_get]
  split
  · rw [Finset.sum_neg_distrib, hsum]
    omega
  · rw [hsum]
    omega

/-- Settles O51. -/
theorem largestRemainder : Obligations.LargestRemainder := by
  intro shares a hS
  refine ⟨(sumInt_eq_sum _).trans (sum_signedPortions hS a), fun i hi => signedPortions_of_no_share hi a,
    fun i hi => ⟨?_, fun ha => ?_, fun ha => ?_⟩, fun i j hi hj hextra hbefore => ?_⟩
  · rw [natAbs_signedPortions, portions_of_recipient hi]
    split <;> simp
  · rw [signedPortions_get, if_pos ha]
    omega
  · rw [signedPortions_get, if_neg (by omega)]
    omega
  · rw [natAbs_signedPortions, portions_of_recipient hj] at hextra
    rw [natAbs_signedPortions, portions_of_recipient hi]
    have hij : servedBefore shares a.natAbs i j = true := (servedBefore_iff _ _ _ _).mpr hbefore
    have hlt := rankOf_lt_of_before shares a.natAbs hi hij
    split at hextra
    · rw [if_pos (by omega)]
    · omega

end Sys2Proof.Machine

/-! No grout is lost or made (R35, R98, R102, R111). -/

namespace Sys2Proof.Machine

set_option Elab.async false

/-! ## The debt -/

/-- What a line has in the debt: its carry and the targets it owes (R111). -/
def Line.weight (l : Line) : Int := l.carry + (l.owed : Int)

theorem debtOf_eq_sum (g : Grout) : debtOf g = ∑ i : Fin 6, g.lines[i].weight + g.pool := by
  rw [debtOf, toList_eq_map_finRange, List.map_map, Fin.sum_univ_def]
  rfl

theorem debtOf_setLine (g : Grout) (i : Fin 6) (l : Line) :
    debtOf (g.setLine i l) = debtOf g - g.lines[i].weight + l.weight := by
  have hline : ∀ j : Fin 6, (g.setLine i l).lines[j].weight = if j = i then l.weight else g.lines[j].weight := by
    intro j
    by_cases h : j = i
    · subst h
      simp [Grout.setLine]
    · have hne : i.val ≠ j.val := fun e => h (Fin.ext e).symm
      simp [Grout.setLine, h, hne]
  have hrest : ∀ f : Fin 6 → Int, ∑ j, f j = f i + ∑ j ∈ Finset.univ.erase i, f j := fun f =>
    (Finset.add_sum_erase _ f (Finset.mem_univ i)).symm
  rw [debtOf_eq_sum, debtOf_eq_sum, hrest fun j => (g.setLine i l).lines[j].weight, hrest fun j => g.lines[j].weight,
    Finset.sum_congr rfl fun j hj => (hline j).trans (if_neg (Finset.ne_of_mem_erase hj)), hline, if_pos rfl]
  show l.weight + _ + g.pool = _
  ring

/-- A spread moves the amount into the debt, to other lines or to the pool (R97, R100). -/
theorem debtOf_spreadOver (p : Profile) (line : Fin 6) (a : Int) (g : Grout) :
    debtOf (spreadOver p line a g).1 = debtOf g + a := by
  unfold spreadOver
  simp only
  split
  · simp only [debtOf_eq_sum]
    ring
  · rename_i hS
    have hparts := sum_signedPortions hS a
    have hline : ∀ i : Fin 6, (updateEach g.lines fun i l =>
        { l with carry := l.carry + (signedPortions (recipientShares p g fun i => i ≠ line) a)[i] })[i].weight =
        g.lines[i].weight + (signedPortions (recipientShares p g fun i => i ≠ line) a)[i] := by
      intro i
      simp only [Fin.getElem_fin, getElem_updateEach, Line.weight, Line.owed]
      ring
    rw [debtOf_eq_sum, debtOf_eq_sum, Finset.sum_congr rfl fun i _ => hline i, Finset.sum_add_distrib, hparts]
    ring

theorem debtOf_moveCarry (p : Profile) (line : Fin 6) (g : Grout) : debtOf (moveCarry p line g).1 = debtOf g := by
  show debtOf (spreadOver p line g.lines[line].carry (g.setLine line { g.lines[line] with carry := 0 })).1 = _
  rw [debtOf_spreadOver, debtOf_setLine]
  simp only [Line.weight, Line.owed]
  ring

/-! ## Descriptors -/

theorem owed_of_posted {d : Descriptor} (h : d.isPosted = true) : d.owed = d.dose.target := by
  have h' : d.state = .posted := by simpa [Descriptor.isPosted] using h
  simp [Descriptor.owed, h']

theorem owed_of_taken {d : Descriptor} (h : d.isTaken = true) : d.owed = d.dose.target := by
  have h' : d.state = .taken := by simpa [Descriptor.isTaken] using h
  simp [Descriptor.owed, h']

/-- The targets of cancelled descriptors go to the carry (R109). -/
theorem weight_withdrawn (l : Line) (x : Service) : (l.withdrawn x).weight = l.weight := by
  have howed : ∀ ds : List Descriptor, ((ds.filter Descriptor.isPosted).map fun d => d.dose.target).sum +
      ((ds.filter fun d => !d.isPosted).map Descriptor.owed).sum = (ds.map Descriptor.owed).sum := by
    intro ds
    induction ds with
    | nil => rfl
    | cons d ds ih =>
      cases h : d.isPosted
      · simp [h, ← ih]
        omega
      · simp [h, ← ih, owed_of_posted h]
        omega
  have := howed l.descriptors
  simp only [Line.weight, Line.owed, Line.withdrawn]
  omega

theorem weight_take (l : Line) : l.take.weight = l.weight := by
  have howed : ∀ ds : List Descriptor,
      ((changeFirst Descriptor.isPosted .taken ds).map Descriptor.owed).sum = (ds.map Descriptor.owed).sum := by
    intro ds
    induction ds with
    | nil => rfl
    | cons d ds ih =>
      unfold changeFirst
      split
      · rename_i h
        simp only [List.map_cons, List.sum_cons, owed_of_posted h]
        rfl
      · simp [ih]
  simp [Line.weight, Line.owed, Line.take, howed]

/-- The target of the descriptor that is closed leaves the debt (R102). -/
theorem weight_close {l : Line} {d : Dose} (h : l.taken = some d) (a : DoseCloseArgs) :
    (l.close a).weight = l.weight - d.target := by
  have howed : ∀ (x : DoseState) (ds : List Descriptor), (∀ e : Dose, ({ dose := e, state := x } : Descriptor).owed = 0) →
      (ds.find? Descriptor.isTaken).map (·.dose) = some d →
      ((changeFirst Descriptor.isTaken x ds).map Descriptor.owed).sum + d.target = (ds.map Descriptor.owed).sum := by
    intro x ds hx
    induction ds with
    | nil => simp
    | cons e ds ih =>
      intro hd
      unfold changeFirst
      split
      · rename_i he
        obtain rfl : e.dose = d := by simpa [he] using hd
        simp only [List.map_cons, List.sum_cons, owed_of_taken he, hx]
        omega
      · rename_i he
        have := ih (by simpa [he] using hd)
        simp only [List.map_cons, List.sum_cons]
        omega
  have := howed (.closed a.actual a.peak a.outcome) l.descriptors (fun _ => rfl) h
  simp only [Line.weight, Line.owed, Line.close]
  omega

/-! ## The orders of a closure -/

theorem cutPieces_sum (cap free m : Nat) : (cutPieces cap free m).1.sum + (cutPieces cap free m).2 = m := by
  induction free generalizing m with
  | zero => simp [cutPieces]
  | succ n ih =>
    unfold cutPieces
    split
    · simp_all
    · have := ih (m - min cap m)
      simp only [List.sum_cons]
      omega

theorem owed_openDescriptors (l : Line) : ((openDescriptors l).map Descriptor.owed).sum = l.owed := by
  unfold openDescriptors Line.owed
  induction l.descriptors with
  | nil => rfl
  | cons d ds ih =>
    cases h : d.state <;> simp [h, ih, Descriptor.owed]

theorem owed_dosesOf (l : Line) (increment limit : Nat) (pieces : List Nat) :
    (((dosesOf l increment limit pieces).map fun dose => ({ dose, state := .posted } : Descriptor)).map
      Descriptor.owed).sum = pieces.sum := by
  have hmap : ((dosesOf l increment limit pieces).map fun dose => ({ dose, state := .posted } : Descriptor)).map
      Descriptor.owed = pieces := by
    apply List.ext_getElem <;> simp [dosesOf, Descriptor.owed]
  rw [hmap]

/-- An order is posted, or kept as the carry, to the mL (R98, R99). -/
theorem weight_orderLine (cap increment limit : Nat) (order : Int) (l : Line) :
    (orderLine cap increment limit order l).1.weight = order + l.owed := by
  unfold orderLine
  split
  · rfl
  · have hpieces := cutPieces_sum cap (4 - (openDescriptors l).length) order.toNat
    simp only [Line.weight, Line.owed, List.map_append, List.sum_append, owed_openDescriptors, owed_dosesOf]
    rw [← Line.owed]
    omega

/-- A closure brings the grout required into the debt (R98 to R100). -/
theorem debtOf_groutClosure (number required : Nat) (s : State) :
    debtOf (groutClosure number required s).grout = debtOf s.grout + required := by
  unfold groutClosure
  extract_lets p g shares targets ordered grout items t
  split
  · simp only [debtOf_eq_sum]
    ring
  · rename_i hS
    have hgrout : debtOf grout = debtOf g + required := by
      have hsum : ∑ i : Fin 6, targets[i] = required + g.pool := sum_signedPortions hS _
      have hline : ∀ i : Fin 6, grout.lines[i].weight = g.lines[i].weight + targets[i] := by
        intro i
        simp only [grout, ordered, Fin.getElem_fin, getElem_updateEach]
        split
        · rw [weight_orderLine, Line.weight]
          ring
        · rename_i hservice
          have hzero : shares[i] = 0 := by simp [shares, recipientShares, g, hservice]
          have htarget : targets[i] = 0 := signedPortions_of_no_share hzero _
          simp only [Fin.getElem_fin] at htarget
          rw [htarget]
          simp
      rw [debtOf_eq_sum, debtOf_eq_sum, Finset.sum_congr rfl fun i _ => hline i, Finset.sum_add_distrib, hsum]
      simp only [grout]
      ring
    split
    · exact hgrout
    · simpa [t] using hgrout

/-! ## Doses and lines -/

theorem debtOf_ontoCarry (p : Profile) (i : Fin 6) (a : Int) (g : Grout) :
    debtOf (ontoCarry p i a g).grout = debtOf g + a := by
  have hset : debtOf (g.setLine i { g.lines[i] with carry := g.lines[i].carry + a }) = debtOf g + a := by
    rw [debtOf_setLine]
    simp only [Line.weight, Line.owed]
    ring
  unfold ontoCarry
  simp only
  split
  · exact hset
  · exact (debtOf_moveCarry p i _).trans hset

theorem debtOf_withdrawLine (p : Profile) (i : Fin 6) (x : Service) (g : Grout) :
    debtOf (withdrawLine p i x g).grout = debtOf g := by
  show debtOf (moveCarry p i (g.setLine i (g.lines[i].withdrawn x))).1 = _
  rw [debtOf_moveCarry, debtOf_setLine, weight_withdrawn]
  ring

theorem debtOf_faultLine (p : Profile) (i : Fin 6) (a : Int) (g : Grout) :
    debtOf (faultLine p i a g).grout = debtOf g + a := by
  have hset : ∀ x : Service,
      debtOf (g.setLine i { g.lines[i] with carry := g.lines[i].carry + a, service := x }) = debtOf g + a := by
    intro x
    rw [debtOf_setLine]
    simp only [Line.weight, Line.owed]
    ring
  unfold faultLine
  simp only
  split
  · rw [debtOf_withdrawLine]
    exact hset _
  · exact (debtOf_moveCarry p i _).trans (hset _)

/-- The difference of a close goes into the debt whatever its outcome (R102 to R104). -/
theorem debtOf_settle (p : Profile) (i : Fin 6) (a : Int) (o : DoseOutcome) (g : Grout) :
    debtOf (settle p i a o g).grout = debtOf g + a := by
  unfold settle
  split
  · exact debtOf_ontoCarry p i a g
  · split
    · exact debtOf_spreadOver p i a g
    · exact debtOf_ontoCarry p i a g
  · exact debtOf_faultLine p i a g

/-- A DOSE CLOSE lets the debt fall by exactly the actual (R102, R111). -/
theorem debtOf_doseMoved {s : State} {i : Fin 6} {d : Dose} (h : s.grout.lines[i].taken = some d) (a : DoseCloseArgs) :
    debtOf (doseMoved i d.target a s).grout = debtOf s.grout - a.actual := by
  rw [doseMoved, debtOf_settle, debtOf_setLine, weight_close h]
  ring

theorem debtOf_changeService (p : Profile) (i : Fin 6) (x : Service) (g : Grout) :
    debtOf (changeService p i x g).grout = debtOf g := by
  unfold changeService
  simp only
  split
  · exact debtOf_withdrawLine p i x g
  · show debtOf (g.setLine i { g.lines[i] with service := x }) = _
    rw [debtOf_setLine]
    simp only [Line.weight, Line.owed]
    ring

theorem debtOf_lineMoved (i : Fin 6) (x : Service) (c : Capacity) (s : State) :
    debtOf (lineMoved i x c s).grout = debtOf s.grout := by
  rw [lineMoved, debtOf_changeService, debtOf_setLine]
  simp only [Line.weight, Line.owed]
  ring

/-! ## The account -/

/-- A total that has not saturated has counted the amount in full (R35). -/
theorem Total.add_of_not_saturated {t : Total} {n : Nat} (h : (t.add n).saturated = false) :
    t.saturated = false ∧ (t.add n).value = t.value + n := by
  unfold Total.add at *
  split at h
  · cases h
  · rw [if_neg ‹_›]
    exact ⟨h, rfl⟩

/-- The law reads the two totals and the debt. -/
theorem GroutConserved.of_same {s t : State} (h : GroutConserved s)
    (hreq : t.account.totals.required = s.account.totals.required)
    (hinj : t.account.totals.injected = s.account.totals.injected) (hdebt : debtOf t.grout = debtOf s.grout) :
    GroutConserved t := by
  unfold GroutConserved
  rw [hreq, hinj, hdebt]
  exact h

theorem spoilBalance_totals (s : State) : (spoilBalance s).account.totals = s.account.totals := rfl

theorem groutConserved_closureEffects {s : State} (h : GroutConserved s) : GroutConserved (closureEffects s) := by
  unfold closureEffects
  extract_lets required t
  have hreq : (groutClosure t.account.counter required t).account.totals.required =
      s.account.totals.required.add required := by
    simp [t, accountClosure, required]
  have hinj : (groutClosure t.account.counter required t).account.totals.injected = s.account.totals.injected := by
    simp [t, accountClosure]
  have hgrout : t.grout = s.grout := rfl
  refine GroutConserved.of_same (s := groutClosure t.account.counter required t) ?_ (by rw [spoilBalance_totals])
    (by rw [spoilBalance_totals]) (by simp)
  intro hr hi
  rw [hreq] at hr
  rw [hinj] at hi
  obtain ⟨hr', hvalue⟩ := Total.add_of_not_saturated hr
  rw [hreq, hinj, hvalue, debtOf_groutClosure, hgrout]
  have := h hr' hi
  push_cast
  omega

theorem groutConserved_changeMode (m : Mode) (cause : ModeCause) {s : State} (h : GroutConserved s) :
    GroutConserved (changeMode m cause s) :=
  h.of_same (by simp) (by simp) (by simp)

theorem groutConserved_carried : Carried GroutConserved where
  minor := fun h hm => h.of_same hm.required hm.injected (by rw [hm.grout])
  refresh := fun s h => h.of_same (by simp) (by simp) (by simp)
  closure := fun s h => groutConserved_closureEffects h
  judge := fun s h => h.of_same rfl rfl rfl
  switch := fun n s _ h => h.of_same (by simp [switchUnits]) (by simp [switchUnits]) (by simp [switchUnits])
  mode := fun m cause s _ _ _ h => groutConserved_changeMode m cause h

theorem groutConserved_commission {s : State} (h : GroutConserved s) : GroutConserved (commission s) :=
  (groutConserved_carried.modeTaken (fun m cause _ => groutConserved_changeMode m cause) h).of_same rfl rfl rfl

theorem groutConserved_warmReset {s : State} (h : GroutConserved s) : GroutConserved (warmReset s) := by
  have hblocks : GroutConserved (evalConditions (resetBlocks s)) := h.of_same rfl rfl rfl
  exact groutConserved_carried.refresh _ (groutConserved_carried.switchTest hblocks)

theorem groutConserved_doseShut {s : State} {i : Fin 6} {d : Dose} (hd : s.grout.lines[i].taken = some d)
    (a : DoseCloseArgs) (h : GroutConserved s) : GroutConserved (doseShut i d.target a s) := by
  intro hr hi
  obtain ⟨hi', hvalue⟩ := Total.add_of_not_saturated (t := s.account.totals.injected) hi
  have hdebt : debtOf (doseShut i d.target a s).grout = debtOf s.grout - a.actual := debtOf_doseMoved hd a
  have hinj : (doseShut i d.target a s).account.totals.injected.value = s.account.totals.injected.value + a.actual :=
    hvalue
  have hreq : (doseShut i d.target a s).account.totals.required = s.account.totals.required := rfl
  rw [hreq] at hr
  rw [hreq, hinj, hdebt]
  have := h hr hi'
  push_cast
  omega

/-- The belt part of a report counts spoil, not grout (R129). -/
theorem beltPart_account (counter : Nat) (s : State) :
    ∃ n, (beltPart counter s).account = { s.account with cycle := { s.account.cycle with measured := n } } := by
  unfold beltPart
  split
  · exact ⟨_, rfl⟩
  · simp only
    split <;> exact ⟨_, rfl⟩

theorem beltPart_totals (counter : Nat) (s : State) : (beltPart counter s).account.totals = s.account.totals := by
  obtain ⟨n, e⟩ := beltPart_account counter s
  rw [e]

theorem groutConserved_spoilTaken (a : SpoilArgs) {s : State} (h : GroutConserved s) :
    GroutConserved (spoilTaken a s) := by
  have hparts : ∀ t : State, (beltPart a.belt (pressurePart a t)).account.totals = t.account.totals := by
    intro t
    rw [beltPart_totals, (pressurePart_alters a t).account (by simp)]
  have htotals : (spoilTaken a s).account.totals = s.account.totals := hparts _
  exact h.of_same (congrArg Totals.required htotals) (congrArg Totals.injected htotals)
    (congrArg debtOf ((spoilTaken_alters a s).grout (by simp)))

theorem groutConserved_take {s : State} (h : GroutConserved s) (i : Fin 6) :
    GroutConserved { s with grout := s.grout.setLine i s.grout.lines[i].take } := by
  refine h.of_same rfl rfl ?_
  rw [debtOf_setLine, weight_take]
  ring

theorem groutConserved_installConstants {s : State} (h : GroutConserved s) (k : Constants) :
    GroutConserved (installConstants k s) :=
  h.of_same rfl rfl (congrArg debtOf (show (installConstants k s).grout = s.grout from rfl))

theorem effect_keeps_groutConserved {c : Instr} {u v : State} (he : Effect c u v) (h : GroutConserved u) :
    GroutConserved v := by
  have hkeeps := effect_alters_chamber he
  have hother : Block.account ∉ mayChange c → Block.grout ∉ mayChange c → GroutConserved v := fun ha hg =>
    h.of_same (by rw [hkeeps.account (by simpa using ha)]) (by rw [hkeeps.account (by simpa using ha)])
      (by rw [hkeeps.grout (by simpa using hg)])
  cases c
  case resetInput ms =>
    obtain rfl | rfl := he
    · exact h
    · exact groutConserved_warmReset h
  case warmReset p => exact acts_warmReset he ▸ groutConserved_warmReset h
  case spoilReport p =>
    obtain ⟨a, rfl⟩ := acts_spoilReport he
    exact groutConserved_spoilTaken a h
  case haltClear p =>
    obtain ⟨hmode, -, rfl⟩ := acts_haltClear he
    exact groutConserved_carried.haltCleared (fun m cause _ _ _ => groutConserved_changeMode m cause) hmode h
  case constantsWrite p =>
    obtain ⟨k, -, rfl⟩ := acts_constantsWrite he
    split
    · exact groutConserved_commission (groutConserved_installConstants h k)
    · exact groutConserved_installConstants h k
  case doseTake p =>
    obtain ⟨i, rfl⟩ := acts_doseTake he
    exact groutConserved_take h i
  case doseClose p =>
    obtain ⟨a, i, d, hd, rfl⟩ := acts_doseClose he
    exact groutConserved_doseShut hd a h
  case lineState p =>
    obtain ⟨i, x, k, rfl⟩ := acts_lineState he
    exact h.of_same rfl rfl (debtOf_lineMoved i x k u)
  case powerOn | supplyLoss | planBlankCheck | planVerify | planStatus | read | unknownRequest => exact he.elim
  case revolutionIndexPulse | driveReport | cutterStart | cutterSpeed | cutterStop | cutterRock | motorReadmit |
      conditionAck | rampStep | indexWatchExpiry | reversePhaseExpiry | forwardPhaseExpiry | jamTimerExpiry |
      estimateLossExpiry | deviationTimerExpiry | profileWrite =>
    exact hother (by simp [mayChange]) (by simp [mayChange])
  all_goals exact groutConserved_carried.effect he rfl h

/-- Settles O9. -/
theorem groutIsConserved : Obligations.GroutIsConserved :=
  step_keeps (fun _ _ _ h hs => hs.of_same (by rw [h.account]) (by rw [h.account]) (by rw [h.grout]))
    (fun _ _ _ _ _ => (show (0 : Int) = 0 + debtOf Grout.initial by decide))
    (fun _ _ _ => effect_keeps_groutConserved) fun _ _ h hs =>
      hs.of_same (by rw [h.inputs.account]) (by rw [h.inputs.account]) (by rw [h.inputs.grout])

end Sys2Proof.Machine

/-! The step, and the machine right after the power-on of a new part. -/

namespace Sys2Proof.Machine

set_option Elab.async false

/-- Settles O1. -/
theorem stepRunsFrontCommand : Obligations.StepRunsFrontCommand := by
  intro c rest s h
  simp [step, h]

/-- The choice among several events that are due takes one of them (log 2). -/
theorem chooseEvent_eq {l : List Instr} (h : l ≠ []) (choices : Nat) : ∃ c ∈ l, chooseEvent choices l = [c] := by
  have hlt : Config.pick choices % l.length < l.length := Nat.mod_lt _ (List.length_pos_iff.mpr h)
  exact ⟨l[Config.pick choices % l.length], List.getElem_mem hlt, by simp [chooseEvent, hlt]⟩

theorem step_of_empty_queue {s : State} (h : s.pending = []) : step s = .next (idle s) := by
  simp [step, h]

theorem dueEvents_quiet (s : State) : dueEvents (quiet s) = dueEvents s := rfl

/-- Settles O2. -/
theorem emptyQueueStep : Obligations.EmptyQueueStep := by
  intro s hs
  rw [step_of_empty_queue hs]
  have hquiet : (quiet s).powered = s.powered := rfl
  refine ⟨fun hp => ?_, fun hp hnone => ?_, fun hp hsome => ?_⟩ <;> simp only [idle, hquiet, hp, dueEvents_quiet]
  · simp
  · simp [hnone, quiet]
  · simp only [if_true]
    split
    · exact absurd ‹_› hsome
    · rename_i c hc
      exact ⟨c, by simp [hc], _, rfl⟩
    · obtain ⟨c, hc, e⟩ := chooseEvent_eq hsome s.choices
      refine ⟨c, hc, s.choices + 1, ?_⟩
      rw [← e]
      rfl

/-! ## A new part -/

theorem derivedFollow_reset : DerivedFollow State.reset :=
  ⟨by decide +kernel, by decide +kernel, by decide +kernel⟩

theorem screwHeld_reset : ScrewHeld State.reset :=
  ⟨derivedFollow_reset.permits, fun _ => Nat.zero_le _, fun _ => Nat.zero_le _, rfl⟩

theorem modeFollows_reset : ModeFollows State.reset :=
  ⟨fun h => absurd rfl h, rfl, fun h => absurd rfl h, by decide, by decide, by decide, by decide⟩

theorem holdCountsMatch_reset : HoldCountsMatch State.reset := by
  unfold HoldCountsMatch
  decide

theorem planSound_reset : PlanSound State.reset :=
  ⟨rfl, by decide, rfl, rfl, by decide +kernel⟩

theorem collectionsBounded_reset : CollectionsBounded State.reset :=
  ⟨fun p => by cases p <;> decide, by decide, by decide, by decide, by decide, by decide⟩

theorem cutterSound_reset : CutterSound State.reset := ⟨by decide, by decide, by decide, by decide⟩

theorem positionsPlaced_reset : PositionsPlaced State.reset :=
  ⟨by decide, fun h => absurd rfl h, by decide, by decide, by decide, by decide, by decide, by decide⟩

theorem releaseWithinLimit_reset : ReleaseWithinLimit State.reset := ⟨by decide +kernel, by decide +kernel⟩

/-- Settles O13. -/
theorem newPartAfterPowerOn : Obligations.NewPartAfterPowerOn := by
  refine ⟨⟨derivedFollow_reset, screwHeld_reset, ⟨Nat.zero_le _, by decide⟩, modeFollows_reset,
    holdCountsMatch_reset, fun _ _ => by decide, planSound_reset, collectionsBounded_reset, cutterSound_reset, .of_still rfl,
    releaseWithinLimit_reset, positionsPlaced_reset⟩, rfl, rfl, ?_⟩
  refine ⟨by decide, rfl, rfl, rfl, rfl, rfl, by decide, rfl, rfl, rfl, by decide, rfl, rfl, rfl, rfl, rfl, by decide,
    rfl, rfl, rfl, fun p => ?_, by decide +kernel⟩
  cases p <;> rfl

end Sys2Proof.Machine

/-! Which events leave HALTED and UNCOMMISSIONED, and which enters the latter (R5, R170, R181). -/

namespace Sys2Proof.Machine

set_option Elab.async false

/-- From `s` to `t` HALTED and UNCOMMISSIONED last, and the latter is not entered. -/
structure ModeLasts (s t : State) : Prop where
  halted : s.modes.mode = .halted → t.modes.mode = .halted
  early  : t.modes.mode = .uncommissioned ↔ s.modes.mode = .uncommissioned

theorem ModeLasts.refl (s : State) : ModeLasts s s := ⟨id, .rfl⟩

theorem ModeLasts.trans {s t u : State} (h : ModeLasts s t) (h' : ModeLasts t u) : ModeLasts s u :=
  ⟨h'.halted ∘ h.halted, h'.early.trans h.early⟩

theorem ModeLasts.of_mode {s t : State} (h : t.modes.mode = s.modes.mode) : ModeLasts s t :=
  ⟨fun e => h.trans e, by rw [h]⟩

theorem ModeLasts.of_modes {s t : State} (h : t.modes = s.modes) : ModeLasts s t := .of_mode (by rw [h])

theorem changeMode_mode (m : Mode) (cause : ModeCause) (s : State) : (changeMode m cause s).modes.mode = m := by
  obtain ⟨e, hm⟩ | ⟨-, t, rfl, ⟨-, e⟩ | ⟨-, e⟩⟩ := changeMode_cases m cause s
  · rw [e, hm]
  · rw [e]
    rfl
  · rw [e]
    simp

theorem modeLasts_carried (u : State) : Carried (ModeLasts u) where
  minor := fun h hm => h.trans (.of_mode hm.mode)
  refresh := fun s h => h.trans (.of_modes (by simp))
  closure := fun s h => h.trans (.of_modes (by simp))
  judge := fun s h => h.trans (.of_modes rfl)
  switch := fun n s _ h => h.trans (.of_modes (by simp [switchUnits]))
  mode := by
    intro m cause s hearly hhalt hm h
    refine h.trans ⟨fun e => absurd e hhalt, ?_⟩
    simp [changeMode_mode, hearly, hm]

/-- No mode that a part takes on its way is UNCOMMISSIONED. -/
theorem commissioned_carried : Carried fun s => s.modes.mode ≠ .uncommissioned where
  minor := fun h hm => hm.mode ▸ h
  refresh := fun s h => by simpa using h
  closure := fun s h => by simpa using h
  judge := fun s h => h
  switch := fun n s _ h => by simpa [switchUnits] using h
  mode := fun m cause s _ _ hm _ => by simpa [changeMode_mode] using hm

theorem enterMode_ne_uncommissioned {m : Mode} (hm : m ≠ .uncommissioned) (cause : ModeCause) (s : State) :
    (enterMode m cause s).modes.mode ≠ .uncommissioned := by
  have hchanged : (changeMode m cause s).modes.mode ≠ .uncommissioned := by rwa [changeMode_mode]
  unfold enterMode
  split
  · rename_i h
    rwa [h]
  · simp only
    split
    · exact commissioned_carried.switchTest hchanged
    · exact hchanged

theorem commission_ne_uncommissioned (s : State) : (commission s).modes.mode ≠ .uncommissioned := by
  show (modeTaken s).modes.mode ≠ _
  unfold modeTaken
  split
  · exact enterMode_ne_uncommissioned (derivedMode_ne_uncommissioned _ _) _ _
  · exact enterMode_ne_uncommissioned (by simp) _ _

theorem modeLasts_warmReset (s : State) : ModeLasts s (warmReset s) := by
  have hblocks : ModeLasts s (evalConditions (resetBlocks s)) := by
    refine ⟨fun h => ?_, ?_⟩
    · show s.modes.mode.reset = .halted
      rw [h]
      rfl
    · show s.modes.mode.reset = .uncommissioned ↔ _
      cases s.modes.mode <;> simp [Mode.reset]
  exact (modeLasts_carried s).refresh _ ((modeLasts_carried s).switchTest hblocks)

/-- Every effect keeps HALTED and UNCOMMISSIONED, but for HALT CLEAR and CONSTANTS WRITE. -/
theorem effect_modeLasts {c : Instr} {u v : State} (he : Effect c u v) (hclear : ∀ p, c ≠ .haltClear p)
    (hwrite : ∀ p, c ≠ .constantsWrite p) : ModeLasts u v := by
  have hother : Block.modes ∉ mayChange c → ModeLasts u v := fun h =>
    .of_modes ((effect_alters_chamber he).modes (by simpa using h))
  cases c
  case haltClear p => exact absurd rfl (hclear p)
  case constantsWrite p => exact absurd rfl (hwrite p)
  case resetInput ms =>
    obtain rfl | rfl := he
    · exact .refl _
    · exact modeLasts_warmReset u
  case warmReset p => exact acts_warmReset he ▸ modeLasts_warmReset u
  case powerOn | supplyLoss | planBlankCheck | planVerify | planStatus | read | unknownRequest => exact he.elim
  case revolutionIndexPulse | driveReport | cutterStart | cutterSpeed | cutterStop | cutterRock | motorReadmit |
      conditionAck | rampStep | indexWatchExpiry | reversePhaseExpiry | forwardPhaseExpiry | jamTimerExpiry |
      estimateLossExpiry | deviationTimerExpiry | profileWrite | spoilReport | doseTake | doseClose | lineState =>
    exact hother (by simp [mayChange])
  all_goals exact (modeLasts_carried u).effect he rfl (.refl u)

theorem effect_haltClear_mode {p : Port} {u v : State} (he : Effect (.haltClear p) u v) :
    u.modes.mode = .halted ∧ v.modes.mode ≠ .uncommissioned := by
  obtain ⟨hmode, -, rfl⟩ := acts_haltClear he
  exact ⟨hmode, enterMode_ne_uncommissioned (derivedMode_ne_uncommissioned _ _) _ _⟩

theorem effect_constantsWrite_mode {p : Port} {u v : State} (he : Effect (.constantsWrite p) u v) :
    (u.modes.mode = .halted → v.modes.mode = .halted) ∧
      (v.modes.mode = .uncommissioned → u.modes.mode = .uncommissioned) := by
  obtain ⟨k, hw, rfl⟩ := acts_constantsWrite he
  have hne : u.modes.mode ≠ .halted := by
    intro h
    simp [constantsWritable, h] at hw
  refine ⟨fun h => absurd h hne, ?_⟩
  split
  · exact fun _ => ‹_›
  · exact fun h => h

theorem Outcome.modes {c : Instr} {s t : State} (h : Outcome c s t) :
    (s.modes.mode = .halted → (∀ p, c ≠ .haltClear p) → t.modes.mode = .halted) ∧
    (s.modes.mode = .uncommissioned → (∀ p, c ≠ .constantsWrite p) → t.modes.mode = .uncommissioned) ∧
    (t.modes.mode = .uncommissioned → s.modes.mode = .uncommissioned) := by
  obtain ⟨hrec, -⟩ | ⟨u, v, hrec, -, he, hclose⟩ := h
  · rw [hrec.modes]
    exact ⟨fun h _ => h, fun h _ => h, id⟩
  · rw [← hrec.modes, hclose.inputs.modes]
    by_cases hclear : ∃ p, c = .haltClear p
    · obtain ⟨p, rfl⟩ := hclear
      obtain ⟨hmode, hne⟩ := effect_haltClear_mode he
      exact ⟨fun _ h => absurd rfl (h p), fun h => by simp [hmode] at h, fun h => absurd h hne⟩
    by_cases hwrite : ∃ p, c = .constantsWrite p
    · obtain ⟨p, rfl⟩ := hwrite
      obtain ⟨hhalt, hearly⟩ := effect_constantsWrite_mode he
      exact ⟨fun h _ => hhalt h, fun _ h => absurd rfl (h p), hearly⟩
    have hlasts := effect_modeLasts he (fun p e => hclear ⟨p, e⟩) (fun p e => hwrite ⟨p, e⟩)
    exact ⟨fun h _ => hlasts.halted h, fun h _ => hlasts.early.mpr h, hlasts.early.mp⟩

/-- Settles O14. -/
theorem haltedAndUncommissionedLastUntil : Obligations.HaltedAndUncommissionedLastUntil := by
  intro c s t h hpower
  obtain ⟨failed, hc, -⟩ | hout := exec_cases h
  · exact absurd hc (hpower failed)
  · exact hout.modes

end Sys2Proof.Machine

/-! No collection grows beyond its size (R25, R34, R45, R95, R150, R196). -/

namespace Sys2Proof.Machine

set_option Elab.async false

/-! ## The descriptors of a line -/

/-- No line has more than four descriptors that are not FREE (R95). -/
def DosesBounded (g : Grout) : Prop := ∀ i : Fin 6, g.lines[i].descriptors.length ≤ 4

theorem DosesBounded.setLine {g : Grout} (h : DosesBounded g) (i : Fin 6) {l : Line} (hl : l.descriptors.length ≤ 4) :
    DosesBounded (g.setLine i l) := by
  intro j
  by_cases hij : i = j
  · subst hij
    simpa [Grout.setLine] using hl
  · have hne : i.val ≠ j.val := fun e => hij (Fin.ext e)
    simpa [Grout.setLine, hne] using h j

theorem length_changeFirst (which : Descriptor → Bool) (x : DoseState) (ds : List Descriptor) :
    (changeFirst which x ds).length = ds.length := by
  induction ds with
  | nil => rfl
  | cons d ds ih =>
    unfold changeFirst
    split <;> simp [ih]

theorem DosesBounded.spreadOver {g : Grout} (h : DosesBounded g) (p : Profile) (i : Fin 6) (a : Int) :
    DosesBounded (spreadOver p i a g).1 := by
  unfold Machine.spreadOver
  simp only
  split
  · exact h
  · intro j
    simpa using h j

theorem DosesBounded.moveCarry {g : Grout} (h : DosesBounded g) (p : Profile) (i : Fin 6) :
    DosesBounded (moveCarry p i g).1 := by
  have hset : DosesBounded (g.setLine i { g.lines[i] with carry := 0 }) := h.setLine i (h i)
  exact hset.spreadOver p i _

theorem DosesBounded.ontoCarry {g : Grout} (h : DosesBounded g) (p : Profile) (i : Fin 6) (a : Int) :
    DosesBounded (ontoCarry p i a g).grout := by
  have hset : DosesBounded (g.setLine i { g.lines[i] with carry := g.lines[i].carry + a }) := h.setLine i (h i)
  unfold Machine.ontoCarry
  simp only
  split
  · exact hset
  · exact hset.moveCarry p i

theorem DosesBounded.withdrawLine {g : Grout} (h : DosesBounded g) (p : Profile) (i : Fin 6) (x : Service) :
    DosesBounded (withdrawLine p i x g).grout := by
  have hset : DosesBounded (g.setLine i (g.lines[i].withdrawn x)) :=
    h.setLine i ((List.length_filter_le _ _).trans (h i))
  exact hset.moveCarry p i

theorem DosesBounded.settle {g : Grout} (h : DosesBounded g) (p : Profile) (i : Fin 6) (a : Int) (o : DoseOutcome) :
    DosesBounded (settle p i a o g).grout := by
  unfold Machine.settle
  split
  · exact h.ontoCarry p i a
  · split
    · exact h.spreadOver p i a
    · exact h.ontoCarry p i a
  · have hset : ∀ x : Service,
        DosesBounded (g.setLine i { g.lines[i] with carry := g.lines[i].carry + a, service := x }) :=
      fun _ => h.setLine i (h i)
    unfold faultLine
    simp only
    split
    · exact (hset _).withdrawLine p i .blocked
    · exact (hset _).moveCarry p i

theorem DosesBounded.lineMoved {s : State} (h : DosesBounded s.grout) (i : Fin 6) (x : Service) (k : Capacity) :
    DosesBounded (lineMoved i x k s).grout := by
  have hset : DosesBounded (s.grout.setLine i { s.grout.lines[i] with capacity := k }) := h.setLine i (h i)
  unfold Machine.lineMoved changeService
  simp only
  split
  · exact hset.withdrawLine _ i x
  · exact hset.setLine i (hset i)

theorem length_cutPieces_le (cap free m : Nat) : (cutPieces cap free m).1.length ≤ free := by
  induction free generalizing m with
  | zero => simp [cutPieces]
  | succ n ih =>
    unfold cutPieces
    split
    · simp
    · simpa using ih _

/-- An order is posted to the FREE descriptors alone (R99). -/
theorem length_orderLine (cap increment limit : Nat) (order : Int) {l : Line} (h : l.descriptors.length ≤ 4) :
    (orderLine cap increment limit order l).1.descriptors.length ≤ 4 := by
  unfold orderLine
  split
  · exact h
  · have hopen : (openDescriptors l).length ≤ 4 := (List.length_filter_le _ _).trans h
    have hpieces := length_cutPieces_le cap (4 - (openDescriptors l).length) order.toNat
    simp only [List.length_append, List.length_map, dosesOf, List.length_mapIdx]
    omega

theorem DosesBounded.groutClosure {s : State} (h : DosesBounded s.grout) (number required : Nat) :
    DosesBounded (groutClosure number required s).grout := by
  unfold Machine.groutClosure
  extract_lets p g shares targets ordered grout items t
  have hgrout : DosesBounded grout := by
    intro i
    simp only [grout, ordered, Fin.getElem_fin, getElem_updateEach]
    split
    · exact length_orderLine _ _ _ _ (h i)
    · exact h i
  split
  · exact h
  · split
    · exact hgrout
    · simpa [t] using hgrout

/-! ## The records -/

/-- The clauses of `CollectionsBounded` about the blocks. -/
structure RecordsBounded (s : State) : Prop where
  increments  : s.account.increments.length ≤ 16
  cycles      : s.account.cycles.length ≤ 8
  revolutions : s.cutter.revolutions.length ≤ 16
  entries     : s.stack.entries.length ≤ 3
  doses       : DosesBounded s.grout

theorem RecordsBounded.of_frame {s t : State} (h : RecordsBounded s)
    (hinc : t.account.increments = s.account.increments) (hcyc : t.account.cycles = s.account.cycles)
    (hrev : t.cutter.revolutions = s.cutter.revolutions) (hent : t.stack.entries.length = s.stack.entries.length)
    (hdoses : t.grout = s.grout) : RecordsBounded t :=
  ⟨hinc ▸ h.increments, hcyc ▸ h.cycles, hrev ▸ h.revolutions, hent ▸ h.entries, hdoses ▸ h.doses⟩

theorem RecordsBounded.of_cutter {s t : State} (h : RecordsBounded s) (haccount : t.account = s.account)
    (hstack : t.stack = s.stack) (hgrout : t.grout = s.grout) (hrev : t.cutter.revolutions = s.cutter.revolutions) :
    RecordsBounded t :=
  h.of_frame (by rw [haccount]) (by rw [haccount]) hrev (by rw [hstack]) hgrout

@[simp] theorem forcedStop_revolutions (s : State) : (forcedStop s).cutter.revolutions = s.cutter.revolutions := by
  obtain ⟨e, -⟩ | ⟨-, e⟩ | ⟨-, e⟩ := forcedStop_cases s
  · rw [e]
  · simp [e, enterStopping_cutter]
  · rw [e]
    exact (leaveIfRunning_cutter_frame s).2.2.2.2

@[simp] theorem stopIfMotorsLow_revolutions (s : State) :
    (stopIfMotorsLow s).cutter.revolutions = s.cutter.revolutions := by
  obtain ⟨-, e⟩ | ⟨-, e⟩ := stopIfMotorsLow_cases s <;> simp [e]

@[simp] theorem enterRest_revolutions (r : RunState) (s : State) :
    (enterRest r s).cutter.revolutions = s.cutter.revolutions :=
  (leaveIfRunning_cutter_frame s).2.2.2.2

/-- The record of the increment that closes (R25). -/
def closedIncrement (s : State) : IncrementRec :=
  { number := nextIncrement s.account.counter, time := s.now, length := (activeProfile s).incrementLength
    volume := (incrementSums s (activeProfile s).incrementLength).volume
    tailVoid := (incrementSums s (activeProfile s).incrementLength).tailVoid
    grout := (incrementSums s (activeProfile s).incrementLength).grout
    mass := (incrementSums s (activeProfile s).incrementLength).mass, mode := s.modes.mode }

theorem recordsBounded_changeMode (m : Mode) (cause : ModeCause) {s : State} (h : RecordsBounded s) :
    RecordsBounded (changeMode m cause s) := by
  refine h.of_cutter (by simp) (by simp) (by simp) ?_
  obtain ⟨e, -⟩ | ⟨-, t, rfl, ⟨-, e⟩ | ⟨-, e⟩⟩ := changeMode_cases m cause s <;> simp [e]

theorem spoilBalance_histories (s : State) : (spoilBalance s).account.increments = s.account.increments ∧
    (spoilBalance s).account.cycles = s.account.cycles := ⟨rfl, rfl⟩

theorem groutClosure_account (number required : Nat) (s : State) :
    (groutClosure number required s).account = s.account := by simp

/-- A closure's increment joins the history (R25). -/
theorem closureEffects_histories (s : State) :
    (closureEffects s).account.increments =
      pushCapped 16 s.account.increments (closedIncrement s) ∧
    (closureEffects s).account.cycles = s.account.cycles := by
  unfold closureEffects
  simp only
  rw [(spoilBalance_histories _).1, (spoilBalance_histories _).2, groutClosure_account]
  exact ⟨rfl, rfl⟩

theorem closureEffects_grout (s : State) : (closureEffects s).grout =
    (groutClosure (accountClosure s).account.counter (incrementSums s (activeProfile s).incrementLength).grout
      (accountClosure s)).grout := by
  simp [closureEffects]

theorem recordsBounded_closureEffects {s : State} (h : RecordsBounded s) : RecordsBounded (closureEffects s) where
  increments := by
    rw [(closureEffects_histories s).1]
    exact length_pushCapped_le 16 _ _ (by simp)
  cycles := by
    rw [(closureEffects_histories s).2]
    exact h.cycles
  revolutions := by simpa using h.revolutions
  entries := by simpa using h.entries
  doses := by
    have hdoses : DosesBounded (accountClosure s).grout := h.doses
    rw [closureEffects_grout]
    exact hdoses.groutClosure _ _

theorem recordsBounded_carried : Carried RecordsBounded where
  minor := by
    intro s t h hm
    obtain ⟨x, hx⟩ := hm.cutter
    refine ⟨hm.increments ▸ h.increments, ?_, by rw [hx]; exact h.revolutions, ?_, hm.grout ▸ h.doses⟩
    · exact hm.cycles.trans (max_le h.cycles le_rfl)
    · exact hm.entries.trans (max_le h.entries le_rfl)
  refresh := fun s h => h.of_cutter (by simp) (by simp) (by simp) (by simp)
  closure := fun s h => recordsBounded_closureEffects h
  judge := fun s h => ⟨h.increments, h.cycles, h.revolutions, h.entries, h.doses⟩
  switch := fun n s _ h => h.of_cutter (by simp [switchUnits]) (by simp [switchUnits]) (by simp [switchUnits])
    (by simp [switchUnits])
  mode := fun m cause s _ _ _ h => recordsBounded_changeMode m cause h

theorem recordsBounded_warmReset {s : State} (h : RecordsBounded s) : RecordsBounded (warmReset s) := by
  have hblocks : RecordsBounded (evalConditions (resetBlocks s)) :=
    h.of_frame rfl rfl rfl (by simp [resetBlocks, ReleaseStack.reset]) rfl
  exact recordsBounded_carried.refresh _ (recordsBounded_carried.switchTest hblocks)

@[simp] theorem driveTests_revolutions (s : State) : (driveTests s).cutter.revolutions = s.cutter.revolutions := by
  unfold driveTests jamTest rockSucceeds
  split
  case h_1 =>
    split <;> rfl
  case h_3 | h_4 =>
    split <;> simp
  all_goals rfl

@[simp] theorem pressurePart_revolutions (a : SpoilArgs) (s : State) :
    (pressurePart a s).cutter.revolutions = s.cutter.revolutions := by
  unfold pressurePart
  simp only
  split
  · simp
  · split <;> simp [loseEstimate, limitSetpoint, updateGate]

theorem recordsBounded_spoilTaken (a : SpoilArgs) {s : State} (h : RecordsBounded s) :
    RecordsBounded (spoilTaken a s) := by
  have hbelt : ∀ t : State, RecordsBounded t → RecordsBounded (beltPart a.belt t) := by
    intro t ht
    obtain ⟨n, e⟩ := beltPart_account a.belt t
    have hkeeps := beltPart_alters a.belt t
    exact ht.of_frame (by rw [e]) (by rw [e]) (by rw [hkeeps.cutter (by simp)]) (by rw [hkeeps.stack (by simp)])
      (hkeeps.grout (by simp))
  have hpressure : ∀ t : State, RecordsBounded t → RecordsBounded (pressurePart a t) := by
    intro t ht
    have hkeeps := pressurePart_alters a t
    exact ht.of_cutter (hkeeps.account (by simp)) (hkeeps.stack (by simp)) (hkeeps.grout (by simp)) (by simp)
  exact hbelt _ (hpressure _ (h.of_cutter rfl rfl rfl rfl))

theorem takePulse_revolutions {s : State} (h : s.cutter.revolutions.length ≤ 16) :
    (takePulse s).cutter.revolutions.length ≤ 16 := by
  unfold takePulse
  simp only
  split
  · split
    · exact h
    · exact length_pushCapped_le 16 _ _ (by simp)
  · exact h

/-- The commands of the cutterhead that close no revolution leave its history. -/
theorem effect_revolutions {c : Instr} {u v : State} (he : Effect c u v) (hshared : isShared c = false)
    (hc : ∀ ms, c ≠ .revolutionIndexPulse ms) (hmodes : Block.modes ∉ mayChange c) :
    v.cutter.revolutions = u.cutter.revolutions := by
  cases c
  case revolutionIndexPulse ms => exact absurd rfl (hc ms)
  case driveReport p =>
    obtain ⟨a, rfl⟩ := acts_driveReport he
    simp [updateTorque, recordReport]
  case cutterStart p =>
    obtain ⟨-, n, rfl⟩ | ⟨-, -, -, -, d, n, rfl⟩ := acts_cutterStart he
    · simp [requestSpeed]
    · simp [startCutter]
  case cutterSpeed p =>
    obtain ⟨-, n, rfl⟩ := acts_cutterSpeed he
    simp [requestSpeed]
  case cutterStop p => simp [acts_cutterStop he]
  case cutterRock p =>
    obtain ⟨-, -, -, -, rfl⟩ := acts_cutterRock he
    rfl
  case motorReadmit p =>
    obtain ⟨i, -, -, rfl⟩ := acts_motorReadmit he
    rfl
  case conditionAck p =>
    obtain ⟨name, subject, rfl⟩ := acts_conditionAck he
    show (clearTrip name u).cutter.revolutions = _
    unfold clearTrip
    split <;> simp
  case spoilReport p =>
    obtain ⟨a, rfl⟩ := acts_spoilReport he
    rw [spoilTaken, (beltPart_alters a.belt _).cutter (by simp), pressurePart_revolutions]
  case rampStep | indexWatchExpiry | reversePhaseExpiry =>
    obtain ⟨-, rfl⟩ := he
    rfl
  case estimateLossExpiry =>
    obtain ⟨-, rfl⟩ := he
    simp [loseEstimate, limitSetpoint, updateGate]
  case deviationTimerExpiry i =>
    obtain ⟨-, rfl⟩ := he
    simp [removeMotor, setMotor, updateTorque]
  case jamTimerExpiry =>
    obtain ⟨-, rfl⟩ := he
    simp
  case forwardPhaseExpiry =>
    obtain ⟨-, rfl⟩ := he
    simp [rockFails]
  case doseTake | doseClose | lineState | profileWrite =>
    rw [(effect_alters_chamber he).cutter (by simp [mayChange])]
  case powerOn | supplyLoss | planBlankCheck | planVerify | planStatus | read | unknownRequest => exact he.elim
  all_goals simp [isShared, mayChange] at hshared hmodes

theorem effect_keeps_recordsBounded {c : Instr} {u v : State} (he : Effect c u v) (h : RecordsBounded u) :
    RecordsBounded v := by
  have hkeeps := effect_alters_chamber he
  have hcutter : isShared c = false → (∀ ms, c ≠ .revolutionIndexPulse ms) → Block.modes ∉ mayChange c →
      Block.account ∉ mayChange c → Block.stack ∉ mayChange c → Block.grout ∉ mayChange c → RecordsBounded v :=
    fun hs hp hm ha hk hg => h.of_cutter (hkeeps.account (by simpa using ha)) (hkeeps.stack (by simpa using hk))
      (hkeeps.grout (by simpa using hg)) (effect_revolutions he hs hp hm)
  cases c
  case resetInput ms =>
    obtain rfl | rfl := he
    · exact h
    · exact recordsBounded_warmReset h
  case warmReset p => exact acts_warmReset he ▸ recordsBounded_warmReset h
  case revolutionIndexPulse ms =>
    obtain rfl | ⟨-, rfl⟩ := he
    · exact h
    · exact ⟨h.increments, h.cycles, takePulse_revolutions h.revolutions, h.entries, h.doses⟩
  case spoilReport p =>
    obtain ⟨a, rfl⟩ := acts_spoilReport he
    exact recordsBounded_spoilTaken a h
  case constantsWrite p =>
    obtain ⟨k, -, rfl⟩ := acts_constantsWrite he
    have hk : RecordsBounded (installConstants k u) := h.of_frame rfl rfl rfl rfl rfl
    split
    · exact (recordsBounded_carried.modeTaken (fun m cause _ => recordsBounded_changeMode m cause) hk).of_cutter
        rfl rfl rfl rfl
    · exact hk
  case haltClear p =>
    obtain ⟨hmode, -, rfl⟩ := acts_haltClear he
    exact recordsBounded_carried.haltCleared (fun m cause _ _ _ => recordsBounded_changeMode m cause) hmode h
  case doseTake p =>
    obtain ⟨i, rfl⟩ := acts_doseTake he
    have hline : u.grout.lines[i].take.descriptors.length ≤ 4 := by
      rw [Line.take, length_changeFirst]
      exact h.doses i
    exact ⟨h.increments, h.cycles, h.revolutions, h.entries, h.doses.setLine i hline⟩
  case doseClose p =>
    obtain ⟨a, i, d, -, rfl⟩ := acts_doseClose he
    have hline : (u.grout.lines[i].close a).descriptors.length ≤ 4 := by
      rw [Line.close, length_changeFirst]
      exact h.doses i
    exact ⟨h.increments, h.cycles, h.revolutions, h.entries, (h.doses.setLine i hline).settle _ i _ _⟩
  case lineState p =>
    obtain ⟨i, x, k, rfl⟩ := acts_lineState he
    exact ⟨h.increments, h.cycles, h.revolutions, h.entries, h.doses.lineMoved i x k⟩
  case powerOn | supplyLoss | planBlankCheck | planVerify | planStatus | read | unknownRequest => exact he.elim
  case driveReport | cutterStart | cutterSpeed | cutterStop | cutterRock | motorReadmit | conditionAck | rampStep |
      indexWatchExpiry | reversePhaseExpiry | forwardPhaseExpiry | jamTimerExpiry | estimateLossExpiry |
      deviationTimerExpiry | profileWrite =>
    exact hcutter rfl (by simp) (by simp [mayChange]) (by simp [mayChange]) (by simp [mayChange]) (by simp [mayChange])
  all_goals exact recordsBounded_carried.effect he rfl h

/-! ## The request lists -/

/-- No request list holds more than 8 requests (R196). -/
def RequestsBounded (s : State) : Prop := ∀ p, (linkOf s p).requests.length ≤ 8

theorem RequestsBounded.of_link {s t : State} (h : RequestsBounded s) {p : Port}
    (hother : ∀ q, p ≠ q → linkOf t q = linkOf s q) (hp : (linkOf t p).requests.length ≤ 8) : RequestsBounded t := by
  intro q
  by_cases hpq : p = q
  · exact hpq ▸ hp
  · rw [hother q hpq]
    exact h q

theorem RequestsBounded.setLink {s : State} (h : RequestsBounded s) (p : Port) {l : LinkRec}
    (hl : l.requests.length ≤ 8) : RequestsBounded (setLink p l s) :=
  h.of_link (p := p) (fun q hpq => linkOf_setLink_other hpq l s) (by simpa using hl)

/-- A frame joins a list of fewer than 8 requests alone (R198). -/
theorem length_receive_le (l : LinkRec) (f : Frame) (now : Nat) (h : l.requests.length ≤ 8) :
    (l.receive f now).requests.length ≤ 8 := by
  unfold LinkRec.receive
  simp only
  split
  · rename_i hlt
    simp only [List.length_append, List.length_singleton]
    have : listCapacity = 8 := rfl
    omega
  · exact h

theorem RequestsBounded.deliver {s : State} (h : RequestsBounded s) (p : Port) (x : Frame × Nat) :
    RequestsBounded (deliver p s x) := by
  have hset : RequestsBounded (Machine.setLink p ((linkOf s p).receive x.1 x.2) s) :=
    h.setLink p (length_receive_le _ _ _ (h p))
  unfold Machine.deliver
  simp only
  split
  · exact hset
  · intro q
    rw [linkOf_of_links (onActive_links ..)]
    exact hset q

theorem RequestsBounded.receive {s : State} (h : RequestsBounded s) (p : Port) : RequestsBounded (receive p s) := by
  have hfold : ∀ (l : List (Frame × Nat)) (t : State), RequestsBounded t → RequestsBounded (l.foldl (Machine.deliver p) t) := by
    intro l
    induction l with
    | nil => exact fun t ht => ht
    | cons x l ih => exact fun t ht => ih _ (ht.deliver p x)
  exact hfold _ _ (h.setLink p (h p))

theorem requestsBounded_warmReset (s : State) : RequestsBounded (warmReset s) := by
  intro q
  have hlinks : (warmReset s).links = (resetBlocks s).links := by simp [warmReset]
  rw [linkOf_of_links hlinks]
  simp [linkOf, resetBlocks, LinkRec.reset]

theorem requestsBounded_silenceLink {s : State} (h : RequestsBounded s) (p : Port) :
    RequestsBounded (silenceLink p s) := by
  have hset : RequestsBounded (Machine.setLink p { linkOf s p with active := false } s) := h.setLink p (h p)
  intro q
  have hlinks : (silenceLink p s).links = (Machine.setLink p { linkOf s p with active := false } s).links := by
    unfold silenceLink
    simp only
    split <;> simp
  rw [linkOf_of_links hlinks]
  exact hset q

theorem effect_keeps_requestsBounded {c : Instr} {u v : State} (he : Effect c u v) (h : RequestsBounded u) :
    RequestsBounded v := by
  cases c
  case frameReceive p bytes =>
    obtain rfl := he
    have hadded : RequestsBounded (addBytes p bytes u) := h.setLink p (h p)
    exact hadded.receive p
  case frameTimeout p =>
    obtain rfl := he
    exact h.receive p
  case linkSilenceExpiry p =>
    obtain ⟨-, rfl⟩ := he
    exact requestsBounded_silenceLink h p
  case resetInput ms =>
    obtain rfl | rfl := he
    · exact h
    · exact requestsBounded_warmReset u
  case warmReset p => exact acts_warmReset he ▸ requestsBounded_warmReset u
  all_goals
    intro q
    rw [(effect_alters he).links q rfl]
    exact h q

theorem SameRecords.requestsBounded {p : Option Port} {s t : State} (h : SameRecords p s t) (hs : RequestsBounded s) :
    RequestsBounded t := by
  intro q
  obtain e | ⟨-, e⟩ := h.links q
  · exact e ▸ hs q
  · rw [e]
    have := hs q
    simp only [List.length_tail]
    omega

/-- Settles O11. -/
theorem collectionsStayBounded : Obligations.CollectionsStayBounded := by
  have hiff : ∀ s, CollectionsBounded s ↔ RequestsBounded s ∧ RecordsBounded s := fun s =>
    ⟨fun h => ⟨h.requests, h.increments, h.cycles, h.revolutions, h.entries, h.descriptors⟩,
      fun ⟨h, h'⟩ => ⟨h, h'.increments, h'.cycles, h'.revolutions, h'.entries, h'.doses⟩⟩
  refine step_keeps (Q := fun s => RequestsBounded s ∧ RecordsBounded s) ?_ ?_ ?_ ?_
  · intro p s t h hs
    obtain ⟨hreq, hrec⟩ := (hiff s).mp hs
    exact (hiff t).mpr ⟨h.requestsBounded hreq, hrec.of_cutter h.account h.stack h.grout (by rw [h.cutter])⟩
  · intro failed s _
    refine (hiff _).mpr ⟨fun p => ?_, ⟨Nat.zero_le _, Nat.zero_le _, Nat.zero_le _, Nat.zero_le _, fun i => ?_⟩⟩
    · simp [linkOf, powerUp, blocksAtPowerOn, LinkRec.initial]
    · simp [powerUp, blocksAtPowerOn, Grout.initial, Line.initial]
  · intro c u v he hs
    obtain ⟨hreq, hrec⟩ := (hiff u).mp hs
    exact ⟨effect_keeps_requestsBounded he hreq, effect_keeps_recordsBounded he hrec⟩
  · intro v t h ⟨hreq, hrec⟩
    refine (hiff t).mpr ⟨fun p => ?_, hrec.of_cutter h.inputs.account h.inputs.stack h.inputs.grout (by rw [h.inputs.cutter])⟩
    rw [linkOf_of_links h.inputs.links]
    exact hreq p

end Sys2Proof.Machine

/-! The mode follows the claims (R163, R167) and the halts (R169). -/

namespace Sys2Proof.Machine

set_option Elab.async false

/-! ## The HALT-class conditions -/

/-- A HALT-class condition is active: the operator's halt, a full stack under the HALT policy, or the Drive link's
silence (R169). -/
def HaltActive (s : State) : Prop :=
  s.modes.operatorHalt = true ∨ (s.stack.full = true ∧ s.stack.fullClass = some .halt) ∨
    ((linkOf s .drive).ever = true ∧ (linkOf s .drive).active = false)

theorem mem_activeHalts (s : State) (k : CondKey) :
    k ∈ activeHalts s ↔ k ∈ condKeys ∧ level s k.1 k.2 = true ∧ classOf s k.1 k.2 = some .halt := by
  simp [activeHalts]

theorem level_driveSilent (s : State) :
    level s .linkSilent (some 0) = ((linkOf s .drive).ever && !(linkOf s .drive).active) := by
  simp [level, linkOf, portIndex]

/-- The active entries of class HALT are among three. -/
theorem activeHalts_cases {s : State} {k : CondKey} (h : k ∈ activeHalts s) :
    (k.1 = .operatorHalt ∧ s.modes.operatorHalt = true) ∨
    (k.1 = .stackFull ∧ s.stack.full = true ∧ s.stack.fullClass = some .halt) ∨
    (k.1 = .linkSilent ∧ (linkOf s .drive).ever = true ∧ (linkOf s .drive).active = false) := by
  obtain ⟨-, hlevel, hclass⟩ := (mem_activeHalts s k).mp h
  obtain ⟨name, subject⟩ := k
  cases name
  case operatorHalt => exact .inl ⟨rfl, hlevel⟩
  case stackFull => exact .inr (.inl ⟨rfl, hlevel, hclass⟩)
  case linkSilent =>
    obtain rfl : subject = some 0 := by
      by_contra hne
      simp [classOf, hne] at hclass
    rw [level_driveSilent] at hlevel
    exact .inr (.inr ⟨rfl, by simpa using hlevel⟩)
  all_goals simp [classOf] at hclass

theorem activeHalts_ne_nil_iff (s : State) : activeHalts s ≠ [] ↔ HaltActive s := by
  have hmem : ∀ k : CondKey, k ∈ condKeys → level s k.1 k.2 = true → classOf s k.1 k.2 = some .halt →
      activeHalts s ≠ [] := fun k hk hl hc => List.ne_nil_of_mem ((mem_activeHalts s k).mpr ⟨hk, hl, hc⟩)
  constructor
  · intro h
    obtain ⟨k, hk⟩ := List.exists_mem_of_ne_nil _ h
    obtain ⟨-, h⟩ | ⟨-, h⟩ | ⟨-, h⟩ := activeHalts_cases hk
    · exact .inl h
    · exact .inr (.inl h)
    · exact .inr (.inr h)
  · rintro (h | ⟨hfull, hclass⟩ | ⟨hever, hactive⟩)
    · exact hmem (.operatorHalt, none) (by decide) h rfl
    · exact hmem (.stackFull, none) (by decide) hfull hclass
    · exact hmem (.linkSilent, some 0) (by decide) (by rw [level_driveSilent, hever, hactive]; rfl) rfl

theorem otherHalt_eq_false {s : State} (h : otherHalt s = false) :
    ¬ ((s.stack.full = true ∧ s.stack.fullClass = some .halt) ∨
      ((linkOf s .drive).ever = true ∧ (linkOf s .drive).active = false)) := by
  have hall : ∀ k ∈ activeHalts s, k.1 = .operatorHalt := by simpa [otherHalt] using h
  rintro (⟨hfull, hclass⟩ | ⟨hever, hactive⟩)
  · exact absurd (hall (.stackFull, none) ((mem_activeHalts _ _).mpr ⟨by decide, hfull, hclass⟩)) (by simp)
  · exact absurd (hall (.linkSilent, some 0) ((mem_activeHalts _ _).mpr
      ⟨by decide, by rw [level_driveSilent, hever, hactive]; rfl, rfl⟩)) (by simp)

theorem HaltActive.congr {s t : State} (hmodes : t.modes.operatorHalt = s.modes.operatorHalt)
    (hfull : t.stack.full = s.stack.full) (hclass : t.stack.fullClass = s.stack.fullClass) (hlinks : t.links = s.links)
    (h : HaltActive t) : HaltActive s := by
  unfold HaltActive at *
  rwa [hmodes, hfull, hclass, linkOf_of_links hlinks] at h

/-! ## Laws of the mode unit -/

/-- The laws of `ModeFollows` but for the halt that an active condition demands. -/
structure ModeLaws (m : ModeUnit) : Prop where
  derived      : m.mode ≠ .uncommissioned → m.mode ≠ .halted → m.mode = derivedMode m.advance m.build
  output       : m.haltOutput = decide (m.mode = .halted)
  advanceWaits : m.advance = .pending → m.build = .held
  buildWaits   : m.build = .pending → m.advance = .held
  halted       : m.mode = .halted → m.advance = .absent
  early        : m.mode = .uncommissioned → m.advance = .absent ∧ m.build = .absent

theorem modeFollows_iff (s : State) : ModeFollows s ↔
    ModeLaws s.modes ∧ (s.modes.mode ≠ .uncommissioned → HaltActive s → s.modes.mode = .halted) := by
  rw [← activeHalts_ne_nil_iff]
  exact ⟨fun h => ⟨⟨h.derived, h.output, h.advanceWaits, h.buildWaits, h.halted, h.early⟩, h.held⟩,
    fun ⟨h, h'⟩ => ⟨h.derived, h.output, h', h.advanceWaits, h.buildWaits, h.halted, h.early⟩⟩

theorem ModeFollows.laws {s : State} (h : ModeFollows s) : ModeLaws s.modes := ((modeFollows_iff s).mp h).1

theorem ModeFollows.not_haltActive {s : State} (h : ModeFollows s) (hearly : s.modes.mode ≠ .uncommissioned)
    (hhalt : s.modes.mode ≠ .halted) : ¬ HaltActive s := fun ha => hhalt (((modeFollows_iff s).mp h).2 hearly ha)

theorem ModeFollows.of_modes {s t : State} (h : ModeFollows s) (hmodes : t.modes = s.modes)
    (hhalt : HaltActive t → HaltActive s) : ModeFollows t := by
  rw [modeFollows_iff] at *
  rw [hmodes]
  exact ⟨h.1, fun hearly ha => h.2 hearly (hhalt ha)⟩

theorem ModeFollows.of_same {s t : State} (h : ModeFollows s) (hmodes : t.modes = s.modes)
    (hfull : t.stack.full = s.stack.full) (hclass : t.stack.fullClass = s.stack.fullClass) (hlinks : t.links = s.links) :
    ModeFollows t :=
  h.of_modes hmodes (.congr (by rw [hmodes]) hfull hclass hlinks)

theorem ModeFollows.of_blocks {s t : State} (h : ModeFollows s) (hmodes : t.modes = s.modes)
    (hstack : t.stack = s.stack) (hlinks : t.links = s.links) : ModeFollows t :=
  h.of_same hmodes (by rw [hstack]) (by rw [hstack]) hlinks

theorem derivedMode_ne_halted (a b : Claim) : derivedMode a b ≠ .halted := by
  cases a <;> cases b <;> simp [derivedMode]

theorem derivedMode_continuous {a b : Claim} (h : derivedMode a b = .continuous) : a = .held ∧ b = .held := by
  cases a <;> cases b <;> simp [derivedMode] at h ⊢

/-! ## Changes of mode -/

/-- The modes of `s` with the mode `m` entered from them. -/
def ModeUnit.entered (u : ModeUnit) (m : Mode) (cause : ModeCause) : ModeUnit :=
  { u with mode := m, haltOutput := m = .halted, cause }

theorem changeMode_modes {m : Mode} {s : State} (h : s.modes.mode ≠ m) (cause : ModeCause) :
    (changeMode m cause s).modes = s.modes.entered m cause := by
  obtain ⟨-, e⟩ | ⟨-, t, rfl, ⟨-, e⟩ | ⟨-, e⟩⟩ := changeMode_cases m cause s
  · exact absurd e h
  · rw [e]
    rfl
  · rw [e]
    simp [ModeUnit.entered]

/-- The mode `m` may be entered from `s`: it agrees with the claims and the halts. -/
structure MayEnter (m : Mode) (s : State) : Prop where
  claims : ModeLaws (s.modes.entered m s.modes.cause)
  output : s.modes.haltOutput = decide (s.modes.mode = .halted)
  halts  : m ≠ .uncommissioned → HaltActive s → m = .halted

theorem ModeLaws.with_cause {u : ModeUnit} (h : ModeLaws u) (cause : ModeCause) : ModeLaws { u with cause } :=
  ⟨h.derived, h.output, h.advanceWaits, h.buildWaits, h.halted, h.early⟩

theorem modeFollows_changeMode {m : Mode} {s : State} (h : MayEnter m s) (cause : ModeCause) :
    ModeFollows (changeMode m cause s) := by
  rw [modeFollows_iff]
  by_cases hm : s.modes.mode = m
  · have he : changeMode m cause s = s := by simp [changeMode, hm]
    have hlaws := h.claims
    rw [he]
    subst hm
    exact ⟨⟨hlaws.derived, h.output, hlaws.advanceWaits, hlaws.buildWaits, hlaws.halted, hlaws.early⟩, h.halts⟩
  · have hmodes := changeMode_modes hm cause
    refine ⟨hmodes ▸ h.claims.with_cause cause, fun hearly ha => ?_⟩
    rw [hmodes] at hearly ⊢
    exact h.halts hearly (ha.congr (by rw [hmodes]; rfl) (by simp) (by simp) (by simp))

theorem modeFollows_bySwitch : CarriedBySwitch ModeFollows where
  overtime := fun s h => h.of_same rfl rfl rfl rfl
  raised := fun s n h => h.of_same rfl rfl rfl rfl
  refresh := fun s h => h.of_blocks (by simp) (by simp) (by simp)
  closure := fun s h => h.of_blocks (by simp) (by simp) (by simp)
  judge := fun s h => h.of_blocks rfl rfl rfl
  switch := fun n s _ h => h.of_blocks (by simp [switchUnits]) (by simp [switchUnits]) (by simp [switchUnits])
  disallow := by
    intro s h
    obtain e | ⟨hmode, -, e⟩ := disallowContinuous_cases s
    · rwa [e]
    · have hclaims := derivedMode_continuous ((h.derived (by simp [hmode]) (by simp [hmode])).symm.trans hmode)
      have hidle := h.not_haltActive (by simp [hmode]) (by simp [hmode])
      rw [e]
      refine modeFollows_changeMode ⟨?_, by exact h.output, fun _ ha => absurd (by exact ha.congr rfl rfl rfl rfl) hidle⟩ _
      exact ⟨fun _ _ => by simp [ModeUnit.entered, hclaims, derivedMode], rfl, fun _ => hclaims.2,
        fun hp => absurd (hclaims.2.symm.trans hp) (by simp), fun hp => absurd hp (by simp [ModeUnit.entered]),
        fun hp => absurd hp (by simp [ModeUnit.entered])⟩

theorem modeFollows_enterMode {m : Mode} {s : State} (h : MayEnter m s) (cause : ModeCause) :
    ModeFollows (enterMode m cause s) := by
  unfold enterMode
  split
  · rename_i hm
    have := modeFollows_changeMode h cause
    rwa [changeMode, if_pos hm] at this
  · simp only
    split
    · exact modeFollows_bySwitch.switchTest (modeFollows_changeMode h cause)
    · exact modeFollows_changeMode h cause

/-- A part whose claims change, none of the two waiting for an absent one. -/
structure ClaimsSound (a b : Claim) : Prop where
  advanceWaits : a = .pending → b = .held
  buildWaits   : b = .pending → a = .held

/-- The mode derived from new claims may be entered in a part that is neither UNCOMMISSIONED nor HALTED (R167). -/
theorem ModeFollows.mayEnter_derived {s : State} (h : ModeFollows s) (hearly : s.modes.mode ≠ .uncommissioned)
    (hhalt : s.modes.mode ≠ .halted) {a b : Claim} (hab : ClaimsSound a b) :
    MayEnter (derivedMode a b) { s with modes := { s.modes with advance := a, build := b } } where
  claims := ⟨fun _ _ => rfl, rfl, hab.advanceWaits, hab.buildWaits,
    fun e => absurd e (derivedMode_ne_halted a b), fun e => absurd e (derivedMode_ne_uncommissioned a b)⟩
  output := h.output
  halts _ ha := absurd (ha.congr rfl rfl rfl rfl) (h.not_haltActive hearly hhalt)

theorem modeFollows_claimsChanged {s : State} (h : ModeFollows s) {a b : Claim} (hab : ClaimsSound a b)
    (hhalt : s.modes.mode = .halted → a = .absent) (hearly : s.modes.mode = .uncommissioned → a = .absent ∧ b = .absent)
    (cause : ModeCause) :
    ModeFollows (claimsChanged cause { s with modes := { s.modes with advance := a, build := b } }) := by
  unfold claimsChanged
  split
  · rename_i hm
    have hm' : s.modes.mode = .uncommissioned ∨ s.modes.mode = .halted := hm
    rw [modeFollows_iff] at h ⊢
    refine ⟨⟨fun h1 h2 => absurd hm' (by simp [show s.modes.mode ≠ _ from h1, show s.modes.mode ≠ _ from h2]),
      h.1.output, hab.advanceWaits, hab.buildWaits, hhalt, hearly⟩, fun he ha => h.2 he (ha.congr rfl rfl rfl rfl)⟩
  · rename_i hm
    have hm' : ¬ (s.modes.mode = .uncommissioned ∨ s.modes.mode = .halted) := hm
    exact modeFollows_enterMode (h.mayEnter_derived (fun e => hm' (.inl e)) (fun e => hm' (.inr e)) hab) cause

/-- HALTED may be entered whatever is active; it drops the advance claim (R169). -/
theorem modeFollows_haltMachine {s : State} (h : ModeLaws s.modes) : ModeFollows (haltMachine s) := by
  unfold haltMachine
  split
  · rename_i hm
    rw [modeFollows_iff]
    exact ⟨h, fun hearly _ => hm.resolve_left hearly⟩
  · refine modeFollows_enterMode ⟨⟨fun _ e => absurd rfl e, rfl, fun e => Claim.noConfusion e, fun e => ?_, fun _ => by rfl,
      fun e => Mode.noConfusion e⟩, by exact h.output, fun _ _ => rfl⟩ _
    have : (if s.modes.build = .pending then Claim.held else s.modes.build) = .pending := e
    split at this <;> simp_all

theorem modeFollows_reexamine {s : State} (h : ModeFollows s) : ModeFollows (reexamine s) := by
  unfold reexamine
  split
  · rename_i hmode
    have hhalt : s.modes.mode ≠ .halted := by
      obtain ⟨e | e, -⟩ := hmode <;> simp [e]
    have hearly : s.modes.mode ≠ .uncommissioned := by
      obtain ⟨e | e, -⟩ := hmode <;> simp [e]
    split
    · rename_i hc
      exact modeFollows_claimsChanged h (a := .held) (b := s.modes.build) ⟨by simp, by simp [hc.2]⟩
        (fun e => absurd e hhalt) (fun e => absurd e hearly) _
    · split
      · rename_i hc
        exact modeFollows_claimsChanged h (a := s.modes.advance) (b := .held) ⟨by simp [hc.2], by simp⟩
          (fun e => absurd e hhalt) (fun e => absurd e hearly) _
      · exact h
  · exact h

theorem modeFollows_heldChanged (before : Nat) {s : State} (h : ModeFollows s) : ModeFollows (heldChanged before s) := by
  unfold heldChanged
  extract_lets t
  have ht : ModeFollows t := by
    simp only [t]
    split
    · exact h
    · exact modeFollows_reexamine h
  split
  · exact modeFollows_bySwitch.switchTest ht
  · exact ht

/-! ## The release stack and the ring -/

theorem modeFollows_popEntry {s : State} (h : ModeFollows s) : ModeFollows (popEntry s) := by
  unfold popEntry
  split
  · exact h
  · refine modeFollows_bySwitch.refresh _ (modeFollows_heldChanged _ ?_)
    exact h.of_same (by simp) (by simp) (by simp) (by simp)

theorem modeFollows_popMany (n : Nat) {s : State} (h : ModeFollows s) : ModeFollows (popMany n s) := by
  induction n generalizing s with
  | zero => exact h
  | succ n ih => exact ih (modeFollows_popEntry h)

theorem modeFollows_ringTest {s : State} (h : ModeFollows s) : ModeFollows (ringTest s) :=
  h.of_blocks (by simp) (by simp) (by simp)

theorem modeFollows_abortRing (cause : RingCause) {s : State} (h : ModeFollows s) : ModeFollows (abortRing cause s) := by
  have hpopped := modeFollows_popMany s.stack.entries.length h
  unfold abortRing
  exact modeFollows_ringTest (hpopped.of_blocks (by simp) (by simp) (by simp))

@[simp] theorem openEntry_flags (s : State) (e : StackEntry) : (openEntry s e).stack.full = s.stack.full ∧
    (openEntry s e).stack.fullClass = s.stack.fullClass := ⟨rfl, rfl⟩

@[simp] theorem foldl_openEntry_flags (l : List StackEntry) (s : State) :
    (l.foldl openEntry s).stack.full = s.stack.full ∧ (l.foldl openEntry s).stack.fullClass = s.stack.fullClass := by
  induction l generalizing s with
  | nil => exact ⟨rfl, rfl⟩
  | cons e l ih => exact ih _

@[simp] theorem pushEntry_flags (p : Fin 7) (s : State) : (pushEntry p s).stack.full = s.stack.full ∧
    (pushEntry p s).stack.fullClass = s.stack.fullClass := by
  simp [pushEntry]

theorem modeFollows_openPosition (p : Fin 7) {s : State} (h : ModeFollows s) : ModeFollows (openPosition p s) := by
  unfold openPosition announceFirst
  refine modeFollows_heldChanged _ ?_
  split <;> exact h.of_same (by simp) (by simp) (by simp) (by simp)

theorem modeFollows_refuseFull {s : State} (h : ModeFollows s) : ModeFollows (refuseFull s) := by
  unfold refuseFull
  simp only
  split
  · exact modeFollows_haltMachine h.laws
  · rename_i hclass
    refine h.of_modes rfl ?_
    rintro (ha | ⟨-, ha⟩ | ha)
    · exact .inl ha
    · exact absurd ha hclass
    · exact .inr (.inr ha)

theorem modeFollows_closeSet (p : Fin 7) {s : State} (h : ModeFollows s) : ModeFollows (closeSet p s) := by
  unfold closeSet
  simp only
  split
  · have hpopped := modeFollows_popEntry (s := { s with ring := { s.ring with setList := s.ring.setList ++ [p], state := .closing } })
      (h.of_blocks rfl rfl rfl)
    exact modeFollows_ringTest (hpopped.of_blocks (by simp) (by simp) (by simp))
  · exact modeFollows_popEntry (h.of_blocks rfl rfl rfl)

theorem modeFollows_closeNotSet (p : Fin 7) {s : State} (h : ModeFollows s) : ModeFollows (closeNotSet p s) := by
  unfold closeNotSet
  simp only
  split
  · exact modeFollows_popEntry (h.of_blocks rfl rfl rfl)
  · exact modeFollows_abortRing _ ((modeFollows_popEntry h).of_blocks rfl rfl rfl)

theorem modeFollows_grantEntries (which : StackEntry → Bool) {s : State} (h : ModeFollows s) :
    ModeFollows (grantEntries which s) := by
  have hfold : ∀ (l : List StackEntry) (t : State), ModeFollows t →
      ModeFollows (l.foldl (fun s e => refresh (openEntry s e)) t) := by
    intro l
    induction l with
    | nil => exact fun t ht => ht
    | cons e l ih => exact fun t ht => ih _ (modeFollows_bySwitch.refresh _ (ht.of_same (by simp) (by simp) (by simp) (by simp)))
  exact hfold _ s h

theorem modeFollows_afterResolution (g : Fin 16) {s : State} (h : ModeFollows s) : ModeFollows (afterResolution g s) := by
  unfold afterResolution
  split
  case h_3 => exact modeFollows_grantEntries _ h
  all_goals exact h.of_blocks (by simp) (by simp) (by simp)

/-! ## Every command -/

theorem modeFollows_warmReset {s : State} (h : ModeFollows s) : ModeFollows (warmReset s) := by
  have hblocks : ModeFollows (evalConditions (resetBlocks s)) := by
    obtain ⟨hlaws, hheld⟩ := (modeFollows_iff s).mp h
    have hmodes : (evalConditions (resetBlocks s)).modes = s.modes.reset := rfl
    have hdrive : (linkOf (evalConditions (resetBlocks s)) .drive) = (linkOf s .drive).reset := by
      simp [linkOf, resetBlocks]
    refine (modeFollows_iff _).mpr ⟨?_, ?_⟩
    · rw [hmodes]
      refine ⟨fun h1 h2 => ?_, rfl, fun e => Claim.noConfusion e, fun e => Claim.noConfusion e, fun _ => rfl,
        fun _ => ⟨rfl, rfl⟩⟩
      show s.modes.mode.reset = .standstill
      have h1' : s.modes.mode.reset ≠ .uncommissioned := h1
      have h2' : s.modes.mode.reset ≠ .halted := h2
      cases hm : s.modes.mode <;> simp_all [Mode.reset]
    · rw [hmodes]
      intro h1 ha
      have h1' : s.modes.mode ≠ .uncommissioned := by
        rintro e
        exact h1 (show s.modes.mode.reset = _ by rw [e]; rfl)
      have hactive : HaltActive s := by
        unfold HaltActive at ha
        rw [hdrive] at ha
        exact ha
      show s.modes.mode.reset = _
      rw [hheld h1' hactive]
      rfl
  exact modeFollows_bySwitch.refresh _ (modeFollows_bySwitch.switchTest hblocks)

theorem modeFollows_commission {s : State} (h : ModeFollows s) (hmode : s.modes.mode = .uncommissioned) :
    ModeFollows (commission s) := by
  obtain ⟨hadvance, hbuild⟩ := h.early hmode
  have htaken : ModeFollows (modeTaken s) := by
    unfold modeTaken
    split
    · rename_i hnone
      have hidle : ¬ HaltActive s := by
        rw [← activeHalts_ne_nil_iff]
        simpa using hnone
      refine modeFollows_enterMode ⟨?_, h.output, fun _ ha => absurd ha hidle⟩ _
      simp only [hadvance, hbuild]
      exact ⟨fun _ _ => by simp [ModeUnit.entered, hadvance, hbuild], rfl, by simp [ModeUnit.entered, hadvance],
        by simp [ModeUnit.entered, hbuild], fun _ => hadvance, fun _ => ⟨hadvance, hbuild⟩⟩
    · refine modeFollows_enterMode ⟨?_, by exact h.output, fun _ _ => rfl⟩ _
      exact ⟨fun _ e => absurd rfl e, rfl, fun e => Claim.noConfusion e,
        fun e => absurd e (by simp [ModeUnit.entered, ModeUnit.claimsAtHalt, hbuild]), fun _ => rfl,
        fun e => Mode.noConfusion e⟩
  exact htaken.of_blocks rfl rfl rfl

theorem modeFollows_haltClear {s : State} (h : ModeFollows s) (hmode : s.modes.mode = .halted)
    (hother : otherHalt s = false) : ModeFollows (deriveMode .haltClear (setOperatorHalt false s)) := by
  have hadvance := h.halted hmode
  refine modeFollows_enterMode ⟨?_, by exact h.output, fun _ ha => ?_⟩ _
  · exact ⟨fun _ _ => rfl, rfl, h.advanceWaits, h.buildWaits, fun e => absurd e (derivedMode_ne_halted _ _),
      fun e => absurd e (derivedMode_ne_uncommissioned _ _)⟩
  · obtain ha | ha := ha
    · cases ha
    · exact absurd ha (otherHalt_eq_false (s := s) hother)

/-- An arrival leaves a link as active as it was, or makes it ACTIVE. -/
theorem deliver_active (p : Port) (s : State) (x : Frame × Nat) :
    (linkOf (deliver p s x) .drive).active = true ∨ linkOf (deliver p s x) .drive = linkOf s .drive := by
  by_cases hp : p = .drive
  · subst hp
    left
    unfold deliver
    simp only
    split
    · simp [LinkRec.receive]
    · rw [linkOf_of_links (onActive_links ..)]
      simp [LinkRec.receive]
  · exact .inr (linkOf_deliver_other hp s x)

/-- After an arrival the Drive link is ACTIVE, or what its state was. -/
def DriveNoWorse (s t : State) : Prop :=
  (linkOf t .drive).active = true ∨
    ((linkOf t .drive).active = (linkOf s .drive).active ∧ (linkOf t .drive).ever = (linkOf s .drive).ever)

theorem driveNoWorse_setLink (p : Port) {l : LinkRec} {s : State} (ha : l.active = (linkOf s p).active)
    (he : l.ever = (linkOf s p).ever) : DriveNoWorse s (setLink p l s) := by
  right
  by_cases hp : p = .drive
  · subst hp
    simp [ha, he]
  · simp [hp]

theorem DriveNoWorse.trans {s t u : State} (h : DriveNoWorse s t) (h' : DriveNoWorse t u) : DriveNoWorse s u := by
  obtain h' | ⟨ha, he⟩ := h'
  · exact .inl h'
  · unfold DriveNoWorse at *
    rwa [ha, he]

theorem driveNoWorse_receive (p : Port) (s : State) : DriveNoWorse s (receive p s) := by
  have hfold : ∀ (l : List (Frame × Nat)) (t : State), DriveNoWorse t (l.foldl (deliver p) t) := by
    intro l
    induction l with
    | nil => exact fun t => .inr ⟨rfl, rfl⟩
    | cons x l ih =>
      intro t
      refine DriveNoWorse.trans ?_ (ih _)
      obtain h | h := deliver_active p t x
      · exact .inl h
      · exact .inr (by rw [h]; exact ⟨rfl, rfl⟩)
  refine DriveNoWorse.trans ?_ (hfold _ _)
  exact driveNoWorse_setLink p rfl rfl

theorem ModeFollows.of_arrival {s t : State} (h : ModeFollows s) (hmodes : t.modes = s.modes)
    (hstack : t.stack = s.stack) (hdrive : DriveNoWorse s t) : ModeFollows t := by
  refine h.of_modes hmodes ?_
  rintro (ha | ha | ⟨hever, hactive⟩)
  · exact .inl (hmodes ▸ ha)
  · exact .inr (.inl (hstack ▸ ha))
  · obtain ha | ⟨ha, he⟩ := hdrive
    · exact absurd (ha.symm.trans hactive) (by simp)
    · exact .inr (.inr ⟨he ▸ hever, ha ▸ hactive⟩)

theorem modeFollows_silenceLink {s : State} (h : ModeFollows s) (p : Port) : ModeFollows (silenceLink p s) := by
  unfold silenceLink
  simp only
  split
  · exact modeFollows_haltMachine h.laws
  · rename_i hp
    exact h.of_arrival rfl rfl (.inr (by simp [hp]))

theorem claimBeside_sound (b : Claim) (together : Bool) (hb : b ≠ .pending) : ClaimsSound (claimBeside b together) b := by
  unfold claimBeside
  split
  · rename_i h
    exact ⟨fun _ => h.1, fun e => absurd e hb⟩
  · exact ⟨fun e => Claim.noConfusion e, fun e => absurd e hb⟩

theorem buildClaimBeside_sound (a : Claim) (together : Bool) (ha : a ≠ .pending) :
    ClaimsSound a (buildClaimBeside a together) := by
  unfold buildClaimBeside
  split
  · rename_i h
    exact ⟨fun e => absurd e ha, fun _ => h.1⟩
  · exact ⟨fun e => absurd e ha, fun e => Claim.noConfusion e⟩

theorem commissioned_iff (s : State) : commissioned s = true ↔ s.modes.mode ≠ .uncommissioned := by
  simp [commissioned]

theorem granted_ne_pending (c : Claim) : c.granted ≠ .pending := by
  cases c <;> simp [Claim.granted]

theorem modeFollows_strokesTaken (a : StrokeArgs) {s : State} (h : ModeFollows s) : ModeFollows (strokesTaken a s) := by
  have hcounted : ModeFollows (strokesCounted a s) := h.of_blocks rfl rfl rfl
  exact (modeFollows_bySwitch.closeAndTest (strokesCounted a s).account.accumulator hcounted).of_blocks rfl rfl rfl

theorem modeFollows_ringArmed (row : PlanRow) {s : State} (h : ModeFollows s) : ModeFollows (ringArmed row s).1 := by
  unfold ringArmed raiseSelection
  split
  · exact h.of_blocks (by simp) (by simp) (by simp)
  · exact modeFollows_bySwitch.selectProfile _ (h.of_blocks (by simp) (by simp) (by simp))

theorem modeFollows_drops {s : State} (h : ModeFollows s) :
    (s.modes.advance = .pending → ModeFollows { s with modes := { s.modes with advance := .absent } }) ∧
    (s.modes.build = .pending → ModeFollows { s with modes := { s.modes with build := .absent } }) := by
  obtain ⟨hlaws, hheld⟩ := (modeFollows_iff s).mp h
  constructor <;> intro hp <;> refine (modeFollows_iff _).mpr ⟨?_, fun he ha => hheld he (ha.congr rfl rfl rfl rfl)⟩
  · have hb := h.advanceWaits hp
    refine ⟨fun h1 h2 => (h.derived h1 h2).trans ?_, h.output, fun e => Claim.noConfusion e,
      fun e => absurd (hb.symm.trans e) (by simp), fun _ => rfl, fun e => absurd ((h.early e).1.symm.trans hp) (by simp)⟩
    simp [hp, hb, derivedMode]
  · have ha := h.buildWaits hp
    refine ⟨fun h1 h2 => (h.derived h1 h2).trans ?_, h.output, fun e => absurd (ha.symm.trans e) (by simp),
      fun e => Claim.noConfusion e, fun e => absurd ((h.halted e).symm.trans ha) (by simp),
      fun e => absurd ((h.early e).1.symm.trans ha) (by simp)⟩
    simp [hp, ha, derivedMode]

/-- The requests that change a claim (R164 to R166). -/
theorem effect_claims_keeps_modeFollows {u v : State} (h : ModeFollows u) (p : Port) :
    (Effect (.claimAdvance p) u v → ModeFollows v) ∧ (Effect (.dropAdvance p) u v → ModeFollows v) ∧
    (Effect (.claimBuild p) u v → ModeFollows v) ∧ (Effect (.dropBuild p) u v → ModeFollows v) := by
  have hearly : commissioned u = true → ∀ P : Prop, u.modes.mode = .uncommissioned → P := fun hc P e =>
    absurd e ((commissioned_iff u).mp hc)
  refine ⟨fun he => ?_, fun he => ?_, fun he => ?_, fun he => ?_⟩
  · obtain ⟨hc, hhalt, hadvance, rfl⟩ := acts_claimAdvance he
    have hb : u.modes.build ≠ .pending := fun e => by simpa [hadvance] using h.buildWaits e
    exact modeFollows_claimsChanged h (claimBeside_sound _ _ hb) (fun e => absurd e hhalt) (hearly hc _) _
  · obtain ⟨hp, rfl⟩ | ⟨hc, -, rfl⟩ := acts_dropAdvance he
    · exact (modeFollows_drops h).1 hp
    · exact modeFollows_claimsChanged h (a := .absent) ⟨fun e => Claim.noConfusion e,
        fun e => absurd e (granted_ne_pending _)⟩ (fun _ => rfl) (hearly hc _) _
  · obtain ⟨hc, hbuild, rfl⟩ := acts_claimBuild he
    have ha : u.modes.advance ≠ .pending := fun e => by simpa [hbuild] using h.advanceWaits e
    exact modeFollows_claimsChanged h (buildClaimBeside_sound _ _ ha) h.halted (hearly hc _) _
  · obtain ⟨hp, rfl⟩ | ⟨hc, -, -, rfl⟩ := acts_dropBuild he
    · exact (modeFollows_drops h).2 hp
    · refine modeFollows_claimsChanged h (b := .absent) ⟨fun e => absurd e (granted_ne_pending _),
        fun e => Claim.noConfusion e⟩ (fun e => ?_) (hearly hc _) _
      rw [h.halted e]
      rfl

theorem effect_keeps_modeFollows {c : Instr} {u v : State} (he : Effect c u v) (h : ModeFollows u) : ModeFollows v := by
  have hkeeps := effect_alters_chamber he
  have hstack : Block.modes ∉ mayChange c → reachesLink c .drive = false →
      (v.stack.full = u.stack.full ∧ v.stack.fullClass = u.stack.fullClass) → ModeFollows v := by
    intro hm hl hs
    refine h.of_modes (hkeeps.modes (by simpa using hm)) ?_
    unfold HaltActive
    rw [hkeeps.modes (by simpa using hm), hs.1, hs.2, hkeeps.links _ hl]
    exact id
  have hother : Block.modes ∉ mayChange c → Block.stack ∉ mayChange c → reachesLink c .drive = false → ModeFollows v :=
    fun hm hs hl => hstack hm hl (by rw [hkeeps.stack (by simpa using hs)]; exact ⟨rfl, rfl⟩)
  cases c
  case powerOn | supplyLoss | planBlankCheck | planVerify | planStatus | read | unknownRequest => exact he.elim
  case resetInput ms =>
    obtain rfl | rfl := he
    · exact h
    · exact modeFollows_warmReset h
  case warmReset p => exact acts_warmReset he ▸ modeFollows_warmReset h
  case frameReceive p bytes =>
    obtain rfl := he
    refine h.of_arrival (by simp) (by simp) (DriveNoWorse.trans ?_ (driveNoWorse_receive p _))
    exact driveNoWorse_setLink p rfl rfl
  case frameTimeout p =>
    obtain rfl := he
    exact h.of_arrival (by simp) (by simp) (driveNoWorse_receive p u)
  case linkSilenceExpiry p =>
    obtain ⟨-, rfl⟩ := he
    exact modeFollows_silenceLink h p
  case strokeReport p =>
    obtain ⟨a, rfl⟩ := acts_strokeReport he
    exact modeFollows_strokesTaken a h
  case claimAdvance p => exact (effect_claims_keeps_modeFollows h p).1 he
  case dropAdvance p => exact (effect_claims_keeps_modeFollows h p).2.1 he
  case claimBuild p => exact (effect_claims_keeps_modeFollows h p).2.2.1 he
  case dropBuild p => exact (effect_claims_keeps_modeFollows h p).2.2.2 he
  case halt p =>
    obtain ⟨-, rfl⟩ := acts_halt he
    have hlaws := h.laws
    exact modeFollows_haltMachine ⟨hlaws.derived, hlaws.output, hlaws.advanceWaits, hlaws.buildWaits, hlaws.halted,
      hlaws.early⟩
  case haltClear p =>
    obtain ⟨hmode, hclear, rfl⟩ := acts_haltClear he
    exact modeFollows_haltClear h hmode hclear
  case ringArm p =>
    obtain ⟨row, -, -, rfl⟩ := acts_ringArm he
    exact modeFollows_ringArmed row h
  case segmentOpen p =>
    obtain ⟨q, -, rfl | ⟨-, rfl⟩⟩ := acts_segmentOpen he
    · exact modeFollows_refuseFull h
    · exact modeFollows_openPosition q h
  case segmentClose p =>
    obtain ⟨-, rfl⟩ | ⟨e, rest, -, ⟨-, rfl⟩ | rfl⟩ := acts_segmentClose he
    · exact h.of_same rfl rfl rfl rfl
    · exact modeFollows_closeSet _ h
    · exact modeFollows_closeNotSet _ h
  case ringAbort p =>
    obtain ⟨-, rfl⟩ | ⟨-, rfl⟩ := acts_ringAbort he
    · exact h.of_blocks rfl rfl rfl
    · exact modeFollows_abortRing _ h
  case profileSelect p =>
    obtain ⟨n, rfl⟩ := acts_profileSelect he
    exact modeFollows_bySwitch.selectProfile n h
  case constantsWrite p =>
    obtain ⟨k, -, rfl⟩ := acts_constantsWrite he
    have hk : ModeFollows (installConstants k u) := h.of_blocks rfl rfl rfl
    split
    · exact modeFollows_commission hk ‹_›
    · exact hk
  case retractDone p =>
    obtain ⟨g, -, rfl⟩ := acts_retractDone he
    exact modeFollows_grantEntries _ (h.of_blocks rfl rfl rfl)
  case groupState p =>
    obtain ⟨g, x, -, rfl⟩ := acts_groupState he
    have hresolved := modeFollows_afterResolution g (s := updateMean (setGroup g (u.groups[g].resolved x u.now) u))
      (h.of_blocks rfl rfl rfl)
    exact hresolved.of_blocks (by simp) (by simp) (by simp)
  case segmentPlaced p =>
    obtain ⟨e, rest, -, -, rfl⟩ := acts_segmentPlaced he
    exact h.of_same rfl rfl rfl rfl
  case flagsClear p =>
    obtain rfl := acts_flagsClear he
    refine h.of_modes rfl ?_
    rintro (ha | ⟨ha, -⟩ | ha)
    · exact .inl ha
    · cases ha
    · exact .inr (.inr ha)
  case releaseTimerExpiry q =>
    obtain ⟨-, rfl⟩ := he
    exact h.of_same rfl rfl rfl rfl
  all_goals exact hother (by simp [mayChange]) (by simp [mayChange]) rfl

theorem SameRecords.modeFollows {p : Option Port} {s t : State} (h : SameRecords p s t) (hs : ModeFollows s) :
    ModeFollows t := by
  refine hs.of_arrival h.modes h.stack (.inr ?_)
  obtain e | ⟨-, e⟩ := h.links .drive <;> rw [e]
  · exact ⟨rfl, rfl⟩
  · exact ⟨rfl, rfl⟩

theorem modeFollows_powerUp (failed : StoredFailures) (s : State) : ModeFollows (powerUp failed s) := by
  have hmode : (powerUp failed s).modes.mode = .uncommissioned ∨ (powerUp failed s).modes.mode = .standstill := by
    simp only [powerUp, blocksAtPowerOn, ModeUnit.initial]
    split <;> simp
  refine (modeFollows_iff _).mpr ⟨⟨fun h1 _ => hmode.resolve_left h1, ?_, fun e => Claim.noConfusion e,
    fun e => Claim.noConfusion e, fun _ => rfl, fun _ => ⟨rfl, rfl⟩⟩, fun _ => ?_⟩
  · obtain e | e := hmode <;> rw [e] <;> rfl
  · rintro (ha | ⟨ha, -⟩ | ⟨ha, -⟩) <;> cases ha

theorem Closes.modeFollows {v t : State} (h : Closes v t) (hv : ModeFollows v) : ModeFollows t :=
  hv.of_blocks h.inputs.modes h.inputs.stack h.inputs.links

/-- Settles O7. -/
theorem modeKeepsFollowing : Obligations.ModeKeepsFollowing :=
  step_keeps (fun _ _ _ h => h.modeFollows) (fun failed s _ => modeFollows_powerUp failed s)
    (fun _ _ _ => effect_keeps_modeFollows) fun _ _ h => h.modeFollows

end Sys2Proof.Machine

/-! Hold counts and release stack agree (R44). -/

namespace Sys2Proof.Machine

set_option Elab.async false

/-! ## What a change of mode and a profile switch leave of groups, stack, ring and plan -/

/-- The positions and the covers of the release stack, from the top. -/
def stackKeys (s : State) : List (Fin 7 × List (Fin 16)) := s.stack.entries.map fun e => (e.position, e.cover)

/-- From `s` to `t` groups, ring and plan stay, and the stack holds the same positions with the same covers. -/
structure StackAside (s t : State) : Prop where
  groups : t.groups = s.groups
  ring   : t.ring = s.ring
  plan   : t.plan = s.plan
  keys   : stackKeys t = stackKeys s

theorem StackAside.refl (s : State) : StackAside s s := ⟨rfl, rfl, rfl, rfl⟩

theorem StackAside.trans {s t u : State} (h : StackAside s t) (h' : StackAside t u) : StackAside s u :=
  ⟨h'.groups.trans h.groups, h'.ring.trans h.ring, h'.plan.trans h.plan, h'.keys.trans h.keys⟩

theorem StackAside.of_blocks {s t : State} (hgroups : t.groups = s.groups) (hring : t.ring = s.ring)
    (hplan : t.plan = s.plan) (hstack : t.stack = s.stack) : StackAside s t :=
  ⟨hgroups, hring, hplan, by simp [stackKeys, hstack]⟩

/-- Entries changed one by one keep their keys. -/
theorem stackKeys_map {s t : State} {f : StackEntry → StackEntry} (h : t.stack.entries = s.stack.entries.map f)
    (hf : ∀ e, (f e).position = e.position ∧ (f e).cover = e.cover) : stackKeys t = stackKeys s := by
  simp [stackKeys, h, Function.comp_def, hf]

theorem stackAside_changeMode (m : Mode) (cause : ModeCause) (s : State) : StackAside s (changeMode m cause s) :=
  .of_blocks (by simp) (by simp) (by simp) (by simp)

theorem stackAside_carried (u : State) : CarriedByMode (StackAside u) where
  overtime := fun s h => h.trans ⟨rfl, rfl, rfl, stackKeys_map rfl fun _ => ⟨rfl, rfl⟩⟩
  raised := fun s n h => h.trans (.of_blocks rfl rfl rfl rfl)
  claims := fun s m _ h => h.trans (.of_blocks rfl rfl rfl rfl)
  refresh := fun s h => h.trans (.of_blocks (by simp) (by simp) (by simp) (by simp))
  closure := fun s h => h.trans (.of_blocks (by simp) (by simp) (by simp) (by simp))
  judge := fun s h => h.trans (.of_blocks rfl rfl rfl rfl)
  switch := fun n s _ h => h.trans
    (.of_blocks (by simp [switchUnits]) (by simp [switchUnits]) (by simp [switchUnits]) (by simp [switchUnits]))
  mode := fun m cause s _ _ _ h => h.trans (stackAside_changeMode m cause s)

theorem stackAside_heldChanged (before : Nat) (s : State) : StackAside s (heldChanged before s) :=
  (stackAside_carried s).heldChanged before (.refl s)

theorem stackAside_refresh (s : State) : StackAside s (refresh s) := (stackAside_carried s).refresh s (.refl s)

theorem stackAside_warmReset (s : State) : StackAside (evalConditions (resetBlocks s)) (warmReset s) := by
  have h := stackAside_carried (evalConditions (resetBlocks s))
  exact h.refresh _ (h.switchTest (.refl _))

/-! ## Steps that keep the hold counts -/

/-- From `s` to `t` the groups keep their hold counts and the stack its keys. -/
structure HoldsKept (s t : State) : Prop where
  counts : ∀ g : Fin 16, t.groups[g].holdCount = s.groups[g].holdCount
  keys   : stackKeys t = stackKeys s

theorem HoldsKept.refl (s : State) : HoldsKept s s := ⟨fun _ => rfl, rfl⟩

theorem HoldsKept.trans {s t u : State} (h : HoldsKept s t) (h' : HoldsKept t u) : HoldsKept s u :=
  ⟨fun g => (h'.counts g).trans (h.counts g), h'.keys.trans h.keys⟩

theorem StackAside.holdsKept {s t : State} (h : StackAside s t) : HoldsKept s t :=
  ⟨fun g => by rw [h.groups], h.keys⟩

theorem HoldsKept.of_blocks {s t : State} (hgroups : t.groups = s.groups) (hstack : t.stack = s.stack) :
    HoldsKept s t :=
  ⟨fun g => by rw [hgroups], by simp [stackKeys, hstack]⟩

theorem HoldsKept.of_updateEach {s t : State} {f : Fin 16 → GroupRec → GroupRec}
    (hgroups : t.groups = updateEach s.groups f) (hf : ∀ i g, (f i g).holdCount = g.holdCount)
    (hstack : t.stack = s.stack) : HoldsKept s t :=
  ⟨fun g => by simp [hgroups, hf], by simp [stackKeys, hstack]⟩

theorem holdsKept_setGroup (g : Fin 16) {r : GroupRec} {s : State} (h : r.holdCount = s.groups[g].holdCount) :
    HoldsKept s (setGroup g r s) := by
  refine ⟨fun i => ?_, rfl⟩
  by_cases hi : g = i
  · subst hi
    simpa [setGroup] using h
  · have hne : g.val ≠ i.val := fun e => hi (Fin.ext e)
    simp [setGroup, hne]

theorem countP_cover_eq (s : State) (g : Fin 16) :
    (s.stack.entries.countP fun e => e.cover.contains g) = (stackKeys s).countP fun k => k.2.contains g := by
  rw [stackKeys, List.countP_map]
  rfl

theorem HoldsKept.holdCountsMatch {s t : State} (hk : HoldsKept s t) (h : HoldCountsMatch s) : HoldCountsMatch t := by
  intro g
  rw [hk.counts, h g, countP_cover_eq, countP_cover_eq, hk.keys]

theorem resolved_holdCount (r : GroupRec) (x : GroupPosition) (now : Nat) :
    (r.resolved x now).holdCount = r.holdCount := by
  unfold GroupRec.resolved
  split <;> rfl

theorem reset_holdCount (now : Nat) (g : GroupRec) : (g.reset now).holdCount = g.holdCount := by
  unfold GroupRec.reset
  split <;> rfl

theorem strokeRecord_holdCount (s : State) (a : StrokeArgs) (i : Fin 16) (g : GroupRec) :
    (strokeRecord s a i g).holdCount = g.holdCount := by
  unfold strokeRecord
  split <;> rfl

theorem stackKeys_openEntry (s : State) {e : StackEntry} : stackKeys (openEntry s e) = stackKeys s := by
  refine stackKeys_map (f := fun x => if x = e then { e with state := .opened } else x) rfl fun x => ?_
  split
  · rename_i h
    simp [h]
  · exact ⟨rfl, rfl⟩

theorem holdsKept_openEntry (s : State) (e : StackEntry) : HoldsKept s (openEntry s e) :=
  ⟨fun g => by simp, stackKeys_openEntry s⟩

theorem holdsKept_foldl_openEntry (l : List StackEntry) (s : State) : HoldsKept s (l.foldl openEntry s) := by
  induction l generalizing s with
  | nil => exact .refl s
  | cons e l ih => exact (holdsKept_openEntry s e).trans (ih _)

theorem holdsKept_grantEntries (which : StackEntry → Bool) (s : State) : HoldsKept s (grantEntries which s) := by
  have hfold : ∀ (l : List StackEntry) (t : State), HoldsKept t (l.foldl (fun s e => refresh (openEntry s e)) t) := by
    intro l
    induction l with
    | nil => exact .refl
    | cons e l ih => exact fun t => ((holdsKept_openEntry t e).trans (stackAside_refresh _).holdsKept).trans (ih _)
  exact hfold _ s

theorem holdsKept_afterResolution (g : Fin 16) (s : State) : HoldsKept s (afterResolution g s) := by
  unfold afterResolution
  split
  case h_3 => exact holdsKept_grantEntries _ s
  all_goals exact .of_blocks (by simp) (by simp)

theorem holdsKept_ringTest (s : State) : HoldsKept s (ringTest s) := .of_blocks (by simp) (by simp)

theorem holdsKept_ringTestAfter (x : GroupState) (s : State) : HoldsKept s (ringTestAfter x s) :=
  .of_blocks (by simp) (by simp)

theorem holdsKept_updateMean (s : State) : HoldsKept s (updateMean s) := .of_blocks rfl rfl

theorem holdsKept_strokesTaken (a : StrokeArgs) (s : State) : HoldsKept s (strokesTaken a s) := by
  have hcounted : HoldsKept s (strokesCounted a s) := .of_updateEach rfl (strokeRecord_holdCount s a) rfl
  have hclosed := (stackAside_carried (strokesCounted a s)).closeAndTest
    (strokesCounted a s).account.accumulator (.refl (strokesCounted a s))
  refine (hcounted.trans hclosed.holdsKept).trans ?_
  exact .of_blocks rfl rfl

theorem holdsKept_warmReset (s : State) : HoldsKept s (warmReset s) := by
  refine .trans ?_ (stackAside_warmReset s).holdsKept
  refine ⟨fun g => ?_, stackKeys_map rfl fun _ => ⟨rfl, rfl⟩⟩
  simp [resetBlocks, reset_holdCount]

theorem holdsKept_modeTaken (s : State) : HoldsKept s (commission s) := by
  have h := (stackAside_carried s).modeTaken (fun m cause t h => h.trans (stackAside_changeMode m cause t)) (.refl s)
  exact h.holdsKept.trans (.of_blocks rfl rfl)

/-! ## Push and pop -/

/-- A push is one entry more, and one hold more for each group of its cover (R49). -/
theorem pushEntry_holds (p : Fin 7) (s : State) :
    (∀ g : Fin 16, (pushEntry p s).groups[g].holdCount =
      s.groups[g].holdCount + if (ringCover s.ring p).contains g then 1 else 0) ∧
    stackKeys (pushEntry p s) = (p, ringCover s.ring p) :: stackKeys s := by
  unfold pushEntry
  extract_lets cover listed entry stack t u
  have hopened := holdsKept_foldl_openEntry (grantableEntries (fun e => e.position = p) u) u
  have ht : ∀ g : Fin 16, t.groups[g].holdCount = s.groups[g].holdCount + if cover.contains g then 1 else 0 := by
    intro g
    simp only [t, Fin.getElem_fin, getElem_updateEach]
    split
    · unfold GroupRec.pushed
      split <;> simp_all
    · rfl
  have hu : HoldsKept t u := .of_blocks (by simp [u]) (by simp [u])
  exact ⟨fun g => ((hu.trans hopened).counts g).trans (ht g), (hu.trans hopened).keys⟩

theorem holdCountsMatch_pushEntry (p : Fin 7) {s : State} (h : HoldCountsMatch s) : HoldCountsMatch (pushEntry p s) := by
  intro g
  obtain ⟨hcounts, hkeys⟩ := pushEntry_holds p s
  rw [hcounts, h g, countP_cover_eq, countP_cover_eq, hkeys, List.countP_cons]

/-- The state after the top entry has left, before the change of the held groups is handed on (R53). -/
def popped (e : StackEntry) (rest : List StackEntry) (s : State) : State :=
  { s with
    groups := updateEach s.groups fun i g => if e.cover.contains i then g.popped s.now else g
    stack := { s.stack with entries := rest } }

theorem popEntry_cons {s : State} {e : StackEntry} {rest : List StackEntry} (h : s.stack.entries = e :: rest) :
    popEntry s = refresh (heldChanged (heldGroups s)
      (sendExtend (e.cover.filter fun g => s.groups[g].returns) (some e.position) (popped e rest s))) := by
  rw [popEntry, h]
  rfl

theorem popEntry_nil {s : State} (h : s.stack.entries = []) : popEntry s = s := by
  rw [popEntry, h]

theorem popped_holdCount (e : StackEntry) (rest : List StackEntry) (s : State) (g : Fin 16) :
    (popped e rest s).groups[g].holdCount = s.groups[g].holdCount - if e.cover.contains g then 1 else 0 := by
  simp only [popped, Fin.getElem_fin, getElem_updateEach]
  split
  · unfold GroupRec.popped
    split <;> rfl
  · rfl

theorem popEntry_aside {s : State} {e : StackEntry} {rest : List StackEntry} (h : s.stack.entries = e :: rest) :
    StackAside (popped e rest s) (popEntry s) := by
  rw [popEntry_cons h]
  refine .trans (.trans ?_ (stackAside_heldChanged _ _)) (stackAside_refresh _)
  exact .of_blocks (by simp) (by simp) (by simp) (by simp)

theorem holdCountsMatch_popEntry {s : State} (h : HoldCountsMatch s) : HoldCountsMatch (popEntry s) := by
  cases hs : s.stack.entries with
  | nil => rwa [popEntry_nil hs]
  | cons e rest =>
    refine (popEntry_aside hs).holdsKept.holdCountsMatch fun g => ?_
    have hg := h g
    rw [hs, List.countP_cons] at hg
    rw [popped_holdCount, hg]
    simp only [popped]
    omega

theorem holdCountsMatch_popMany (n : Nat) {s : State} (h : HoldCountsMatch s) : HoldCountsMatch (popMany n s) := by
  induction n generalizing s with
  | zero => exact h
  | succ n ih => exact ih (holdCountsMatch_popEntry h)

theorem holdCountsMatch_abortRing (cause : RingCause) {s : State} (h : HoldCountsMatch s) :
    HoldCountsMatch (abortRing cause s) := by
  have hpopped := holdCountsMatch_popMany s.stack.entries.length h
  unfold abortRing
  refine (holdsKept_ringTest _).holdCountsMatch (HoldsKept.holdCountsMatch ?_ hpopped)
  exact .of_blocks (by simp) (by simp)

theorem holdCountsMatch_openPosition (p : Fin 7) {s : State} (h : HoldCountsMatch s) :
    HoldCountsMatch (openPosition p s) := by
  unfold openPosition announceFirst
  refine (stackAside_heldChanged _ _).holdsKept.holdCountsMatch (HoldsKept.holdCountsMatch ?_ (holdCountsMatch_pushEntry p h))
  split <;> exact .of_blocks (by simp) (by simp)

theorem holdCountsMatch_closeSet (p : Fin 7) {s : State} (h : HoldCountsMatch s) : HoldCountsMatch (closeSet p s) := by
  have hring : ∀ r : RingRec, HoldCountsMatch { s with ring := r } := fun _ => h
  unfold closeSet
  simp only
  split
  · refine (holdsKept_ringTest _).holdCountsMatch (HoldsKept.holdCountsMatch ?_
      (holdCountsMatch_popEntry (hring { s.ring with setList := s.ring.setList ++ [p], state := .closing })))
    exact .of_blocks (by simp) (by simp)
  · exact holdCountsMatch_popEntry (hring _)

theorem holdCountsMatch_closeNotSet (p : Fin 7) {s : State} (h : HoldCountsMatch s) :
    HoldCountsMatch (closeNotSet p s) := by
  have hring : ∀ r : RingRec, HoldCountsMatch { s with ring := r } := fun _ => h
  unfold closeNotSet
  simp only
  split
  · exact holdCountsMatch_popEntry (hring _)
  · exact holdCountsMatch_abortRing _ (holdCountsMatch_popEntry h)

theorem holdsKept_refuseFull (s : State) : HoldsKept s (refuseFull s) := by
  unfold refuseFull
  simp only
  split
  · refine .trans ?_ ((stackAside_carried _).haltMachine (.refl _)).holdsKept
    exact ⟨fun _ => rfl, rfl⟩
  · exact ⟨fun _ => rfl, rfl⟩

theorem holdsKept_silenceLink (p : Port) (s : State) : HoldsKept s (silenceLink p s) := by
  unfold silenceLink
  simp only
  split
  · refine .trans ?_ ((stackAside_carried _).haltMachine (.refl _)).holdsKept
    exact .of_blocks rfl rfl
  · exact .of_blocks rfl rfl

theorem holdsKept_claimsChanged (cause : ModeCause) (s : State) (m : ModeUnit) :
    HoldsKept s (claimsChanged cause { s with modes := m }) := by
  refine .trans ?_ ((stackAside_carried { s with modes := m }).claimsChanged cause (.refl _)).holdsKept
  exact .of_blocks rfl rfl

theorem holdsKept_ringArmed (row : PlanRow) (s : State) : HoldsKept s (ringArmed row s).1 := by
  unfold ringArmed raiseSelection
  split
  · exact .of_blocks (by simp) (by simp)
  · refine .trans ?_ ((stackAside_carried _).selectProfile _ (.refl _)).holdsKept
    exact .of_blocks (by simp) (by simp)

theorem effect_keeps_holdCounts {c : Instr} {u v : State} (he : Effect c u v) (h : HoldCountsMatch u) :
    HoldCountsMatch v := by
  have hkeeps := effect_alters_chamber he
  have hother : Block.groups ∉ mayChange c → Block.stack ∉ mayChange c → HoldCountsMatch v := fun hg hs =>
    HoldsKept.holdCountsMatch (.of_blocks (hkeeps.groups (by simpa using hg)) (hkeeps.stack (by simpa using hs))) h
  suffices hkept : HoldsKept u v ∨ HoldCountsMatch v from hkept.elim (fun hk => hk.holdCountsMatch h) id
  cases c
  case powerOn | supplyLoss | planBlankCheck | planVerify | planStatus | read | unknownRequest => exact he.elim
  case resetInput ms =>
    obtain rfl | rfl := he
    · exact .inr h
    · exact .inl (holdsKept_warmReset u)
  case warmReset p => exact .inl (acts_warmReset he ▸ holdsKept_warmReset u)
  case linkSilenceExpiry p =>
    obtain ⟨-, rfl⟩ := he
    exact .inl (holdsKept_silenceLink p u)
  case strokeReport p =>
    obtain ⟨a, rfl⟩ := acts_strokeReport he
    exact .inl (holdsKept_strokesTaken a u)
  case claimAdvance p =>
    obtain ⟨-, -, -, rfl⟩ := acts_claimAdvance he
    exact .inl (holdsKept_claimsChanged _ u _)
  case dropAdvance p =>
    obtain ⟨-, rfl⟩ | ⟨-, -, rfl⟩ := acts_dropAdvance he
    · exact .inr h
    · exact .inl (holdsKept_claimsChanged _ u _)
  case claimBuild p =>
    obtain ⟨-, -, rfl⟩ := acts_claimBuild he
    exact .inl (holdsKept_claimsChanged _ u _)
  case dropBuild p =>
    obtain ⟨-, rfl⟩ | ⟨-, -, -, rfl⟩ := acts_dropBuild he
    · exact .inr h
    · exact .inl (holdsKept_claimsChanged _ u _)
  case halt p =>
    obtain ⟨-, rfl⟩ := acts_halt he
    refine .inl (.trans ?_ ((stackAside_carried (setOperatorHalt true u)).haltMachine (.refl _)).holdsKept)
    exact .of_blocks rfl rfl
  case haltClear p =>
    obtain ⟨hmode, -, rfl⟩ := acts_haltClear he
    exact .inl ((stackAside_carried u).haltCleared
      (fun m cause s _ _ h => h.trans (stackAside_changeMode m cause s)) hmode (.refl u)).holdsKept
  case ringArm p =>
    obtain ⟨row, -, -, rfl⟩ := acts_ringArm he
    exact .inl (holdsKept_ringArmed row u)
  case segmentOpen p =>
    obtain ⟨q, -, rfl | ⟨-, rfl⟩⟩ := acts_segmentOpen he
    · exact .inl (holdsKept_refuseFull u)
    · exact .inr (holdCountsMatch_openPosition q h)
  case segmentPlaced p =>
    obtain ⟨e, rest, hstack, -, rfl⟩ := acts_segmentPlaced he
    exact .inl ⟨fun _ => rfl, by simp [stackKeys, hstack]⟩
  case segmentClose p =>
    obtain ⟨-, rfl⟩ | ⟨e, rest, -, ⟨-, rfl⟩ | rfl⟩ := acts_segmentClose he
    · exact .inr h
    · exact .inr (holdCountsMatch_closeSet _ h)
    · exact .inr (holdCountsMatch_closeNotSet _ h)
  case ringAbort p =>
    obtain ⟨-, rfl⟩ | ⟨-, rfl⟩ := acts_ringAbort he
    · exact .inr h
    · exact .inr (holdCountsMatch_abortRing _ h)
  case profileSelect p =>
    obtain ⟨n, rfl⟩ := acts_profileSelect he
    exact .inl ((stackAside_carried u).selectProfile n (.refl u)).holdsKept
  case constantsWrite p =>
    obtain ⟨k, -, rfl⟩ := acts_constantsWrite he
    have hk : HoldsKept u (installConstants k u) :=
      .of_updateEach (f := fun _ g => { g with lastStroke := min g.lastStroke k.strokeMax }) rfl (fun _ _ => rfl) rfl
    split
    · exact .inl (hk.trans (holdsKept_modeTaken _))
    · exact .inl hk
  case retractDone p =>
    obtain ⟨g, -, rfl⟩ := acts_retractDone he
    exact .inl ((holdsKept_setGroup g (r := u.groups[g].enter .released u.now) rfl).trans (holdsKept_grantEntries _ _))
  case extendDone p =>
    obtain ⟨g, -, rfl⟩ := acts_extendDone he
    exact .inl (.trans (.trans (holdsKept_setGroup g (r := u.groups[g].enter .thrust u.now) rfl)
      (holdsKept_updateMean _)) (holdsKept_ringTest _))
  case groupFault p =>
    obtain ⟨g, -, rfl⟩ := acts_groupFault he
    exact .inl (.trans (holdsKept_setGroup g (r := u.groups[g].enter .lockedOut u.now) rfl)
      ((holdsKept_updateMean _).trans (holdsKept_ringTestAfter _ _)))
  case groupState p =>
    obtain ⟨g, x, -, rfl⟩ := acts_groupState he
    have hset := holdsKept_setGroup g (s := u) (resolved_holdCount u.groups[g] x u.now)
    exact .inl (((hset.trans (holdsKept_updateMean _)).trans (holdsKept_afterResolution g _)).trans
      (holdsKept_ringTestAfter _ _))
  case flagsClear p =>
    obtain rfl := acts_flagsClear he
    exact .inr h
  case retractTimerExpiry g =>
    obtain ⟨-, rfl⟩ := he
    exact .inl (holdsKept_setGroup g (r := { u.groups[g] with slow := true }) rfl)
  case releaseTimerExpiry q =>
    obtain ⟨-, rfl⟩ := he
    refine .inl ⟨fun _ => rfl, stackKeys_map rfl fun e => ?_⟩
    split <;> exact ⟨rfl, rfl⟩
  all_goals exact .inr (hother (by simp [mayChange]) (by simp [mayChange]))

theorem holdCountsMatch_powerUp (failed : StoredFailures) (s : State) : HoldCountsMatch (powerUp failed s) := by
  intro g
  simp [powerUp, blocksAtPowerOn, GroupRec.initial, ReleaseStack.initial]

/-- The first law of O8: hold counts follow the stack. -/
theorem holdCounts_step : ∀ s t : State, HoldCountsMatch s → step s = .next t → HoldCountsMatch t :=
  step_keeps (fun _ _ _ h hs => HoldsKept.holdCountsMatch (.of_blocks h.groups h.stack) hs)
    (fun failed s _ => holdCountsMatch_powerUp failed s) (fun _ _ _ => effect_keeps_holdCounts)
    fun _ _ h hs => HoldsKept.holdCountsMatch (.of_blocks h.inputs.groups h.inputs.stack) hs

end Sys2Proof.Machine

/-! The held groups stay within the release limit (R6, R48). -/

namespace Sys2Proof.Machine

set_option Elab.async false

/-! ## The number of held groups -/

theorem heldGroups_eq_countP (s : State) :
    heldGroups s = (List.finRange 16).countP fun g => 0 < s.groups[g].holdCount := by
  rw [heldGroups, countWhere, toList_eq_map_finRange, List.countP_map]
  rfl

theorem heldGroups_le_of {s t : State} (h : ∀ g : Fin 16, 0 < t.groups[g].holdCount → 0 < s.groups[g].holdCount) :
    heldGroups t ≤ heldGroups s := by
  rw [heldGroups_eq_countP, heldGroups_eq_countP]
  exact List.countP_mono_left fun g _ hg => by simpa using h g (by simpa using hg)

theorem HoldsKept.heldGroups {s t : State} (h : HoldsKept s t) : heldGroups t = heldGroups s :=
  le_antisymm (heldGroups_le_of fun g hg => h.counts g ▸ hg) (heldGroups_le_of fun g hg => (h.counts g).symm ▸ hg)

theorem heldGroups_of_groups {s t : State} (h : t.groups = s.groups) : heldGroups t = heldGroups s := by
  simp [heldGroups, h]

theorem heldGroups_popped (e : StackEntry) (rest : List StackEntry) (s : State) :
    heldGroups (popped e rest s) ≤ heldGroups s :=
  heldGroups_le_of fun g hg => by
    rw [popped_holdCount] at hg
    omega

/-- The count of R48 covers the groups that the push holds. -/
theorem heldGroups_pushEntry (p : Fin 7) (s : State) :
    heldGroups (pushEntry p s) ≤ countAfterOpen s (ringCover s.ring p) := by
  rw [heldGroups_eq_countP, countAfterOpen]
  refine List.countP_mono_left fun g _ hg => ?_
  have hg' : 0 < (pushEntry p s).groups[g].holdCount := by simpa using hg
  rw [(pushEntry_holds p s).1 g] at hg'
  simp only [Bool.or_eq_true, decide_eq_true_eq]
  by_cases hc : (ringCover s.ring p).contains g
  · exact .inl (.inr hc)
  · rw [if_neg hc] at hg'
    exact .inl (.inl hg')

/-! ## The law -/

theorem ReleaseWithinLimit.of_frame {s t : State} (h : ReleaseWithinLimit s) (hheld : heldGroups t ≤ heldGroups s)
    (hprofiles : t.store.profiles = s.store.profiles) (hactive : t.store.active = s.store.active)
    (hmode : t.modes.mode = s.modes.mode) : ReleaseWithinLimit t := by
  have hlimit : releaseLimit t = releaseLimit s := by simp [releaseLimit, activeProfile, hprofiles, hactive, hmode]
  exact ⟨hheld.trans (hlimit ▸ h.held), hprofiles ▸ h.limits⟩

theorem ReleaseWithinLimit.of_blocks {s t : State} (h : ReleaseWithinLimit s) (hgroups : t.groups = s.groups)
    (hstore : t.store = s.store) (hmodes : t.modes = s.modes) : ReleaseWithinLimit t :=
  h.of_frame (heldGroups_of_groups hgroups).le (by rw [hstore]) (by rw [hstore]) (by rw [hmodes])

theorem releaseLimit_le_build {s : State} (h : ReleaseWithinLimit s) :
    releaseLimit s ≤ (activeProfile s).releaseBuild := by
  unfold releaseLimit releaseLimitIn
  split
  · exact h.limits s.store.active
  · exact le_rfl

/-- CONTINUOUS alone has the lower limit (R9). -/
theorem ReleaseWithinLimit.of_mode {s t : State} (h : ReleaseWithinLimit s) (hgroups : t.groups = s.groups)
    (hstore : t.store = s.store)
    (hmode : t.modes.mode = .continuous → heldGroups s ≤ (activeProfile s).releaseContinuous) : ReleaseWithinLimit t := by
  have hp : activeProfile t = activeProfile s := activeProfile_of_store hstore
  refine ⟨?_, hstore ▸ h.limits⟩
  rw [heldGroups_of_groups hgroups]
  unfold releaseLimit releaseLimitIn
  rw [hp]
  split
  · exact hmode ‹_›
  · exact h.held.trans (releaseLimit_le_build h)

theorem release_changeMode {m : Mode} {s : State} (h : ReleaseWithinLimit s)
    (hm : m = .continuous → heldGroups s ≤ (activeProfile s).releaseContinuous) (cause : ModeCause) :
    ReleaseWithinLimit (changeMode m cause s) :=
  h.of_mode (by simp) (by simp) (by rw [changeMode_mode]; exact hm)

theorem release_bySwitch : CarriedBySwitch ReleaseWithinLimit where
  overtime := fun s h => h.of_blocks rfl rfl rfl
  raised := fun s n h => h.of_frame le_rfl rfl rfl rfl
  refresh := fun s h => h.of_blocks (by simp) (by simp) (by simp)
  closure := fun s h => h.of_blocks (by simp) (by simp) (by simp)
  judge := fun s h => h.of_blocks rfl rfl rfl
  switch := by
    intro n s hheld h
    have hstore : (switchUnits n s).store = { s.store with active := n, pendingProfile := none } := by simp [switchUnits]
    have hmodes : (switchUnits n s).modes = s.modes := by simp [switchUnits]
    refine ⟨?_, hstore ▸ h.limits⟩
    have hgroups : (switchUnits n s).groups = s.groups := by simp [switchUnits]
    rw [heldGroups_of_groups hgroups]
    simpa [releaseLimit, activeProfile, hstore, hmodes] using hheld
  disallow := by
    intro s h
    obtain e | ⟨-, -, e⟩ := disallowContinuous_cases s
    · rwa [e]
    · rw [e]
      have hclaims : ReleaseWithinLimit { s with modes := { s.modes with advance := .pending } } :=
        h.of_frame le_rfl rfl rfl rfl
      exact release_changeMode (m := .build) hclaims (by intro e; cases e) _

theorem release_enterMode {m : Mode} {s : State} (h : ReleaseWithinLimit s)
    (hm : m = .continuous → heldGroups s ≤ (activeProfile s).releaseContinuous) (cause : ModeCause) :
    ReleaseWithinLimit (enterMode m cause s) :=
  release_bySwitch.enterMode_of_changeMode h (release_changeMode h hm cause)

/-- New claims of which both are HELD need the limit of CONTINUOUS. -/
theorem release_claimsChanged {s : State} (h : ReleaseWithinLimit s) {a b : Claim}
    (hab : a = .held → b = .held → heldGroups s ≤ (activeProfile s).releaseContinuous) (cause : ModeCause) :
    ReleaseWithinLimit (claimsChanged cause { s with modes := { s.modes with advance := a, build := b } }) := by
  have hclaims : ReleaseWithinLimit { s with modes := { s.modes with advance := a, build := b } } :=
    h.of_frame le_rfl rfl rfl rfl
  unfold claimsChanged
  split
  · exact hclaims
  · refine release_enterMode hclaims (fun e => ?_) cause
    obtain ⟨ha, hb⟩ := derivedMode_continuous e
    exact hab ha hb

theorem release_haltMachine {s : State} (h : ReleaseWithinLimit s) : ReleaseWithinLimit (haltMachine s) := by
  have hclaims : ReleaseWithinLimit { s with modes := s.modes.claimsAtHalt } := h.of_frame le_rfl rfl rfl rfl
  unfold haltMachine
  split
  · exact h
  · exact release_enterMode hclaims (by simp) _

theorem mayStandTogether_held {s : State} (h : mayStandTogether s = true) :
    heldGroups s ≤ (activeProfile s).releaseContinuous := by
  simp only [mayStandTogether, Bool.and_eq_true, decide_eq_true_eq] at h
  exact h.2

theorem release_reexamine {s : State} (h : ReleaseWithinLimit s) : ReleaseWithinLimit (reexamine s) := by
  unfold reexamine
  split
  · rename_i hc
    have hheld := mayStandTogether_held hc.2
    split
    · exact release_claimsChanged h (a := .held) (b := s.modes.build) (fun _ _ => hheld) _
    · split
      · exact release_claimsChanged h (a := s.modes.advance) (b := .held) (fun _ _ => hheld) _
      · exact h
  · exact h

theorem release_heldChanged (before : Nat) {s : State} (h : ReleaseWithinLimit s) :
    ReleaseWithinLimit (heldChanged before s) := by
  unfold heldChanged
  extract_lets t
  have ht : ReleaseWithinLimit t := by
    simp only [t]
    split
    · exact h
    · exact release_reexamine h
  split
  · exact release_bySwitch.switchTest ht
  · exact ht

/-! ## The release stack and the ring -/

theorem release_popEntry {s : State} (h : ReleaseWithinLimit s) : ReleaseWithinLimit (popEntry s) := by
  cases hs : s.stack.entries with
  | nil => rwa [popEntry_nil hs]
  | cons e rest =>
    have hpopped : ReleaseWithinLimit (popped e rest s) := h.of_frame (heldGroups_popped e rest s) rfl rfl rfl
    rw [popEntry_cons hs]
    exact release_bySwitch.refresh _ (release_heldChanged _ (hpopped.of_blocks (by simp) (by simp) (by simp)))

theorem release_popMany (n : Nat) {s : State} (h : ReleaseWithinLimit s) : ReleaseWithinLimit (popMany n s) := by
  induction n generalizing s with
  | zero => exact h
  | succ n ih => exact ih (release_popEntry h)

/-- The closing of a ring stores its number and changes no profile (R86). -/
theorem ringTest_profiles (s : State) : (ringTest s).store.profiles = s.store.profiles ∧
    (ringTest s).store.active = s.store.active := by
  unfold ringTest
  split
  · split
    · simp [closeRing]
    · exact ⟨rfl, rfl⟩
  · split <;> simp [completeAbort]
  all_goals exact ⟨rfl, rfl⟩

theorem release_ringTest {s : State} (h : ReleaseWithinLimit s) : ReleaseWithinLimit (ringTest s) :=
  h.of_frame (heldGroups_of_groups (by simp)).le (ringTest_profiles s).1 (ringTest_profiles s).2 (by simp)

theorem release_ringTestAfter (x : GroupState) {s : State} (h : ReleaseWithinLimit s) :
    ReleaseWithinLimit (ringTestAfter x s) := by
  unfold ringTestAfter
  split
  · exact release_ringTest h
  · exact h

theorem release_abortRing (cause : RingCause) {s : State} (h : ReleaseWithinLimit s) :
    ReleaseWithinLimit (abortRing cause s) := by
  have hpopped := release_popMany s.stack.entries.length h
  unfold abortRing
  exact release_ringTest (hpopped.of_blocks (by simp) (by simp) (by simp))

/-- An open keeps the limit, since R47 has counted the groups that it holds (R48). -/
theorem release_openPosition {p : Fin 7} {s : State} (h : ReleaseWithinLimit s)
    (hcount : countAfterOpen s (ringCover s.ring p) ≤ releaseLimit s) : ReleaseWithinLimit (openPosition p s) := by
  have hpushed : ReleaseWithinLimit (pushEntry p s) := by
    have hlimit : releaseLimit (pushEntry p s) = releaseLimit s := by simp [releaseLimit, activeProfile]
    exact ⟨hlimit ▸ (heldGroups_pushEntry p s).trans hcount, by simpa using h.limits⟩
  unfold openPosition announceFirst
  refine release_heldChanged _ ?_
  split <;> exact hpushed.of_blocks (by simp) (by simp) (by simp)

theorem release_refuseFull {s : State} (h : ReleaseWithinLimit s) : ReleaseWithinLimit (refuseFull s) := by
  unfold refuseFull
  simp only
  split
  · exact release_haltMachine (h.of_blocks rfl rfl rfl)
  · exact h.of_blocks rfl rfl rfl

theorem release_closeSet (p : Fin 7) {s : State} (h : ReleaseWithinLimit s) : ReleaseWithinLimit (closeSet p s) := by
  have hring : ∀ r : RingRec, ReleaseWithinLimit { s with ring := r } := fun _ => h.of_blocks rfl rfl rfl
  unfold closeSet
  simp only
  split
  · have hpopped := release_popEntry (hring { s.ring with setList := s.ring.setList ++ [p], state := .closing })
    exact release_ringTest (hpopped.of_blocks (by simp) (by simp) (by simp))
  · exact release_popEntry (hring _)

theorem release_closeNotSet (p : Fin 7) {s : State} (h : ReleaseWithinLimit s) :
    ReleaseWithinLimit (closeNotSet p s) := by
  have hring : ∀ r : RingRec, ReleaseWithinLimit { s with ring := r } := fun _ => h.of_blocks rfl rfl rfl
  unfold closeNotSet
  simp only
  split
  · exact release_popEntry (hring _)
  · exact release_abortRing _ ((release_popEntry h).of_blocks rfl rfl rfl)

theorem release_grantEntries (which : StackEntry → Bool) {s : State} (h : ReleaseWithinLimit s) :
    ReleaseWithinLimit (grantEntries which s) :=
  h.of_blocks (by simp) (by simp) (by simp)

theorem release_afterResolution (g : Fin 16) {s : State} (h : ReleaseWithinLimit s) :
    ReleaseWithinLimit (afterResolution g s) := by
  unfold afterResolution
  split
  case h_3 => exact release_grantEntries _ h
  all_goals exact h.of_blocks (by simp) (by simp) (by simp)

/-! ## Every command -/

theorem release_setGroup (g : Fin 16) {r : GroupRec} {s : State} (h : ReleaseWithinLimit s)
    (hr : r.holdCount = s.groups[g].holdCount) : ReleaseWithinLimit (updateMean (setGroup g r s)) :=
  h.of_frame (holdsKept_setGroup g hr).heldGroups.le rfl rfl rfl

theorem release_warmReset {s : State} (h : ReleaseWithinLimit s) : ReleaseWithinLimit (warmReset s) := by
  have hblocks : ReleaseWithinLimit (evalConditions (resetBlocks s)) := by
    have hheld : heldGroups (evalConditions (resetBlocks s)) ≤ heldGroups s :=
      heldGroups_le_of fun g hg => by simpa [resetBlocks, reset_holdCount] using hg
    refine ⟨hheld.trans (h.held.trans ?_), h.limits⟩
    have hmode : (evalConditions (resetBlocks s)).modes.mode ≠ .continuous := by
      show s.modes.mode.reset ≠ _
      cases s.modes.mode <;> simp [Mode.reset]
    have hlimit : releaseLimit (evalConditions (resetBlocks s)) = (activeProfile s).releaseBuild := if_neg hmode
    exact hlimit ▸ releaseLimit_le_build h
  exact release_bySwitch.refresh _ (release_bySwitch.switchTest hblocks)

theorem release_commission {s : State} (h : ReleaseWithinLimit s) (hadvance : s.modes.advance = .absent) :
    ReleaseWithinLimit (commission s) := by
  have hclaims : ReleaseWithinLimit { s with modes := s.modes.claimsAtHalt } := h.of_frame le_rfl rfl rfl rfl
  have htaken : ReleaseWithinLimit (modeTaken s) := by
    unfold modeTaken
    split
    · refine release_enterMode h (fun e => ?_) _
      rw [hadvance] at e
      exact absurd (derivedMode_continuous e).1 (by simp)
    · exact release_enterMode hclaims (by simp) _
  exact htaken.of_blocks rfl rfl rfl

theorem release_strokesTaken (a : StrokeArgs) {s : State} (h : ReleaseWithinLimit s) :
    ReleaseWithinLimit (strokesTaken a s) := by
  have hkept : HoldsKept s (strokesCounted a s) := .of_updateEach rfl (strokeRecord_holdCount s a) rfl
  have hcounted : ReleaseWithinLimit (strokesCounted a s) := h.of_frame hkept.heldGroups.le rfl rfl rfl
  exact (release_bySwitch.closeAndTest (strokesCounted a s).account.accumulator hcounted).of_blocks rfl rfl rfl

theorem claimBeside_held {b : Claim} {together : Bool} (h : claimBeside b together = .held) (hb : b = .held) :
    together = true := by
  cases together <;> simp [claimBeside, hb] at h ⊢

/-- The requests that change a claim (R164 to R166). -/
theorem effect_claims_keeps_release {u v : State} (h : ReleaseWithinLimit u) (p : Port) :
    (Effect (.claimAdvance p) u v → ReleaseWithinLimit v) ∧ (Effect (.dropAdvance p) u v → ReleaseWithinLimit v) ∧
    (Effect (.claimBuild p) u v → ReleaseWithinLimit v) ∧ (Effect (.dropBuild p) u v → ReleaseWithinLimit v) := by
  refine ⟨fun he => ?_, fun he => ?_, fun he => ?_, fun he => ?_⟩
  · obtain ⟨-, -, -, rfl⟩ := acts_claimAdvance he
    exact release_claimsChanged h (fun ha hb => mayStandTogether_held (claimBeside_held ha hb)) _
  · obtain ⟨-, rfl⟩ | ⟨-, -, rfl⟩ := acts_dropAdvance he
    · exact h.of_frame le_rfl rfl rfl rfl
    · exact release_claimsChanged h (a := .absent) (fun e => Claim.noConfusion e) _
  · obtain ⟨-, -, rfl⟩ := acts_claimBuild he
    exact release_claimsChanged h (fun ha hb => mayStandTogether_held (claimBeside_held hb ha)) _
  · obtain ⟨-, rfl⟩ | ⟨-, -, -, rfl⟩ := acts_dropBuild he
    · exact h.of_frame le_rfl rfl rfl rfl
    · exact release_claimsChanged h (b := .absent) (fun _ e => Claim.noConfusion e) _

/-- A stored profile is valid, so that its limits agree (R6, R7). -/
theorem profileValid_limits {p : Profile} (h : profileValid p = true) : p.releaseContinuous ≤ p.releaseBuild := by
  simp only [profileValid, Bool.and_eq_true, decide_eq_true_eq] at h
  omega

theorem release_profileWrite {s : State} (h : ReleaseWithinLimit s) {i : Fin 4} {q : Profile}
    (hi : i ≠ s.store.active) (hq : profileValid q = true) :
    ReleaseWithinLimit { s with store := { s.store with profiles := s.store.profiles.set i q } } := by
  refine ⟨?_, fun j => ?_⟩
  · rw [releaseLimit, activeProfile_setProfile hi q]
    exact h.held
  · by_cases hij : i = j
    · subst hij
      simpa using profileValid_limits hq
    · have hne : i.val ≠ j.val := fun e => hij (Fin.ext e)
      simpa [hne] using h.limits j

theorem effect_keeps_release {c : Instr} {u v : State} (he : Effect c u v) (hm : ModeFollows u)
    (h : ReleaseWithinLimit u) : ReleaseWithinLimit v := by
  have hkeeps := effect_alters_chamber he
  have hother : Block.groups ∉ mayChange c → Block.store ∉ mayChange c → Block.modes ∉ mayChange c →
      ReleaseWithinLimit v := fun hg hs hmo =>
    h.of_blocks (hkeeps.groups (by simpa using hg)) (hkeeps.store (by simpa using hs)) (hkeeps.modes (by simpa using hmo))
  cases c
  case powerOn | supplyLoss | planBlankCheck | planVerify | planStatus | read | unknownRequest => exact he.elim
  case resetInput ms =>
    obtain rfl | rfl := he
    · exact h
    · exact release_warmReset h
  case warmReset p => exact acts_warmReset he ▸ release_warmReset h
  case linkSilenceExpiry p =>
    obtain ⟨-, rfl⟩ := he
    unfold silenceLink
    simp only
    split
    · exact release_haltMachine (h.of_blocks rfl rfl rfl)
    · exact h.of_blocks rfl rfl rfl
  case strokeReport p =>
    obtain ⟨a, rfl⟩ := acts_strokeReport he
    exact release_strokesTaken a h
  case claimAdvance p => exact (effect_claims_keeps_release h p).1 he
  case dropAdvance p => exact (effect_claims_keeps_release h p).2.1 he
  case claimBuild p => exact (effect_claims_keeps_release h p).2.2.1 he
  case dropBuild p => exact (effect_claims_keeps_release h p).2.2.2 he
  case halt p =>
    obtain ⟨-, rfl⟩ := acts_halt he
    exact release_haltMachine (h.of_frame le_rfl rfl rfl rfl)
  case haltClear p =>
    obtain ⟨hmode, -, rfl⟩ := acts_haltClear he
    have hcleared : ReleaseWithinLimit (setOperatorHalt false u) := h.of_frame le_rfl rfl rfl rfl
    refine release_enterMode hcleared (fun e => ?_) _
    exact absurd ((hm.halted hmode).symm.trans (derivedMode_continuous e).1) (by simp)
  case ringArm p =>
    obtain ⟨row, -, -, rfl⟩ := acts_ringArm he
    unfold ringArmed raiseSelection
    split
    · exact h.of_blocks (by simp) (by simp) (by simp)
    · exact release_bySwitch.selectProfile _ (h.of_blocks (by simp) (by simp) (by simp))
  case segmentOpen p =>
    obtain ⟨q, -, rfl | ⟨hstack, rfl⟩⟩ := acts_segmentOpen he
    · exact release_refuseFull h
    · exact release_openPosition h (stackRefusal_none hstack).2.2.2
  case segmentClose p =>
    obtain ⟨-, rfl⟩ | ⟨e, rest, -, ⟨-, rfl⟩ | rfl⟩ := acts_segmentClose he
    · exact h.of_blocks rfl rfl rfl
    · exact release_closeSet _ h
    · exact release_closeNotSet _ h
  case ringAbort p =>
    obtain ⟨-, rfl⟩ | ⟨-, rfl⟩ := acts_ringAbort he
    · exact h.of_blocks rfl rfl rfl
    · exact release_abortRing _ h
  case profileSelect p =>
    obtain ⟨n, rfl⟩ := acts_profileSelect he
    exact release_bySwitch.selectProfile n h
  case profileWrite p =>
    obtain ⟨i, q, hi, -, hq, rfl⟩ := acts_profileWrite he
    exact release_profileWrite h hi hq
  case constantsWrite p =>
    obtain ⟨k, -, rfl⟩ := acts_constantsWrite he
    have hkept : HoldsKept u (installConstants k u) :=
      .of_updateEach (f := fun _ g => { g with lastStroke := min g.lastStroke k.strokeMax }) rfl (fun _ _ => rfl) rfl
    have hk : ReleaseWithinLimit (installConstants k u) := h.of_frame hkept.heldGroups.le rfl rfl rfl
    split
    · exact release_commission hk (hm.early ‹_›).1
    · exact hk
  case retractDone p =>
    obtain ⟨g, -, rfl⟩ := acts_retractDone he
    exact release_grantEntries _ ((release_setGroup g h (r := u.groups[g].enter .released u.now) rfl).of_blocks rfl rfl rfl)
  case extendDone p =>
    obtain ⟨g, -, rfl⟩ := acts_extendDone he
    exact release_ringTest (release_setGroup g h (r := u.groups[g].enter .thrust u.now) rfl)
  case groupFault p =>
    obtain ⟨g, -, rfl⟩ := acts_groupFault he
    exact release_ringTestAfter _ (release_setGroup g h (r := u.groups[g].enter .lockedOut u.now) rfl)
  case groupState p =>
    obtain ⟨g, x, -, rfl⟩ := acts_groupState he
    exact release_ringTestAfter _ (release_afterResolution g
      (release_setGroup g h (resolved_holdCount u.groups[g] x u.now)))
  case retractTimerExpiry g =>
    obtain ⟨-, rfl⟩ := he
    exact (release_setGroup g h (r := { u.groups[g] with slow := true }) rfl).of_blocks rfl rfl rfl
  all_goals exact hother (by simp [mayChange]) (by simp [mayChange]) (by simp [mayChange])

theorem atPowerOn_limits (failed : StoredFailures) {k : Store}
    (h : ∀ i : Fin 4, k.profiles[i].releaseContinuous ≤ k.profiles[i].releaseBuild) (i : Fin 4) :
    (k.atPowerOn failed).profiles[i].releaseContinuous ≤ (k.atPowerOn failed).profiles[i].releaseBuild := by
  have hi := h i
  by_cases hf : failed.profiles.contains i
  · simp only [Store.atPowerOn, Fin.getElem_fin, getElem_updateEach]
    rw [if_pos (by simpa using hf)]
    decide
  · simp only [Store.atPowerOn, Fin.getElem_fin, getElem_updateEach]
    rw [if_neg (by simpa using hf)]
    exact hi

theorem release_powerUp (failed : StoredFailures) {s : State} (h : ReleaseWithinLimit s) :
    ReleaseWithinLimit (powerUp failed s) := by
  have hheld : heldGroups (powerUp failed s) = 0 := by
    have hgroups : (powerUp failed s).groups = Vector.replicate 16 GroupRec.initial := rfl
    rw [heldGroups, hgroups]
    decide
  exact ⟨hheld ▸ Nat.zero_le _, atPowerOn_limits failed h.limits⟩

/-- The second law of O8: the held groups stay within the release limit. -/
theorem release_step : ∀ s t : State, ModeFollows s → ReleaseWithinLimit s → step s = .next t → ReleaseWithinLimit t := by
  have hboth : ∀ s t : State, ModeFollows s ∧ ReleaseWithinLimit s → step s = .next t →
      ModeFollows t ∧ ReleaseWithinLimit t :=
    step_keeps (Q := fun v => ModeFollows v ∧ ReleaseWithinLimit v)
      (fun _ _ _ h hs => ⟨h.modeFollows hs.1, hs.2.of_blocks h.groups h.store h.modes⟩)
      (fun failed s hs => ⟨modeFollows_powerUp failed s, release_powerUp failed hs.2⟩)
      (fun _ _ _ he hs => ⟨effect_keeps_modeFollows he hs.1, effect_keeps_release he hs.1 hs.2⟩)
      fun _ _ h hs => ⟨h.modeFollows hs.1, hs.2.of_blocks h.inputs.groups h.inputs.store h.inputs.modes⟩
  exact fun s t hm h hstep => (hboth s t ⟨hm, h⟩ hstep).2

end Sys2Proof.Machine

/-! The seven positions stay placed (R70), and O8 as a whole. -/

namespace Sys2Proof.Machine

set_option Elab.async false

/-! ## The law on the ring record and the positions of the release stack -/

/-- The law of R70 and R75 on a ring record and the positions in the release stack. -/
structure Placed (r : RingRec) (stack : List (Fin 7)) : Prop where
  idle     : r.state = .idle → ∀ p, r.queue.count p + stack.count p + r.setList.count p = 0
  once     : r.state ≠ .idle → ∀ p, r.queue.count p + stack.count p + r.setList.count p = 1
  closing  : r.state = .closing → ∀ p, p ∈ r.setList
  building : stack ≠ [] → r.state = .building
  key      : (6 : Fin 7) ∈ stack → ∀ p, p ≠ 6 → p ∈ r.setList

/-- Every row that a build may follow has its start in 0–5 (R184). -/
def StartsInRange (k : PlanStore) (row : Option PlanRow) : Prop :=
  (∀ r ∈ k.rows, r.2.start ≤ 5) ∧ (∀ j, k.job = some j → ∀ r ∈ j.rows, r.start ≤ 5) ∧
    ∀ r, row = some r → r.start ≤ 5

/-- The positions in the release stack, from the top. -/
def stackPositions (s : State) : List (Fin 7) := s.stack.entries.map (·.position)

theorem stackPositions_of_keys (s : State) : stackPositions s = (stackKeys s).map Prod.fst := by
  simp [stackPositions, stackKeys, Function.comp_def]

theorem placesOf_eq (s : State) (p : Fin 7) :
    placesOf s p = s.ring.queue.count p + (stackPositions s).count p + s.ring.setList.count p := by
  have hstack : (stackPositions s).count p = s.stack.entries.countP fun e => e.position = p := by
    rw [stackPositions, List.count_eq_countP, List.countP_map]
    congr 1
  rw [placesOf, hstack]

theorem positionsPlaced_iff (s : State) :
    PositionsPlaced s ↔ Placed s.ring (stackPositions s) ∧ StartsInRange s.plan s.ring.row := by
  constructor
  · rintro ⟨hidle, honce, hclosing, hbuilding, hkey, hrows⟩
    refine ⟨⟨fun h p => placesOf_eq s p ▸ hidle h p, fun h p => placesOf_eq s p ▸ honce h p, hclosing, fun h => ?_,
      fun h => ?_⟩, hrows⟩
    · exact hbuilding (by simpa [stackPositions] using h)
    · exact hkey (by simpa [stackPositions] using h)
  · rintro ⟨⟨hidle, honce, hclosing, hbuilding, hkey⟩, hrows⟩
    refine ⟨fun h p => (placesOf_eq s p).trans (hidle h p), fun h p => (placesOf_eq s p).trans (honce h p), hclosing,
      fun h => ?_, fun h => ?_, hrows⟩
    · exact hbuilding (by simpa [stackPositions] using h)
    · exact hkey (by simpa [stackPositions] using h)

section Rules
variable {r : RingRec} {p : Fin 7} {stack : List (Fin 7)}

/-- Out of BUILDING no position is in the stack. -/
theorem Placed.stack_empty (h : Placed r stack) (hr : r.state ≠ .building) : stack = [] :=
  Classical.byContradiction fun hne => hr (h.building hne)

/-- While no position is in the stack, only the state and the two lists matter. -/
theorem Placed.restart (r : RingRec) (hstate : r.state = .armed ∨ r.state = .aborting) {start : Nat} (hstart : start ≤ 5)
    (hqueue : r.queue = placementOrder start) (hset : r.setList = []) : Placed r [] := by
  have hcount : ∀ p, r.queue.count p = 1 := by
    rw [hqueue]
    interval_cases start <;> decide
  refine ⟨fun h => ?_, fun _ p => by simp [hset, hcount], fun h => ?_, fun h => absurd rfl h, fun h => by simp at h⟩
  · obtain e | e := hstate <;> simp [e] at h
  · obtain e | e := hstate <;> simp [e] at h

theorem Placed.cleared (n : Nat) : Placed (RingRec.cleared n) [] :=
  ⟨fun _ _ => rfl, fun h => absurd rfl h, nofun, fun h => absurd rfl h, nofun⟩

/-- An abort that is complete changes the ring state alone (R89). -/
theorem Placed.completed (h : Placed r stack) (hr : r.state = .aborting) : Placed { r with state := .armed } stack := by
  obtain rfl := h.stack_empty (by simp [hr])
  exact ⟨nofun, fun _ => h.once (by simp [hr]), nofun, fun e => absurd rfl e, nofun⟩

/-- The top position leaves the stack for the queue (R82). -/
theorem Placed.returned (h : Placed r (p :: stack)) (skips : Vector Nat 7) :
    Placed { r with skips, queue := returnToQueue p r.queue } stack := by
  have hstate := h.building (by simp)
  refine ⟨fun e => ?_, fun e q => ?_, h.closing, fun _ => hstate, fun hk => h.key (by simp [hk])⟩
  · exact absurd (hstate.symm.trans e) (by decide)
  · have hq := h.once e q
    have hqueue : (returnToQueue p r.queue).count q = r.queue.count q + if p = q then 1 else 0 := by
      unfold returnToQueue
      split
      · simp_all [List.count_singleton]
      · rw [List.count_append, List.count_cons, ← Nat.add_assoc, ← List.count_append, List.takeWhile_append_dropWhile]
        simp
    simp only [hqueue]
    rw [List.count_cons] at hq
    simp only [beq_iff_eq] at hq
    omega

/-- The top position leaves the stack for the set list (R81). -/
theorem Placed.setDown (h : Placed r (p :: stack)) (q : Fin 7) :
    r.queue.count q + stack.count q + (r.setList ++ [p]).count q = 1 := by
  have hq := h.once (by simp [h.building (by simp)]) q
  rw [List.count_cons] at hq
  rw [List.count_append, List.count_singleton]
  omega

theorem Placed.setOrdinary (h : Placed r (p :: stack)) : Placed { r with setList := r.setList ++ [p] } stack := by
  have hstate := h.building (by simp)
  exact ⟨fun e => absurd (hstate.symm.trans e) (by decide), fun _ => h.setDown, fun e => absurd (hstate.symm.trans e) (by decide),
    fun _ => hstate, fun hk q hq => by simp [h.key (by simp [hk]) q hq]⟩

/-- With the key set the seven positions are in the set list, and the stack is empty (R75, R81). -/
theorem Placed.setKey (h : Placed r (6 :: stack)) :
    Placed { r with setList := r.setList ++ [6], state := .closing } stack ∧ stack = [] := by
  have hset : ∀ q, q ∈ r.setList ++ [6] := by
    intro q
    by_cases hq : q = 6
    · simp [hq]
    · simp [h.key (by simp) q hq]
  have hempty : stack = [] := by
    refine List.eq_nil_iff_forall_not_mem.mpr fun q hq => ?_
    have hone := h.setDown q
    have h1 := List.count_pos_iff.mpr hq
    have h2 := List.count_pos_iff.mpr (hset q)
    omega
  subst hempty
  exact ⟨⟨nofun, fun _ => h.setDown, fun _ => hset, fun e => absurd rfl e, nofun⟩, rfl⟩

/-- The head of the queue goes to the stack (R78). -/
theorem Placed.opened (h : Placed r stack) (hr : r.state = .armed ∨ r.state = .building) (hp : r.queue.head? = some p)
    (hkey : p = 6 → ordinariesSet r = true) : Placed r.opened (p :: stack) := by
  have hstate : r.opened.state = .building := by
    obtain e | e := hr <;> simp [RingRec.opened, e]
  have hqueue : r.queue = p :: r.opened.queue := by
    obtain ⟨rest, e⟩ := List.head?_eq_some_iff.mp hp
    simp [RingRec.opened, e]
  have hset : r.opened.setList = r.setList := rfl
  refine ⟨fun e => ?_, fun _ q => ?_, fun e => ?_, fun _ => hstate, fun hk q hq => ?_⟩
  · exact absurd (hstate.symm.trans e) (by decide)
  · have hone := h.once (by obtain e | e := hr <;> simp [e]) q
    rw [hqueue, List.count_cons] at hone
    rw [List.count_cons, hset]
    omega
  · exact absurd (hstate.symm.trans e) (by decide)
  · rw [hset]
    obtain rfl | hk := List.mem_cons.mp hk
    · have hall : ∀ q ∈ ([0, 1, 2, 3, 4, 5] : List (Fin 7)), q ∈ r.setList := by
        simpa [ordinariesSet] using hkey rfl
      exact hall q (by revert hq; revert q; decide)
    · exact h.key hk q hq

end Rules

/-! ## The commands of the ring and the stack -/

theorem StackAside.positionsPlaced {s t : State} (h : StackAside s t) (hs : PositionsPlaced s) : PositionsPlaced t := by
  rw [positionsPlaced_iff, stackPositions_of_keys] at hs ⊢
  rwa [h.ring, h.plan, h.keys]

theorem placed_announceRing (cause : RingCause) {s : State} (h : PositionsPlaced s) :
    PositionsPlaced (announceRing cause s) :=
  StackAside.positionsPlaced (.of_blocks (by simp) (by simp) (by simp) (by simp)) h

theorem placed_ringTest {s : State} (h : PositionsPlaced s) : PositionsPlaced (ringTest s) := by
  obtain ⟨hp, hrows⟩ := (positionsPlaced_iff s).mp h
  rw [positionsPlaced_iff]
  have hkeys : stackPositions (ringTest s) = stackPositions s := by simp [stackPositions]
  have hplan : (ringTest s).plan = s.plan := by simp
  rw [hkeys, hplan]
  unfold ringTest
  split
  · rename_i hclosing
    split
    · rw [hp.stack_empty (by simp [hclosing])]
      exact ⟨Placed.cleared _, hrows.1, hrows.2.1, fun r e => by cases e⟩
    · exact ⟨hp, hrows⟩
  · rename_i haborting
    split
    · exact ⟨hp.completed haborting, hrows⟩
    · exact ⟨hp, hrows⟩
  all_goals exact ⟨hp, hrows⟩

theorem stackPositions_popEntry (s : State) : stackPositions (popEntry s) = (stackPositions s).tail := by
  cases hs : s.stack.entries with
  | nil => simp [popEntry_nil hs, stackPositions, hs]
  | cons e rest =>
    rw [stackPositions_of_keys, (popEntry_aside hs).keys]
    simp [stackPositions, stackKeys, popped, hs]

theorem stackPositions_popMany (n : Nat) (s : State) : stackPositions (popMany n s) = (stackPositions s).drop n := by
  induction n generalizing s with
  | zero => rfl
  | succ n ih => rw [popMany, ih, stackPositions_popEntry, List.drop_tail]

theorem popEntry_ring_plan (s : State) : (popEntry s).ring = s.ring ∧ (popEntry s).plan = s.plan := by
  cases hs : s.stack.entries with
  | nil => simp [popEntry_nil hs]
  | cons e rest => exact ⟨(popEntry_aside hs).ring, (popEntry_aside hs).plan⟩

theorem popMany_ring_plan (n : Nat) (s : State) : (popMany n s).ring = s.ring ∧ (popMany n s).plan = s.plan := by
  induction n generalizing s with
  | zero => exact ⟨rfl, rfl⟩
  | succ n ih =>
    obtain ⟨hring, hplan⟩ := popEntry_ring_plan s
    exact ⟨(ih _).1.trans hring, (ih _).2.trans hplan⟩

/-- A pop that follows a change of the ring record (R53, R81, R82). -/
theorem placed_popEntry {s : State} (h : Placed s.ring (stackPositions s).tail)
    (hrows : StartsInRange s.plan s.ring.row) : PositionsPlaced (popEntry s) := by
  rw [positionsPlaced_iff, stackPositions_popEntry, (popEntry_ring_plan s).1, (popEntry_ring_plan s).2]
  exact ⟨h, hrows⟩

/-- A build given up has its queue in placement order and nothing else placed (R88). -/
theorem placed_abortRing (cause : RingCause) {s : State} (hrows : StartsInRange s.plan s.ring.row) :
    PositionsPlaced (abortRing cause s) := by
  obtain ⟨hring, hplan⟩ := popMany_ring_plan s.stack.entries.length s
  have hstart : ((s.ring.row.map (·.start)).getD 0) ≤ 5 := by
    cases hrow : s.ring.row with
    | none => exact Nat.zero_le 5
    | some row => exact hrows.2.2 row hrow
  have hempty : stackPositions (popMany s.stack.entries.length s) = [] := by
    rw [stackPositions_popMany]
    exact List.drop_eq_nil_of_le (by simp [stackPositions])
  unfold abortRing
  refine placed_ringTest (placed_announceRing _ ((positionsPlaced_iff _).mpr ?_))
  have hplaced : Placed { s.ring with state := .aborting, queue := ringOrder s.ring, setList := [], skips := Vector.replicate 7 0 } [] :=
    Placed.restart _ (.inr rfl) hstart rfl rfl
  simpa [stackPositions, hring, hplan, List.map_eq_nil_iff.mp hempty] using And.intro hplaced hrows

theorem placed_openPosition {p : Fin 7} {s : State} (h : PositionsPlaced s) (hb : builderRefusal p s = none) :
    PositionsPlaced (openPosition p s) := by
  obtain ⟨hp, hrows⟩ := (positionsPlaced_iff s).mp h
  obtain ⟨hstate, -, -, hhead, hkey⟩ := builderRefusal_none hb
  have hpositions : stackPositions (pushEntry p s) = p :: stackPositions s := by
    rw [stackPositions_of_keys, stackPositions_of_keys, (pushEntry_holds p s).2, List.map_cons]
  have hopened : PositionsPlaced { pushEntry p s with ring := (pushEntry p s).ring.opened } := by
    rw [positionsPlaced_iff]
    have hring : (pushEntry p s).ring = s.ring := by simp
    have hplan : (pushEntry p s).plan = s.plan := by simp
    show Placed (pushEntry p s).ring.opened (stackPositions (pushEntry p s)) ∧
      StartsInRange (pushEntry p s).plan (pushEntry p s).ring.opened.row
    rw [hring, hplan, hpositions]
    exact ⟨hp.opened hstate hhead hkey, hrows⟩
  unfold openPosition announceFirst
  refine (stackAside_heldChanged _ _).positionsPlaced (StackAside.positionsPlaced ?_ hopened)
  split <;> exact .of_blocks (by simp) (by simp) (by simp) (by simp)

section Closes
variable {s : State} {e : StackEntry} {rest : List StackEntry}

theorem stackPositions_of_cons (hs : s.stack.entries = e :: rest) :
    stackPositions s = e.position :: rest.map (·.position) := by
  simp [stackPositions, hs]

theorem placed_closeSet (h : PositionsPlaced s) (hs : s.stack.entries = e :: rest) :
    PositionsPlaced (closeSet e.position s) := by
  obtain ⟨hp, hrows⟩ := (positionsPlaced_iff s).mp h
  have hpos := stackPositions_of_cons hs
  rw [hpos] at hp
  unfold closeSet
  simp only
  split
  · rename_i hkey
    rw [hkey] at hp ⊢
    have hpopped : PositionsPlaced
        (popEntry { s with ring := { s.ring with setList := s.ring.setList ++ [6], state := .closing } }) := by
      refine placed_popEntry ?_ hrows
      show Placed _ (stackPositions s).tail
      rw [hpos]
      exact hp.setKey.1
    exact placed_ringTest (placed_announceRing _ hpopped)
  · refine placed_popEntry ?_ hrows
    show Placed _ (stackPositions s).tail
    rw [hpos]
    exact hp.setOrdinary

theorem placed_closeNotSet (h : PositionsPlaced s) (hs : s.stack.entries = e :: rest) :
    PositionsPlaced (closeNotSet e.position s) := by
  obtain ⟨hp, hrows⟩ := (positionsPlaced_iff s).mp h
  have hpos := stackPositions_of_cons hs
  rw [hpos] at hp
  unfold closeNotSet
  simp only
  split
  · refine placed_popEntry ?_ hrows
    show Placed _ (stackPositions s).tail
    rw [hpos]
    exact hp.returned _
  · refine placed_abortRing _ ?_
    show StartsInRange (popEntry s).plan (popEntry s).ring.row
    rw [(popEntry_ring_plan s).1, (popEntry_ring_plan s).2]
    exact hrows

end Closes

theorem mem_of_lookupRow {rows : List (Nat × PlanRow)} {n : Nat} {row : PlanRow} (h : lookupRow rows n = some row) :
    (n, row) ∈ rows := by
  rw [lookupRow, Option.map_eq_some_iff] at h
  obtain ⟨r, hfind, rfl⟩ := h
  have hn : r.1 = n := by simpa using List.find?_some hfind
  exact hn ▸ List.mem_of_find?_eq_some hfind

theorem placed_ringArmed {row : PlanRow} {s : State} (h : PositionsPlaced s) (hidle : s.ring.state = .idle)
    (hrow : rowOfRing s.plan s.ring.number = some row) : PositionsPlaced (ringArmed row s).1 := by
  obtain ⟨hp, hrows⟩ := (positionsPlaced_iff s).mp h
  have hempty := hp.stack_empty (by simp [hidle])
  have hstart : row.start ≤ 5 := by
    unfold rowOfRing at hrow
    split at hrow
    · exact hrows.1 _ (mem_of_lookupRow hrow)
    · cases hrow
  have harmed : PositionsPlaced { s with ring := s.ring.armed (constantsOf s) row } := by
    rw [positionsPlaced_iff]
    show Placed _ (stackPositions s) ∧ _
    rw [hempty]
    refine ⟨Placed.restart _ (.inl rfl) hstart rfl rfl, hrows.1, hrows.2.1, ?_⟩
    rintro r ⟨⟩
    exact hstart
  have hannounced := placed_announceRing .arm harmed
  unfold ringArmed raiseSelection
  split
  · exact hannounced
  · exact ((stackAside_carried _).selectProfile _ (.refl _)).positionsPlaced hannounced

/-! ## The plan store -/

/-- A change of the plan store alone. -/
theorem placed_of_plan {s : State} (h : PositionsPlaced s) {k : PlanStore}
    (hrows : ∀ r ∈ k.rows, r.2.start ≤ 5) (hjob : ∀ j, k.job = some j → ∀ r ∈ j.rows, r.start ≤ 5) :
    PositionsPlaced { s with plan := k } := by
  obtain ⟨hp, hstarts⟩ := (positionsPlaced_iff s).mp h
  exact (positionsPlaced_iff _).mpr ⟨hp, hrows, hjob, hstarts.2.2⟩

theorem rowInRange_start {r : PlanRow} (h : rowInRange r = true) : r.start ≤ 5 := by
  simp only [rowInRange, Bool.and_eq_true, decide_eq_true_eq] at h
  exact h.1.1.2

theorem placed_record (c : LastCommand) {s : State} (h : PositionsPlaced s) : PositionsPlaced (record c s) :=
  placed_of_plan h h.rows.1 h.rows.2.1

theorem placed_writing {s : State} (h : PositionsPlaced s) (c : PlanCommand) {first : Nat} {rows : List PlanRow}
    (hw : writeRefusal first rows s = none) (now : Nat) :
    PositionsPlaced { s with plan := s.plan.writing c first now rows } := by
  obtain ⟨-, hrange, -, -⟩ := writeRefusal_none hw
  refine placed_of_plan h h.rows.1 ?_
  rintro j ⟨⟩ r hr
  exact rowInRange_start (hrange r hr)

theorem placed_completeRow {s : State} (h : PositionsPlaced s) : PositionsPlaced (completeRow s) := by
  unfold completeRow
  split
  · rename_i row rest ring due hjob
    have hstarts := h.rows.2.1 _ hjob
    have hstored : ∀ r ∈ insertRow (ring - s.plan.base) row s.plan.rows, r.2.start ≤ 5 := by
      intro r hr
      obtain rfl | hr := mem_insertRow hr
      · exact hstarts row (by simp)
      · exact h.rows.1 r hr
    dsimp only
    split
    · exact placed_of_plan h hstored (by rintro j ⟨⟩)
    · refine placed_of_plan h hstored ?_
      rintro j ⟨⟩ r hr
      exact hstarts r (by simp [hr])
  · exact h

/-! ## Every command -/

/-- Groups may change; the positions in the stack, the ring record and the plan store stay. -/
theorem PositionsPlaced.of_keys {s t : State} (h : PositionsPlaced s) (hkeys : stackKeys t = stackKeys s)
    (hring : t.ring = s.ring) (hplan : t.plan = s.plan) : PositionsPlaced t := by
  rw [positionsPlaced_iff, stackPositions_of_keys] at h ⊢
  rwa [hring, hplan, hkeys]

theorem placed_ringTestAfter (x : GroupState) {s : State} (h : PositionsPlaced s) :
    PositionsPlaced (ringTestAfter x s) := by
  unfold ringTestAfter
  split
  · exact placed_ringTest h
  · exact h

theorem placed_setGroup (g : Fin 16) (r : GroupRec) {s : State} (h : PositionsPlaced s) :
    PositionsPlaced (updateMean (setGroup g r s)) :=
  h.of_keys rfl rfl rfl

theorem placed_grantEntries (which : StackEntry → Bool) {s : State} (h : PositionsPlaced s) :
    PositionsPlaced (grantEntries which s) :=
  h.of_keys (holdsKept_grantEntries which s).keys (by simp) (by simp)

theorem placed_afterResolution (g : Fin 16) {s : State} (h : PositionsPlaced s) :
    PositionsPlaced (afterResolution g s) := by
  refine h.of_keys (holdsKept_afterResolution g s).keys ?_ ?_ <;> unfold afterResolution <;> split <;> simp

theorem placed_haltMachine {s : State} (h : PositionsPlaced s) : PositionsPlaced (haltMachine s) :=
  ((stackAside_carried s).haltMachine (.refl s)).positionsPlaced h

theorem placed_claimsChanged (cause : ModeCause) (m : ModeUnit) {s : State} (h : PositionsPlaced s) :
    PositionsPlaced (claimsChanged cause { s with modes := m }) :=
  ((stackAside_carried { s with modes := m }).claimsChanged cause (.refl _)).positionsPlaced (h.of_keys rfl rfl rfl)

theorem placed_strokesTaken (a : StrokeArgs) {s : State} (h : PositionsPlaced s) : PositionsPlaced (strokesTaken a s) := by
  have hclosed := (stackAside_carried (strokesCounted a s)).closeAndTest
    (strokesCounted a s).account.accumulator (.refl (strokesCounted a s))
  exact (hclosed.positionsPlaced (h.of_keys rfl rfl rfl)).of_keys rfl rfl rfl

theorem placed_warmReset {s : State} (h : PositionsPlaced s) : PositionsPlaced (warmReset s) := by
  refine (stackAside_warmReset s).positionsPlaced (h.of_keys (stackKeys_map rfl fun _ => ⟨rfl, rfl⟩) ?_ ?_)
  · simp [resetBlocks]
  · simp [resetBlocks]

theorem placed_refuseFull {s : State} (h : PositionsPlaced s) : PositionsPlaced (refuseFull s) := by
  unfold refuseFull
  simp only
  split
  · exact placed_haltMachine (h.of_keys rfl rfl rfl)
  · exact h.of_keys rfl rfl rfl

theorem placed_planCommands {c : Instr} {u v : State} (h : PositionsPlaced u) (p : Port)
    (hc : c = .planErase p ∨ c = .planWrite p ∨ c = .planWriteNext p) (he : Effect c u v) : PositionsPlaced v := by
  have hwrite : ((∃ c, v = record c u) ∨ ∃ c first rows, planBusy u.plan = false ∧ writeRefusal first rows u = none ∧
      v = { u with plan := u.plan.writing c first u.now rows }) → PositionsPlaced v := by
    rintro (⟨k, rfl⟩ | ⟨k, first, rows, -, hw, rfl⟩)
    · exact placed_record k h
    · exact placed_writing h k hw _
  obtain rfl | rfl | rfl := hc
  · obtain ⟨k, rfl⟩ | ⟨base, -, rfl⟩ := acts_planErase he
    · exact placed_record k h
    · exact placed_of_plan h (fun _ hr => (List.not_mem_nil hr).elim) nofun
  · exact hwrite (acts_planWrite he)
  · exact hwrite (acts_planWriteNext he)

theorem effect_keeps_placed {c : Instr} {u v : State} (he : Effect c u v) (h : PositionsPlaced u) :
    PositionsPlaced v := by
  have hkeeps := effect_alters_chamber he
  have hother : Block.stack ∉ mayChange c → Block.ring ∉ mayChange c → Block.plan ∉ mayChange c →
      PositionsPlaced v := fun hs hr hp =>
    h.of_keys (by simp [stackKeys, hkeeps.stack (by simpa using hs)]) (hkeeps.ring (by simpa using hr))
      (hkeeps.plan (by simpa using hp))
  cases c
  case powerOn | supplyLoss | planBlankCheck | planVerify | planStatus | read | unknownRequest => exact he.elim
  case resetInput ms =>
    obtain rfl | rfl := he
    · exact h
    · exact placed_warmReset h
  case warmReset p => exact acts_warmReset he ▸ placed_warmReset h
  case linkSilenceExpiry p =>
    obtain ⟨-, rfl⟩ := he
    unfold silenceLink
    simp only
    split
    · exact placed_haltMachine (h.of_keys rfl rfl rfl)
    · exact h.of_keys rfl rfl rfl
  case strokeReport p =>
    obtain ⟨a, rfl⟩ := acts_strokeReport he
    exact placed_strokesTaken a h
  case claimAdvance p =>
    obtain ⟨-, -, -, rfl⟩ := acts_claimAdvance he
    exact placed_claimsChanged _ _ h
  case dropAdvance p =>
    obtain ⟨-, rfl⟩ | ⟨-, -, rfl⟩ := acts_dropAdvance he
    · exact h.of_keys rfl rfl rfl
    · exact placed_claimsChanged _ _ h
  case claimBuild p =>
    obtain ⟨-, -, rfl⟩ := acts_claimBuild he
    exact placed_claimsChanged _ _ h
  case dropBuild p =>
    obtain ⟨-, rfl⟩ | ⟨-, -, -, rfl⟩ := acts_dropBuild he
    · exact h.of_keys rfl rfl rfl
    · exact placed_claimsChanged _ _ h
  case halt p =>
    obtain ⟨-, rfl⟩ := acts_halt he
    exact placed_haltMachine (h.of_keys rfl rfl rfl)
  case haltClear p =>
    obtain ⟨hmode, -, rfl⟩ := acts_haltClear he
    exact ((stackAside_carried u).haltCleared
      (fun m cause s _ _ h => h.trans (stackAside_changeMode m cause s)) hmode (.refl u)).positionsPlaced h
  case ringArm p =>
    obtain ⟨row, hidle, hrow, rfl⟩ := acts_ringArm he
    exact placed_ringArmed h hidle hrow
  case segmentOpen p =>
    obtain ⟨q, hb, rfl | ⟨-, rfl⟩⟩ := acts_segmentOpen he
    · exact placed_refuseFull h
    · exact placed_openPosition h hb
  case segmentPlaced p =>
    obtain ⟨e, rest, hstack, -, rfl⟩ := acts_segmentPlaced he
    exact h.of_keys (by simp [stackKeys, hstack]) rfl rfl
  case segmentClose p =>
    obtain ⟨-, rfl⟩ | ⟨e, rest, hstack, ⟨-, rfl⟩ | rfl⟩ := acts_segmentClose he
    · exact h.of_keys rfl rfl rfl
    · exact placed_closeSet h hstack
    · exact placed_closeNotSet h hstack
  case ringAbort p =>
    obtain ⟨hr, rfl⟩ | ⟨-, rfl⟩ := acts_ringAbort he
    · refine placed_announceRing _ ((positionsPlaced_iff _).mpr ?_)
      obtain ⟨hp, hrows⟩ := (positionsPlaced_iff u).mp h
      show Placed _ (stackPositions u) ∧ _
      rw [hp.stack_empty (by simp [hr])]
      exact ⟨Placed.cleared _, hrows.1, hrows.2.1, nofun⟩
    · exact placed_abortRing _ ((positionsPlaced_iff u).mp h).2
  case profileSelect p =>
    obtain ⟨n, rfl⟩ := acts_profileSelect he
    exact ((stackAside_carried u).selectProfile n (.refl u)).positionsPlaced h
  case constantsWrite p =>
    obtain ⟨k, -, rfl⟩ := acts_constantsWrite he
    have hk : PositionsPlaced (installConstants k u) := h.of_keys rfl rfl rfl
    split
    · refine PositionsPlaced.of_keys ?_ rfl rfl rfl (s := modeTaken (installConstants k u))
      exact ((stackAside_carried _).modeTaken (fun m cause t h => h.trans (stackAside_changeMode m cause t))
        (.refl _)).positionsPlaced hk
    · exact hk
  case retractDone p =>
    obtain ⟨g, -, rfl⟩ := acts_retractDone he
    exact placed_grantEntries _ (h.of_keys rfl rfl rfl)
  case extendDone p =>
    obtain ⟨g, -, rfl⟩ := acts_extendDone he
    exact placed_ringTest (placed_setGroup g _ h)
  case groupFault p =>
    obtain ⟨g, -, rfl⟩ := acts_groupFault he
    exact placed_ringTestAfter _ (placed_setGroup g _ h)
  case groupState p =>
    obtain ⟨g, x, -, rfl⟩ := acts_groupState he
    exact placed_ringTestAfter _ (placed_afterResolution g (placed_setGroup g _ h))
  case flagsClear p =>
    obtain rfl := acts_flagsClear he
    exact h.of_keys rfl rfl rfl
  case releaseTimerExpiry q =>
    obtain ⟨-, rfl⟩ := he
    refine h.of_keys (stackKeys_map rfl fun e => ?_) rfl rfl
    split <;> exact ⟨rfl, rfl⟩
  case planErase p => exact placed_planCommands h p (.inl rfl) he
  case planWrite p => exact placed_planCommands h p (.inr (.inl rfl)) he
  case planWriteNext p => exact placed_planCommands h p (.inr (.inr rfl)) he
  case eraseCompletion =>
    obtain ⟨-, rfl⟩ := he
    exact placed_of_plan h h.rows.1 nofun
  case rowCompletion =>
    obtain ⟨-, rfl⟩ := he
    exact placed_completeRow h
  all_goals exact hother (by simp [mayChange]) (by simp [mayChange]) (by simp [mayChange])

theorem placed_powerUp (failed : StoredFailures) {s : State} (h : PositionsPlaced s) :
    PositionsPlaced (powerUp failed s) := by
  rw [positionsPlaced_iff]
  refine ⟨Placed.cleared _, fun r hr => h.rows.1 r ?_, nofun, nofun⟩
  have hr : r ∈ s.plan.rowsAtPowerOn failed := hr
  unfold PlanStore.rowsAtPowerOn at hr
  split at hr
  · cases hr
  · exact (List.mem_filter.mp hr).1

/-- The third law of O8: each position has its one place. -/
theorem placed_step : ∀ s t : State, PositionsPlaced s → step s = .next t → PositionsPlaced t :=
  step_keeps (fun _ _ _ h hs => hs.of_keys (by simp [stackKeys, h.stack]) h.ring h.plan)
    (fun failed _ hs => placed_powerUp failed hs) (fun _ _ _ => effect_keeps_placed)
    fun _ _ h hs => hs.of_keys (by simp [stackKeys, h.inputs.stack]) h.inputs.ring h.inputs.plan

/-- Settles O8: the hold counts, the release limit and the seven positions are three laws of their own. -/
theorem holdCountsFollowStack : Obligations.HoldCountsFollowStack :=
  ⟨holdCounts_step, release_step, placed_step⟩

end Sys2Proof.Machine

/-! What a request or an event comes to when its owning block acts: the form in which the statements speak of it, from
the block's effect alone. -/

namespace Sys2Proof.Machine

set_option Elab.async false

/-- The owning blocks bring `s` to `t`: they change at most the blocks listed and tell `told`; links, held notices,
permits and conditions stay for the end of the event. -/
structure BlocksAct (told : List Sent) (l : List Block) (s t : State) : Prop where
  alters  : Alters l s t
  powered : t.powered = s.powered := by simp
  links   : t.links = s.links := by simp
  held    : t.held = s.held := by simp
  permits : t.permits = s.permits := by simp
  conds   : t.conds = s.conds := by simp
  sent    : t.sent = s.sent ++ told := by simp

theorem BlocksAct.refl (l : List Block) (s : State) : BlocksAct [] l s s := ⟨.refl _ l s, rfl, rfl, rfl, rfl, rfl, by simp⟩

theorem BlocksAct.trans {told told' : List Sent} {l : List Block} {s t u : State} (h : BlocksAct told l s t)
    (h' : BlocksAct told' l t u) : BlocksAct (told ++ told') l s u where
  alters := h.alters.trans h'.alters
  powered := h'.powered.trans h.powered
  links := h'.links.trans h.links
  held := h'.held.trans h.held
  permits := h'.permits.trans h.permits
  conds := h'.conds.trans h.conds
  sent := by rw [h'.sent, h.sent, List.append_assoc]

theorem BlocksAct.mono {told : List Sent} {l l' : List Block} {s t : State} (h : BlocksAct told l s t) (hl : l ⊆ l') :
    BlocksAct told l' s t :=
  ⟨h.alters.mono (fun _ => id) hl, h.powered, h.links, h.held, h.permits, h.conds, h.sent⟩

theorem AltersOn.onlyChanges {k : Port → Bool} {l : List Block} {s t : State} (h : AltersOn k l s t) :
    OnlyChanges l s t := by
  intro b hb
  cases b with
  | store => exact h.store hb
  | account => exact h.account hb
  | groups => exact h.groups hb
  | stack => exact h.stack hb
  | ring => exact h.ring hb
  | plan => exact h.plan hb
  | grout => exact h.grout hb
  | chamber => exact .inl (h.chamber hb)
  | cutter => exact h.cutter hb
  | modes => exact h.modes hb

theorem acts_of_cutter (c : Cutter) (s : State) : BlocksAct [] [.cutter] s { s with cutter := c } where
  alters := {}

theorem taken_alters (p : Port) {l : List Block} {s t : State} (h : Alters l (taken p s) t) : OnlyChanges l s t := by
  intro b hb
  have hk := h.onlyChanges b hb
  cases b with
  | chamber => exact .inl (h.chamber hb)
  | _ => exact hk

section Requests
variable {α : Type} {n : Nat} {roles : List Port} {early : Bool} {reader : Reader α} {owner : α → State → Handled}
  {c : Instr} {p : Port} {s t : State} {f : Frame} {a : α} {code : Code} {fields : List Field}

/-- A request that its owning block answers without an effect. -/
theorem exec_answers (hx : exec c s = .next (request n roles early reader owner p s)) (h : Asks s p n reader f a)
    (hr : roles.contains p = true) (hc : commissioned s = true ∨ early = true)
    (he : owner a (taken p s) = .answer code fields) : exec c s = .next (answeredOnly p f code fields s) := by
  rw [hx, request_answer h hr hc he]

/-- A frame that has been answered with an effect. -/
theorem answered_acts {told : List Sent} {l : List Block} (hb : BlocksAct told l (taken p s) t)
    (hpl : ∀ x ∈ told, x.message.place = 0) :
    Served p f code fields told l s (answered s p f (taken p s) (.act t code fields)) ∧
      CondsFollow s (answered s p f (taken p s) (.act t code fields)) ∧
      Carries t (answered s p f (taken p s) (.act t code fields)) := by
  have hsent : t.sent = told := by simpa using hb.sent
  exact ⟨served_of_act ⟨hb.powered, hb.alters.now, hb.alters.pending, hb.alters.choices⟩ hb.links hb.held hsent hpl
      hb.permits (taken_alters p hb.alters) hb.alters.chamber,
    answered_act_conds _ _ _ _ _ _ hb.conds, carries_answered _ _ _ _ _ _⟩

/-- A request on which its owning block acts. -/
theorem exec_acts {told : List Sent} {l : List Block} (hx : exec c s = .next (request n roles early reader owner p s))
    (h : Asks s p n reader f a) (hr : roles.contains p = true) (hc : commissioned s = true ∨ early = true)
    (he : owner a (taken p s) = .act t code fields) (hb : BlocksAct told l (taken p s) t)
    (hpl : ∀ x ∈ told, x.message.place = 0) :
    ∃ r, exec c s = .next r ∧ Served p f code fields told l s r ∧ CondsFollow s r ∧ Carries t r :=
  ⟨_, by rw [hx, request_asks h hr hc, he], answered_acts hb hpl⟩

end Requests

/-- An event that is no request. -/
theorem exec_event {c : Instr} {effect : State → State} {told : List Sent} {l : List Block} {s : State}
    (hx : exec c s = .next (event effect s)) (hp : s.powered = true) (hb : BlocksAct told l (quiet s) (effect (quiet s)))
    (hpl : ∀ x ∈ told, x.message.place = 0) :
    ∃ r, exec c s = .next r ∧ Made told l s r ∧ CondsFollow s r ∧ Carries (effect (quiet s)) r := by
  have hsent : (effect (quiet s)).sent = told := by simpa using hb.sent
  have hchanges : OnlyChanges l s (effect (quiet s)) := by
    intro b hb'
    have hk := hb.alters.onlyChanges b hb'
    cases b with
    | chamber => exact .inl (hb.alters.chamber hb')
    | _ => exact hk
  obtain ⟨r, hr, hmade, hconds, hcarries⟩ := event_made hp rfl
    ⟨hb.powered, hb.alters.now, hb.alters.pending, hb.alters.choices⟩ hb.links hb.held hsent hpl hb.permits
    hchanges hb.alters.chamber hb.conds
  exact ⟨r, by rw [hx, hr], hmade, hconds, hcarries⟩

/-- A timer whose time has come. -/
theorem exec_expires {c : Instr} {due : Bool} {effect : State → State} {told : List Sent} {l : List Block} {s : State}
    (hx : exec c s = .next (expiry due effect s)) (hdue : due = true) (hp : s.powered = true)
    (hb : BlocksAct told l (quiet s) (effect (quiet s))) (hpl : ∀ x ∈ told, x.message.place = 0) :
    ∃ r, exec c s = .next r ∧ Made told l s r ∧ CondsFollow s r ∧ Carries (effect (quiet s)) r :=
  exec_event (by rw [hx, expiry_due hdue]) hp hb hpl

/-- The end of the event changes of the chamber unit the setpoint alone (R126). -/
theorem Carries.chamber_frame {t r : State} (h : Carries t r) :
    r.chamber.snapshot = t.chamber.snapshot ∧ r.chamber.integrator = t.chamber.integrator ∧
    r.chamber.status = t.chamber.status ∧ r.chamber.gateAllowed = t.chamber.gateAllowed ∧
    r.chamber.estimate = t.chamber.estimate ∧ r.chamber.transducers = t.chamber.transducers := by
  rw [h.chamber]
  split <;> (and_intros <;> rfl)

theorem Carries.profile {t r : State} (h : Carries t r) : activeProfile r = activeProfile t := by
  simp [activeProfile, h.store]

theorem Carries.constantsOf {t r : State} (h : Carries t r) : constantsOf r = constantsOf t := by
  simp [Machine.constantsOf, h.store]

theorem Carries.torqueCeilingOf {t r : State} (h : Carries t r) : torqueCeilingOf r = torqueCeilingOf t :=
  torqueCeilingOf_congr h.profile h.constantsOf (by rw [h.cutter])

/-- What the owning blocks leave as it was stays so at the end of the event. -/
theorem Carries.onlyChanges {l : List Block} {s t r : State} (h : Carries t r) (ha : OnlyChanges l s t)
    (hc : .chamber ∉ l → t.chamber = s.chamber) : OnlyChanges l s r := by
  intro b hb
  have hk := ha b hb
  cases b with
  | store => exact h.store.trans hk
  | account => exact h.account.trans hk
  | groups => exact h.groups.trans hk
  | stack => exact h.stack.trans hk
  | ring => exact h.ring.trans hk
  | plan => exact h.plan.trans hk
  | grout => exact h.grout.trans hk
  | cutter => exact h.cutter.trans hk
  | modes => exact h.modes.trans hk
  | chamber =>
    show _ ∨ _
    rw [h.chamber]
    split
    · exact .inr ⟨‹_›, by simp [heldDown, hc hb]⟩
    · exact .inl (hc hb)

end Sys2Proof.Machine

/-! The cutterhead's requests and timers (chapter 7). -/

namespace Sys2Proof.Machine

set_option Elab.async false

theorem advancing_iff (m : Mode) : advancing m = true ↔ m = .advance ∨ m = .continuous := by
  cases m <;> simp [advancing]

theorem advancing_eq_false {m : Mode} (h1 : m ≠ .advance) (h2 : m ≠ .continuous) : advancing m = false := by
  cases m <;> simp_all [advancing]

/-! ## CUTTER START on a STOPPED cutterhead (R141) -/

theorem exec_cutterStart (p : Port) (s : State) :
    exec (.cutterStart p) s = .next (request 9 [.drive] false readCutterStart takeCutterStart p s) := rfl

theorem startCutter_acts (d : Direction) (n : Nat) (s : State) : BlocksAct [] [.cutter] s (startCutter d n s) := acts_of_cutter _ s

theorem retarget_from_rest {target now : Nat} (h : target ≠ 0) {c : Cutter} (hr : c.reference = 0) (hn : c.ramp = none) :
    retarget target now c = { c with ramp := some now, rampSteps := 0 } := by
  simp [retarget, hr, hn, h.symm]

theorem clampedSpeed_ne_zero (n : Nat) : clampedSpeed n ≠ 0 := by
  unfold clampedSpeed
  omega

theorem startCutter_cutter (d : Direction) (n : Nat) (s : State) : (startCutter d n s).cutter =
    { s.cutter with
      run := .starting, direction := d, requested := clampedSpeed n, reference := 0, ramp := some s.now, rampSteps := 0 } := by
  simp only [startCutter]
  rw [retarget_from_rest (clampedSpeed_ne_zero n) rfl rfl]

section Start
variable {d : Direction} {n : Nat} {s : State}

theorem takeCutterStart_of_refusal {r : Handled} (hrun : s.cutter.run = .stopped) (h : startRefusal s = some r) :
    takeCutterStart (d, n) s = r := by
  simp [takeCutterStart, hrun, h]

theorem takeCutterStart_of_start (hrun : s.cutter.run = .stopped) (h : startRefusal s = none) :
    takeCutterStart (d, n) s = .act (startCutter d n s) .done
      [.u8 1, .u8 d.code, .u8 (max 1 (min n 40)), .u16 s.cutter.torqueCeiling] := by
  simp [takeCutterStart, hrun, h, startCutter_cutter, RunState.code, clampedSpeed]

theorem takeCutterStart_of_turning (h : turning s.cutter.run = true) :
    takeCutterStart (s.cutter.direction, n) s = takeSpeed n s := by
  cases hr : s.cutter.run <;> simp [hr, turning, takeCutterStart] at h ⊢

theorem takeCutterStart_of_other_direction (h : turning s.cutter.run = true) (hd : d ≠ s.cutter.direction) :
    takeCutterStart (d, n) s = .answer .state [.u8 4] := by
  cases hr : s.cutter.run <;> simp [hr, turning, takeCutterStart, hd, stateRefusal] at h ⊢

theorem takeCutterStart_of_moving (h : turning s.cutter.run = false) (hs : s.cutter.run ≠ .stopped) :
    takeCutterStart (d, n) s = .answer .state [.u8 11] := by
  cases hr : s.cutter.run <;> simp [hr, turning, takeCutterStart, stateRefusal] at h hs ⊢

end Start

/-- Settles O43: the checks of R141 in their order, and the start that has passed them. -/
theorem cutterStarts : Obligations.CutterStarts := by
  intro s f d n hasks hcomm hrun
  have refuses {code : Code} {fields : List Field} (h : startRefusal s = some (.answer code fields)) :
      exec (.cutterStart .drive) s = .next (answeredOnly .drive f code fields s) :=
    exec_answers (exec_cutterStart .drive s) hasks rfl (.inl hcomm)
      (takeCutterStart_of_refusal (s := taken .drive s) hrun h)
  refine ⟨fun h1 h2 => refuses ?_, fun hmode => ⟨fun hlost => refuses ?_, fun hlost hband => refuses ?_,
    fun hlost hband => ⟨fun hlow => refuses ?_, fun hlow hceil => refuses ?_, fun hlow hceil hspeed => refuses ?_,
      fun hlow hceil hspeed => ?_⟩⟩⟩
  · simp [startRefusal, advancing_eq_false h1 h2, stateRefusal]
  · simp [startRefusal, (advancing_iff _).mpr hmode, hlost, stateRefusal]
  · simp [startRefusal, (advancing_iff _).mpr hmode, hlost, pressureError, hband, stateRefusal]
  · simp [startRefusal, (advancing_iff _).mpr hmode, hlost, pressureError, hband.not_gt, hlow, stateRefusal]
  · simp [startRefusal, (advancing_iff _).mpr hmode, hlost, pressureError, hband.not_gt, hlow, hceil, stateRefusal]
  · simp [startRefusal, (advancing_iff _).mpr hmode, hlost, pressureError, hband.not_gt, hlow, hceil, hspeed, stateRefusal]
  · have hnone : startRefusal s = none := by
      simp [startRefusal, (advancing_iff _).mpr hmode, hlost, pressureError, hband.not_gt, hlow, hceil, hspeed]
    obtain ⟨t, ht, hserved, hconds, hcarries⟩ := exec_acts (exec_cutterStart .drive s) hasks rfl (.inl hcomm)
      (takeCutterStart_of_start (s := taken .drive s) hrun hnone) (startCutter_acts d n _) (List.forall_mem_nil _)
    exact ⟨t, ht, hserved, hconds, hcarries.cutter.trans (startCutter_cutter d n _)⟩

/-! ## CUTTER SPEED (R144) -/

theorem exec_cutterSpeed (p : Port) (s : State) :
    exec (.cutterSpeed p) s = .next (request 10 [.drive] false readWide takeCutterSpeed p s) := rfl

theorem requestSpeed_acts (n : Nat) (s : State) : BlocksAct [] [.cutter] s (requestSpeed n s) := acts_of_cutter _ s

theorem requestSpeed_cutter (n : Nat) (s : State) : (requestSpeed n s).cutter =
    { s.cutter with
      requested := max 1 (min n 40)
      ramp :=
        if s.cutter.reference = max 1 (min n 40) then none
        else if s.cutter.ramp.isSome then s.cutter.ramp else some s.now
      rampSteps :=
        if s.cutter.reference = max 1 (min n 40) then 0
        else if s.cutter.ramp.isSome then s.cutter.rampSteps else 0 } := by
  by_cases hv : s.cutter.reference = max 1 (min n 40)
  · simp [requestSpeed, retarget, clampedSpeed, hv]
  · by_cases hr : s.cutter.ramp.isSome <;> simp [requestSpeed, retarget, clampedSpeed, hv, hr]

theorem takeSpeed_eq (n : Nat) (s : State) : takeSpeed n s =
    .act (requestSpeed n s) .done [.u8 (max 1 (min n 40)), .u8 s.cutter.reference] := by
  simp [takeSpeed, requestSpeed_cutter]

section Speed
variable {n : Nat} {s : State}

theorem takeCutterSpeed_of_turning (h : turning s.cutter.run = true) : takeCutterSpeed n s = takeSpeed n s := if_pos h

theorem takeCutterSpeed_of_not_turning (h : turning s.cutter.run = false) :
    takeCutterSpeed n s = .answer .state [.u8 0] := by
  simp [takeCutterSpeed, h, stateRefusal]

end Speed

/-- A new requested speed, whichever of the two requests brings it. -/
theorem speed_served {c : Instr} {s : State} {f : Frame} {n : Nat} (hturn : turning s.cutter.run = true)
    (hcomm : commissioned s = true) (h : c = .cutterSpeed .drive ∧ Asks s .drive 10 readWide f n ∨
      c = .cutterStart .drive ∧ Asks s .drive 9 readCutterStart f (s.cutter.direction, n)) :
    ∃ t, exec c s = .next t ∧ Served .drive f .done [.u8 (max 1 (min n 40)), .u8 s.cutter.reference] [] [.cutter] s t ∧
      CondsFollow s t ∧ t.cutter = (requestSpeed n s).cutter := by
  have htake := takeSpeed_eq n (taken .drive s)
  obtain ⟨rfl, hasks⟩ | ⟨rfl, hasks⟩ := h
  · obtain ⟨t, ht, hserved, hconds, hcarries⟩ := exec_acts (exec_cutterSpeed .drive s) hasks rfl (.inl hcomm)
      ((takeCutterSpeed_of_turning (s := taken .drive s) hturn).trans htake) (requestSpeed_acts n _) (List.forall_mem_nil _)
    exact ⟨t, ht, hserved, hconds, hcarries.cutter⟩
  · obtain ⟨t, ht, hserved, hconds, hcarries⟩ := exec_acts (exec_cutterStart .drive s) hasks rfl (.inl hcomm)
      ((takeCutterStart_of_turning (s := taken .drive s) hturn).trans htake) (requestSpeed_acts n _) (List.forall_mem_nil _)
    exact ⟨t, ht, hserved, hconds, hcarries.cutter⟩

/-- Settles O44. -/
theorem speedRequested : Obligations.SpeedRequested := by
  refine ⟨fun s t f n hcomm hturn h => ?_, fun s f n hcomm hasks => ⟨fun hturn => ?_, fun hturn => ?_⟩,
    fun s f d n hcomm hasks => ⟨fun hturn hd => ?_, fun hturn hrun => ?_⟩⟩
  · obtain ⟨c, hexec, hc⟩ : ∃ c, exec c s = .next t ∧ (c = .cutterSpeed .drive ∧ Asks s .drive 10 readWide f n ∨
        c = .cutterStart .drive ∧ Asks s .drive 9 readCutterStart f (s.cutter.direction, n)) := by
      obtain ⟨hasks, hexec⟩ | ⟨hasks, hexec⟩ := h
      · exact ⟨_, hexec, .inl ⟨rfl, hasks⟩⟩
      · exact ⟨_, hexec, .inr ⟨rfl, hasks⟩⟩
    obtain ⟨r, hr, hserved, hconds, hcutter⟩ := speed_served hturn hcomm hc
    obtain rfl : t = r := by injection hexec.symm.trans hr
    exact ⟨hserved, hconds, hcutter.trans (requestSpeed_cutter n s)⟩
  · obtain ⟨t, ht, -, -, hcutter⟩ := speed_served hturn hcomm (.inl ⟨rfl, hasks⟩)
    rw [requestSpeed_cutter] at hcutter
    exact ⟨t, ht, by rw [hcutter], by rw [hcutter]⟩
  · exact exec_answers (exec_cutterSpeed .drive s) hasks rfl (.inl hcomm)
      (takeCutterSpeed_of_not_turning (s := taken .drive s) hturn)
  · exact exec_answers (exec_cutterStart .drive s) hasks rfl (.inl hcomm)
      (takeCutterStart_of_other_direction (s := taken .drive s) hturn hd)
  · exact exec_answers (exec_cutterStart .drive s) hasks rfl (.inl hcomm)
      (takeCutterStart_of_moving (s := taken .drive s) hturn hrun)

/-! ## CUTTER STOP (R145) -/

theorem exec_cutterStop (p : Port) (s : State) :
    exec (.cutterStop p) s = .next (request 11 [.drive, .cabin] false readNothing takeCutterStop p s) := rfl

theorem forcedStop_acts (s : State) : BlocksAct [] [.cutter, .chamber] s (forcedStop s) where
  alters := forcedStop_alters s

theorem forcedStop_of_turning {s : State} (h : turning s.cutter.run = true) : forcedStop s = enterStopping s := by
  unfold forcedStop
  cases hr : s.cutter.run <;> simp [hr, turning] at h ⊢

theorem forcedStop_of_rocking {s : State} (h : s.cutter.run = .rocking) :
    forcedStop s = { s with cutter := restCutter .jammed s.cutter } := by
  rw [← enterRest_of_not_running (by simp [h]), forcedStop, h]

theorem forcedStop_of_still {s : State} (h1 : turning s.cutter.run = false) (h2 : s.cutter.run ≠ .rocking) :
    forcedStop s = s := by
  unfold forcedStop
  cases hr : s.cutter.run <;> simp [hr, turning] at h1 h2 ⊢

/-- A turning cutterhead goes to STOPPING (R145). -/
theorem enterStopping_record (s : State) :
    (enterStopping s).cutter.run = .stopping ∧ (enterStopping s).cutter.reference = s.cutter.reference ∧
    (enterStopping s).cutter.jam = none ∧ (enterStopping s).cutter.ramp =
      if s.cutter.reference = 0 then none else if s.cutter.ramp.isSome then s.cutter.ramp else some s.now := by
  have href : (leaveIfRunning s).cutter.reference = s.cutter.reference := by unfold leaveIfRunning; split <;> rfl
  have hramp : (leaveIfRunning s).cutter.ramp = s.cutter.ramp := by unfold leaveIfRunning; split <;> rfl
  rw [enterStopping_cutter]
  refine ⟨by simp, by simp [href], by simp, ?_⟩
  unfold retarget
  simp only [href, hramp]
  split
  · rfl
  · split <;> simp_all

/-- Out of RUNNING a forced stop changes the cutterhead unit alone (R127). -/
theorem forcedStop_alters_of_not_running {s : State} (h : s.cutter.run ≠ .running) : Alters [.cutter] s (forcedStop s) := by
  have hkeeps := forcedStop_alters s
  have hchamber : (forcedStop s).chamber = s.chamber := by
    obtain ⟨e, -⟩ | ⟨-, e⟩ | ⟨-, e⟩ := forcedStop_cases s
    · rw [e]
    · rw [e, enterStopping, leaveIfRunning_of_not h]
    · rw [e, enterRest_of_not_running h]
  exact { chamber := fun _ => hchamber }

/-- A RUNNING cutterhead that stops takes the standstill snapshot and drops its index (R127, R147). -/
theorem forcedStop_of_running {s : State} (h : s.cutter.run = .running) :
    (forcedStop s).chamber.snapshot = some s.chamber.integrator ∧ (forcedStop s).cutter.indexRef = none ∧
    (forcedStop s).cutter.watch = none ∧ (forcedStop s).cutter.indexLost = false := by
  have hleave : leaveIfRunning s = leaveRunning s := if_pos h
  rw [forcedStop_of_turning (by simp [h, turning])]
  have hframe : ∀ c : Cutter, (retarget 0 s.now c).indexRef = c.indexRef ∧ (retarget 0 s.now c).watch = c.watch ∧
      (retarget 0 s.now c).indexLost = c.indexLost := by
    intro c
    unfold retarget
    split
    · exact ⟨rfl, rfl, rfl⟩
    · split <;> exact ⟨rfl, rfl, rfl⟩
  refine ⟨?_, ?_⟩
  · rw [enterStopping, hleave]
    rfl
  · rw [enterStopping_cutter, hleave]
    obtain ⟨hi, hw, hl⟩ := hframe { (leaveRunning s).cutter with run := .stopping, jam := none }
    exact ⟨hi, hw, hl⟩

/-- Settles O45. -/
theorem cutterStops : Obligations.CutterStops := by
  intro s f p hp hasks hcomm
  have hrole : ([.drive, .cabin] : List Port).contains p = true := by
    obtain rfl | rfl := hp <;> rfl
  obtain ⟨t, ht, hserved, hconds, hcarries⟩ := exec_acts (exec_cutterStop p s) hasks hrole (.inl hcomm) rfl
    (forcedStop_acts (taken p s)) (List.forall_mem_nil _)
  have hcutter : t.cutter = (forcedStop (taken p s)).cutter := hcarries.cutter
  have hsnap := hcarries.chamber_frame.1
  refine ⟨t, ht, by rw [hcutter]; exact hserved, hconds, fun hturn => ?_, fun hrun => ?_, fun hrock => ?_, fun hstart => ?_,
    fun hturn hrock => ?_⟩
  · rw [hcutter, forcedStop_of_turning (s := taken p s) hturn]
    exact enterStopping_record (taken p s)
  · obtain ⟨h1, h2⟩ := forcedStop_of_running (s := taken p s) hrun
    rw [hcutter, hsnap]
    exact ⟨h1, h2⟩
  · have hstop := forcedStop_of_rocking (s := taken p s) hrock
    rw [hcutter, hstop]
    exact ⟨rfl, hcarries.onlyChanges (taken_alters p (forcedStop_alters_of_not_running (by
      show s.cutter.run ≠ _
      simp [hrock]))) (by rw [hstop]; exact fun _ => rfl)⟩
  · have halters := forcedStop_alters_of_not_running (s := taken p s) (by show s.cutter.run ≠ _; simp [hstart])
    exact hcarries.onlyChanges (taken_alters p halters) halters.chamber
  · rw [forcedStop_of_still (s := taken p s) hturn hrock] at hcarries
    exact hcarries.onlyChanges (taken_alters p (.refl _ _ _)) fun _ => rfl

/-! ## Rocking (R155 to R157) -/

theorem exec_cutterRock (p : Port) (s : State) :
    exec (.cutterRock p) s = .next (request 12 [.drive] false readNothing takeCutterRock p s) := rfl

theorem startRocking_acts (s : State) : BlocksAct [] [.cutter] s (startRocking s) := acts_of_cutter _ s

theorem beginForward_acts (s : State) : BlocksAct [] [.cutter] s (beginForward s) := acts_of_cutter _ s

theorem rockFails_of_rocking {s : State} (h : s.cutter.run = .rocking) : rockFails s =
    { s with cutter :=
        { s.cutter with
          run := if s.cutter.attempts ≤ 1 then .tripped else .jammed
          phase := none, rock := none, reference := 0, ramp := none, rampSteps := 0, jam := none
          attempts := s.cutter.attempts - 1 } } := by
  have hleft : (s.cutter.attempts - 1 = 0) = (s.cutter.attempts ≤ 1) := by
    rw [Nat.sub_eq_zero_iff_le]
  unfold rockFails
  simp only [hleft]
  rw [enterRest_of_not_running (by simp [h])]
  rfl

theorem rockDue_iff {phase : RockPhase} {s : State} {began : Nat} (hrun : s.cutter.run = .rocking)
    (hrock : s.cutter.rock = some began) (hran : began + (activeProfile s).rockTime ≤ s.now)
    (hphase : s.cutter.phase = some phase) : rockDue phase s = true := by
  simp [rockDue, hrun, hphase, hrock, ranFor, hran]

section Rock
variable {s : State}

theorem takeCutterRock_of_unfit (h1 : s.cutter.run ≠ .rocking) (h2 : s.cutter.run ≠ .jammed) :
    takeCutterRock () s = .answer .state [.u8 13] := by
  simp [takeCutterRock, h1, h2, stateRefusal]

theorem takeCutterRock_of_mode (h : s.cutter.run = .jammed) (hmode : advancing s.modes.mode = false) :
    takeCutterRock () s = .answer .state [.u8 5] := by
  simp [takeCutterRock, h, hmode, stateRefusal]

theorem takeCutterRock_of_lost (h : s.cutter.run = .jammed) (hmode : advancing s.modes.mode = true)
    (hlost : s.chamber.status = .lost) : takeCutterRock () s = .answer .state [.u8 6] := by
  simp [takeCutterRock, h, hmode, hlost, stateRefusal]

theorem takeCutterRock_of_low (h : s.cutter.run = .jammed) (hmode : advancing s.modes.mode = true)
    (hlost : s.chamber.status ≠ .lost) (hlow : motorsLow s = true) : takeCutterRock () s = .answer .state [.u8 8] := by
  simp [takeCutterRock, h, hmode, hlost, hlow, stateRefusal]

theorem takeCutterRock_of_allowed (h : s.cutter.run = .jammed) (hmode : advancing s.modes.mode = true)
    (hlost : s.chamber.status ≠ .lost) (hlow : motorsLow s = false) :
    takeCutterRock () s = .act (startRocking s) .done [.u8 (startRocking s).cutter.attempts] := by
  simp [takeCutterRock, h, hmode, hlost, hlow]

end Rock

/-- Settles O46. -/
theorem rockingAttempt : Obligations.RockingAttempt := by
  refine ⟨fun s f hasks hcomm => ?_, fun s began hp hrun hrock hran => ⟨fun hphase => ?_, fun hphase => ?_⟩⟩
  · have refuses {code : Code} {fields : List Field} (h : takeCutterRock () (taken .drive s) = .answer code fields) :
        exec (.cutterRock .drive) s = .next (answeredOnly .drive f code fields s) :=
      exec_answers (exec_cutterRock .drive s) hasks rfl (.inl hcomm) h
    refine ⟨fun h => refuses (if_pos h), fun h1 h2 => refuses (takeCutterRock_of_unfit (s := taken .drive s) h1 h2),
      fun h h1 h2 => refuses (takeCutterRock_of_mode (s := taken .drive s) h (advancing_eq_false h1 h2)),
      fun h hmode => ?_⟩
    rw [← advancing_iff] at hmode
    refine ⟨fun hlost => refuses (takeCutterRock_of_lost (s := taken .drive s) h hmode hlost),
      fun hlost hlow => refuses (takeCutterRock_of_low (s := taken .drive s) h hmode hlost hlow), fun hlost hlow => ?_⟩
    obtain ⟨t, ht, hserved, hconds, hcarries⟩ := exec_acts (exec_cutterRock .drive s) hasks rfl (.inl hcomm)
      (takeCutterRock_of_allowed (s := taken .drive s) h hmode hlost hlow) (startRocking_acts _) (List.forall_mem_nil _)
    exact ⟨t, _, ht, rfl, hserved, hconds, hcarries.cutter⟩
  · obtain ⟨t, ht, hmade, hconds, hcarries⟩ := exec_expires (c := .reversePhaseExpiry) rfl
      (rockDue_iff hrun hrock hran hphase) hp (beginForward_acts _) (List.forall_mem_nil _)
    exact ⟨t, ht, hmade, hconds, hcarries.cutter⟩
  · have hfails := rockFails_of_rocking (s := quiet s) hrun
    obtain ⟨t, ht, hmade, hconds, hcarries⟩ := exec_expires (c := .forwardPhaseExpiry) (l := [.cutter]) (told := []) rfl
      (rockDue_iff hrun hrock hran hphase) hp (by rw [hfails]; exact acts_of_cutter _ _)
      (List.forall_mem_nil _)
    rw [hfails] at hcarries
    exact ⟨t, ht, hmade, hconds, hcarries.cutter⟩

end Sys2Proof.Machine

/-! Motor sharing, the revolution index and the timers of the cutterhead (chapter 7). -/

namespace Sys2Proof.Machine

set_option Elab.async false

/-! ## Motors (R148, R149) -/

theorem countWhere_set {α : Type} {n : Nat} (v : Vector α n) (i : Fin n) (x : α) (p : α → Bool) :
    countWhere (v.set i.val x i.isLt) p + (if p v[i] then 1 else 0) = countWhere v p + if p x then 1 else 0 := by
  have hset : countWhere (v.set i.val x i.isLt) p = countWhere v p - (if p v[i] then 1 else 0) + if p x then 1 else 0 := by
    simp only [countWhere, Vector.toList_set]
    rw [List.countP_set (by simp)]
    simp
  have hle : (if p v[i] then 1 else 0) ≤ countWhere v p := by
    by_cases h : p v[i] = true
    · rw [if_pos h]
      exact List.countP_pos_iff.mpr ⟨v[i], by simp, h⟩
    · rw [if_neg h]
      exact Nat.zero_le _
  omega

theorem inMotors_setMotor (i : Fin 8) (m : Motor) (s : State) :
    inMotors (setMotor i m s).cutter + (if s.cutter.motors[i].isIn then 1 else 0) =
      inMotors s.cutter + if m.isIn then 1 else 0 :=
  countWhere_set s.cutter.motors i m Motor.isIn

theorem setMotor_acts (i : Fin 8) (m : Motor) (s : State) : BlocksAct [] [.cutter] s (setMotor i m s) where
  alters := {}

theorem isIn_iff (m : Motor) : m.isIn = true ↔ m.membership = .isIn := by
  simp [Motor.isIn]

theorem isIn_eq_false {m : Motor} (h : m.membership ≠ .isIn) : m.isIn = false := by
  simpa [Motor.isIn] using h

theorem exec_motorReadmit (p : Port) (s : State) :
    exec (.motorReadmit p) s = .next (request 13 [.drive] false readByte takeMotorReadmit p s) := rfl

section Readmit
variable {i : Fin 8} {s : State}

theorem takeMotorReadmit_of_run (h1 : s.cutter.run ≠ .stopped) (h2 : s.cutter.run ≠ .jammed) :
    takeMotorReadmit i.val s = .answer .state [.u8 11] := by
  simp [takeMotorReadmit, h1, h2, stateRefusal]

theorem takeMotorReadmit_of_not_ready (h : s.cutter.run = .stopped ∨ s.cutter.run = .jammed)
    (hready : s.cutter.motors[i].ready = false) : takeMotorReadmit i.val s = .answer .state [.u8 12] := by
  have hrun : ¬(s.cutter.run ≠ .stopped ∧ s.cutter.run ≠ .jammed) := by tauto
  unfold takeMotorReadmit
  rw [dif_pos i.isLt]
  simp only [if_neg hrun]
  exact if_pos hready

theorem takeMotorReadmit_of_in (h : s.cutter.run = .stopped ∨ s.cutter.run = .jammed)
    (hready : s.cutter.motors[i].ready = true) (hin : s.cutter.motors[i].membership = .isIn) :
    takeMotorReadmit i.val s = .answer .done [.u64 (inMotors s.cutter), .u16 s.cutter.torqueCeiling] := by
  have hrun : ¬(s.cutter.run ≠ .stopped ∧ s.cutter.run ≠ .jammed) := by tauto
  unfold takeMotorReadmit
  rw [dif_pos i.isLt]
  simp only [if_neg hrun]
  rw [if_neg (by simpa using hready)]
  exact if_pos ((isIn_iff _).mpr hin)

theorem takeMotorReadmit_of_out (h : s.cutter.run = .stopped ∨ s.cutter.run = .jammed)
    (hready : s.cutter.motors[i].ready = true) (hout : s.cutter.motors[i].membership ≠ .isIn) :
    takeMotorReadmit i.val s = .act (setMotor i s.cutter.motors[i].readmitted s) .done
      (readmitFields (setMotor i s.cutter.motors[i].readmitted s).cutter) := by
  have hrun : ¬(s.cutter.run ≠ .stopped ∧ s.cutter.run ≠ .jammed) := by tauto
  have hin := isIn_eq_false hout
  unfold takeMotorReadmit
  rw [dif_pos i.isLt]
  simp only [if_neg hrun]
  rw [if_neg (by simpa using hready)]
  exact if_neg (by simpa using hin)

end Readmit

theorem deviationDue_of {i : Fin 8} {s : State} {began : Nat} (hin : s.cutter.motors[i].membership = .isIn)
    (hdev : s.cutter.motors[i].deviation = some began) (hran : began + (activeProfile s).shareTime ≤ s.now) :
    deviationDue i s = true := by
  simp only [Fin.getElem_fin] at hin hdev
  simp [deviationDue, Motor.isIn, hin, hdev, ranFor, hran]

/-- A motor taken out of the count (R148). -/
def motorRemoved (i : Fin 8) (s : State) : State :=
  setMotor i { s.cutter.motors[i] with membership := .out .share, deviation := none } s

theorem removeMotor_eq (i : Fin 8) (s : State) : removeMotor i s = stopIfMotorsLow (motorRemoved i s) := rfl

theorem stopIfMotorsLow_acts (s : State) : BlocksAct [] [.cutter, .chamber] s (stopIfMotorsLow s) where
  alters := {}

theorem removeMotor_acts (i : Fin 8) (s : State) : BlocksAct [] [.cutter, .chamber] s (removeMotor i s) := by
  rw [removeMotor_eq]
  exact ((setMotor_acts i _ s).mono (by simp)).trans (stopIfMotorsLow_acts _)

/-- A forced stop keeps every motor's membership, and clears at most its deviation (R147). -/
theorem forcedStop_motors (s : State) (i : Fin 8) :
    (forcedStop s).cutter.motors[i].membership = s.cutter.motors[i].membership ∧
    (s.cutter.motors[i].deviation = none → (forcedStop s).cutter.motors[i].deviation = none) := by
  have hleave : (leaveIfRunning s).cutter.motors[i].membership = s.cutter.motors[i].membership ∧
      (s.cutter.motors[i].deviation = none → (leaveIfRunning s).cutter.motors[i].deviation = none) := by
    unfold leaveIfRunning
    split
    · simp [leaveRunning, Motor.settled]
    · exact ⟨rfl, id⟩
  obtain ⟨e, -⟩ | ⟨-, e⟩ | ⟨-, e⟩ := forcedStop_cases s
  · rw [e]
    exact ⟨rfl, id⟩
  · rw [e, enterStopping_cutter]
    simpa using hleave
  · rw [e]
    exact hleave

/-- The run state after the stop of MOTORS_LOW (R146). -/
theorem forcedStop_run (s : State) : (forcedStop s).cutter.run =
    if turning s.cutter.run then .stopping else if s.cutter.run = .rocking then .jammed else s.cutter.run := by
  by_cases hturn : turning s.cutter.run = true
  · rw [forcedStop_of_turning hturn, if_pos hturn]
    exact (enterStopping_record s).1
  · by_cases hrock : s.cutter.run = .rocking
    · rw [forcedStop_of_rocking hrock, if_neg hturn, if_pos hrock]
      rfl
    · rw [forcedStop_of_still (by simpa using hturn) hrock, if_neg hturn, if_neg hrock]

theorem forcedStop_torqueCeiling (s : State) : (forcedStop s).cutter.torqueCeiling = s.cutter.torqueCeiling := by
  obtain ⟨e, -⟩ | ⟨-, e⟩ | ⟨-, e⟩ := forcedStop_cases s
  · rw [e]
  · simp [e, enterStopping_cutter]
  · rw [e]
    exact (leaveIfRunning_cutter_frame s).2.1

@[simp] theorem inMotors_stopIfMotorsLow (s : State) : inMotors (stopIfMotorsLow s).cutter = inMotors s.cutter := by
  obtain ⟨-, e⟩ | ⟨-, e⟩ := stopIfMotorsLow_cases s <;> rw [e]
  exact inMotors_forcedStop s

/-- The record that the stop of MOTORS_LOW leaves, in one statement for both its ends (R140, R146). -/
theorem stopIfMotorsLow_record (s : State) :
    (stopIfMotorsLow s).cutter.torqueCeiling = s.cutter.torqueCeiling ∧
    (stopIfMotorsLow s).cutter.run = (if motorsLow s then
      if turning s.cutter.run then .stopping else if s.cutter.run = .rocking then .jammed else s.cutter.run
      else s.cutter.run) ∧
    ∀ i : Fin 8, (stopIfMotorsLow s).cutter.motors[i].membership = s.cutter.motors[i].membership ∧
      (s.cutter.motors[i].deviation = none → (stopIfMotorsLow s).cutter.motors[i].deviation = none) := by
  obtain ⟨hlow, e⟩ | ⟨hlow, e⟩ := stopIfMotorsLow_cases s
  · simp [e, hlow]
  · rw [e, hlow, forcedStop_run]
    exact ⟨forcedStop_torqueCeiling s, rfl, forcedStop_motors s⟩

/-- Settles O47. -/
theorem motorsComeAndGo : Obligations.MotorsComeAndGo := by
  refine ⟨fun s f m hasks hcomm => ?_, fun s m began hp hin hdev hran => ?_⟩
  · have refuses {code : Code} {fields : List Field} (h : takeMotorReadmit m.val (taken .drive s) = .answer code fields) :
        exec (.motorReadmit .drive) s = .next (answeredOnly .drive f code fields s) :=
      exec_answers (exec_motorReadmit .drive s) hasks rfl (.inl hcomm) h
    refine ⟨fun h1 h2 => refuses (takeMotorReadmit_of_run (s := taken .drive s) h1 h2), fun h =>
      ⟨fun hready => refuses (takeMotorReadmit_of_not_ready (s := taken .drive s) h hready),
        fun hready hin => refuses (takeMotorReadmit_of_in (s := taken .drive s) h hready hin),
        fun hready hout => ?_⟩⟩
    obtain ⟨t, ht, hserved, hconds, hcarries⟩ := exec_acts (exec_motorReadmit .drive s) hasks rfl (.inl hcomm)
      (takeMotorReadmit_of_out (s := taken .drive s) h hready hout) (setMotor_acts m _ _) (List.forall_mem_nil _)
    have hcutter := hcarries.cutter
    have hceiling : torqueCeilingOf t = (setMotor m s.cutter.motors[m].readmitted (taken .drive s)).cutter.torqueCeiling :=
      hcarries.torqueCeilingOf
    have hcount := inMotors_setMotor m s.cutter.motors[m].readmitted (taken .drive s)
    refine ⟨t, ht, ?_, hconds, ?_, ?_⟩
    · rw [hcutter, hceiling]
      exact hserved
    · have hout' : (taken .drive s).cutter.motors[m].isIn = false := isIn_eq_false hout
      rw [hout', if_neg (by simp), if_pos ((isIn_iff _).mpr rfl)] at hcount
      rw [hcutter]
      exact hcount
    · rw [hceiling, hcutter]
      rfl
  · obtain ⟨t, ht, hmade, hconds, hcarries⟩ := exec_expires (c := .deviationTimerExpiry m) (effect := removeMotor m) rfl
      (deviationDue_of hin hdev hran) hp (removeMotor_acts m _) (List.forall_mem_nil _)
    obtain ⟨hceiling, hrun, hmotors⟩ := stopIfMotorsLow_record (motorRemoved m (quiet s))
    rw [removeMotor_eq] at hcarries
    have hin' : (quiet s).cutter.motors[m].isIn = true := (isIn_iff _).mpr hin
    have hcount := inMotors_setMotor m { s.cutter.motors[m] with membership := .out .share, deviation := none } (quiet s)
    rw [hin', if_pos rfl, if_neg (by simp [Motor.isIn])] at hcount
    have hstay : inMotors t.cutter = inMotors (motorRemoved m (quiet s)).cutter := by
      rw [hcarries.cutter, inMotors_stopIfMotorsLow]
    have hprofile : activeProfile t = activeProfile (motorRemoved m (quiet s)) := by
      rw [hcarries.profile]
      simp [activeProfile]
    have hconstants : constantsOf t = constantsOf (motorRemoved m (quiet s)) := by
      rw [hcarries.constantsOf]
      simp [constantsOf]
    have hlow : motorsLow t = motorsLow (motorRemoved m (quiet s)) :=
      motorsLow_congr hprofile hstay
    have hself : (motorRemoved m (quiet s)).cutter.motors[m] =
        { s.cutter.motors[m] with membership := .out .share, deviation := none } := by
      simp [motorRemoved, setMotor, updateTorque]
    refine ⟨t, ht, hmade, hconds, ?_, ?_, fun k hk => ?_, ?_, ?_, ?_⟩
    · rw [hcarries.cutter, (hmotors m).1, hself]
    · rw [hcarries.cutter]
      exact (hmotors m).2 (by rw [hself])
    · have hne : m.val ≠ k.val := fun e => hk (Fin.ext e.symm)
      rw [hcarries.cutter, (hmotors k).1]
      simp [motorRemoved, setMotor, updateTorque, hne]
    · rw [hstay]
      exact hcount
    · rw [hcarries.cutter, hceiling]
      exact (torqueCeilingOf_congr hprofile hconstants hstay).symm
    · rw [hcarries.cutter, hrun, hlow]
      rfl

/-! ## The revolution index (R150 to R152) -/

theorem takePulse_acts (s : State) : BlocksAct [] [.cutter] s (takePulse s) := acts_of_cutter _ s

theorem exec_revolutionIndexPulse (ms : Nat) (s : State) : exec (.revolutionIndexPulse ms) s =
    .next (event (fun s => if 1 ≤ ms ∧ s.cutter.run = .running then takePulse s else s) s) := rfl

theorem takePulse_opens {s : State} (h : s.cutter.indexRef = none ∨ s.cutter.indexLost = true) :
    (takePulse s).cutter =
      { s.cutter with
        indexLost := false, indexRef := some s.now, revAdvance := 0
        watch := if 0 < s.cutter.reference then some s.now else none } := by
  cases hi : s.cutter.indexRef with
  | none => simp [takePulse, hi, openRevolution]
  | some start =>
    have hl : s.cutter.indexLost = true := by simpa [hi] using h
    simp [takePulse, hi, hl, openRevolution]

theorem takePulse_closes {s : State} {start : Nat} (h : s.cutter.indexRef = some start) (hl : s.cutter.indexLost = false) :
    (takePulse s).cutter =
      { closeRevolution (activeProfile s).penetrationLimit start s.now s.cutter with
        watch := if 0 < s.cutter.reference then some s.now else none } := by
  simp [takePulse, h, hl]

/-- Settles O48. -/
theorem revolutionIndex : Obligations.RevolutionIndex := by
  refine ⟨fun s ms hp h => ?_, fun s ms hp hms hrun => ?_, fun s began hp hrun href hwatch hran => ?_⟩
  · have hignored : (if 1 ≤ ms ∧ (quiet s).cutter.run = .running then takePulse (quiet s) else quiet s) = quiet s := by
      refine if_neg ?_
      rintro ⟨h1, h2⟩
      obtain rfl | h := h
      · omega
      · exact h h2
    obtain ⟨t, ht, hmade, -, -⟩ := exec_event (told := []) (l := []) (exec_revolutionIndexPulse ms s) hp
      (by rw [hignored]; exact .refl _ _) (List.forall_mem_nil _)
    exact ⟨t, ht, hmade⟩
  · have htaken : (if 1 ≤ ms ∧ (quiet s).cutter.run = .running then takePulse (quiet s) else quiet s) =
        takePulse (quiet s) := if_pos ⟨hms, hrun⟩
    obtain ⟨t, ht, hmade, hconds, hcarries⟩ := exec_event (told := []) (exec_revolutionIndexPulse ms s) hp
      (by rw [htaken]; exact takePulse_acts _) (List.forall_mem_nil _)
    rw [htaken] at hcarries
    refine ⟨t, _, ht, hmade, hconds, rfl, fun h => ?_, fun start h hl => ⟨_, _, rfl, rfl, ?_⟩⟩
    · exact hcarries.cutter.trans (takePulse_opens (s := quiet s) h)
    · exact hcarries.cutter.trans (takePulse_closes (s := quiet s) h hl)
  · have hdue : watchDue s = true := by simp [watchDue, hrun, href, hwatch, ranFor, watchLimit, hran]
    obtain ⟨t, ht, hmade, hconds, hcarries⟩ := exec_expires (c := .indexWatchExpiry) (effect := loseIndex) (told := [])
      rfl hdue hp (acts_of_cutter _ _) (List.forall_mem_nil _)
    exact ⟨t, ht, hmade, hconds, hcarries.cutter⟩

/-! ## Ramp and jam timers (R142, R152 to R154) -/

theorem enterRest_acts (r : RunState) (s : State) : BlocksAct [] [.cutter, .chamber] s (enterRest r s) where
  alters := {}

theorem leaveIfRunning_kept (s : State) : (leaveIfRunning s).cutter.attempts = s.cutter.attempts ∧
    (leaveIfRunning s).cutter.direction = s.cutter.direction := by
  unfold leaveIfRunning
  split <;> exact ⟨rfl, rfl⟩

theorem leaveIfRunning_snapshot {s : State} (h : s.cutter.run = .running) :
    (leaveIfRunning s).chamber.snapshot = some s.chamber.integrator := by
  rw [leaveIfRunning, if_pos h]
  rfl

/-- Settles O49. -/
theorem rampAndJamTimers : Obligations.RampAndJamTimers := by
  refine ⟨fun s began target hp hramp hran htarget => ?_, fun s began hp hturn hjam hran => ?_⟩
  · have hdue : rampDue s = true := by simp [rampDue, hramp, ranFor, Config.rampInterval, hran]
    obtain ⟨t, ht, hmade, hconds, hcarries⟩ := exec_expires (c := .rampStep) (effect := rampStep) (told := [])
      rfl hdue hp (acts_of_cutter _ _) (List.forall_mem_nil _)
    refine ⟨t, _, ht, hmade, hconds, rfl, hcarries.cutter.trans ?_⟩
    subst htarget
    rw [← hramp]
    rfl
  · have hdue : jamDue s = true := by simp [jamDue, hturn, hjam, ranFor, hran]
    obtain ⟨t, ht, hmade, hconds, hcarries⟩ := exec_expires (c := .jamTimerExpiry) (effect := enterRest .jammed) (told := [])
      rfl hdue hp (enterRest_acts _ _) (List.forall_mem_nil _)
    have hcutter := hcarries.cutter
    rw [enterRest_cutter] at hcutter
    refine ⟨t, ht, hmade, hconds, by rw [hcutter]; rfl, by rw [hcutter]; rfl, by rw [hcutter]; rfl, by rw [hcutter]; rfl,
      ?_, ?_, fun hrun => ?_, fun hrun => ?_⟩
    · rw [hcutter]
      exact (leaveIfRunning_kept (quiet s)).1
    · rw [hcutter]
      exact (leaveIfRunning_kept (quiet s)).2
    · rw [hcarries.chamber_frame.1]
      exact leaveIfRunning_snapshot (s := quiet s) hrun
    · have hrest : enterRest .jammed (quiet s) = { quiet s with cutter := restCutter .jammed s.cutter } :=
        enterRest_of_not_running (by show s.cutter.run ≠ _; simp [hrun])
      rw [hrest] at hcarries
      refine hcarries.onlyChanges (fun b hb => ?_) fun _ => rfl
      cases b with
      | cutter => exact absurd (List.mem_singleton_self _) hb
      | chamber => exact .inl rfl
      | _ => rfl

end Sys2Proof.Machine

/-! The three timers of groups, stack and advance speed, and the names that are out of range. -/

namespace Sys2Proof.Machine

set_option Elab.async false

/-! ## Timers (R31, R60, R61) -/

theorem acts_of_stack (k : ReleaseStack) (s : State) : BlocksAct [] [.stack] s { s with stack := k } where
  alters := {}

theorem acts_of_account (a : Account) (s : State) : BlocksAct [] [.account] s { s with account := a } where
  alters := {}

theorem setGroup_acts (g : Fin 16) (r : GroupRec) (s : State) : BlocksAct [] [.groups] s (setGroup g r s) where
  alters := {}

/-- An overdue entry has its flag set; where it is set already nothing changes (R61). -/
theorem setOvertime_entry (p : Fin 7) (s : State) (e : StackEntry) :
    (if entryOverdue p s e then { e with overtime := true } else e) =
      if e.position = p ∧ e.openedAt + (activeProfile s).releaseTime < s.now then { e with overtime := true } else e := by
  cases ho : e.overtime
  · simp [entryOverdue, ho]
  · have hsame : ({ e with overtime := true } : StackEntry) = e := by rw [← ho]
    simp [hsame]

/-- Settles O31. -/
theorem groupAndSpeedTimers : Obligations.GroupAndSpeedTimers := by
  refine ⟨fun s g hp hstate hslow hran => ?_, fun s p e hp he hpos ho hran => ?_, fun s r hp hspeed hlast hran => ?_⟩
  · have hdue : retractDue g s = true := by
      simp only [Fin.getElem_fin] at hstate hslow hran
      simp [retractDue, hstate, hslow, hran]
    obtain ⟨t, ht, hmade, hconds, hcarries⟩ := exec_expires (c := .retractTimerExpiry g) (effect := markSlow g) rfl hdue hp
      (setGroup_acts g _ _) (List.forall_mem_nil _)
    exact ⟨t, ht, hmade, hconds, hcarries.groups⟩
  · have hdue : releaseDue p s = true :=
      List.any_eq_true.mpr ⟨e, he, by simp [entryOverdue, hpos, ho, hran]⟩
    obtain ⟨t, ht, hmade, hconds, hcarries⟩ := exec_expires (c := .releaseTimerExpiry p) (effect := setOvertime p) rfl hdue hp
      (acts_of_stack _ _) (List.forall_mem_nil _)
    refine ⟨t, ht, hmade, hconds, hcarries.stack.trans ?_⟩
    have hentries : (s.stack.entries.map fun e => if entryOverdue p s e then { e with overtime := true } else e) =
        s.stack.entries.map fun e =>
          if e.position = p ∧ e.openedAt + (activeProfile s).releaseTime < s.now then { e with overtime := true } else e :=
      List.map_congr_left fun e _ => setOvertime_entry p s e
    rw [← hentries]
    rfl
  · have hdue : speedDue s = true := by simp [speedDue, hspeed, newestClosure, hlast, Config.speedTimeout, hran]
    obtain ⟨t, ht, hmade, hconds, hcarries⟩ := exec_expires (c := .advanceSpeedExpiry) (effect := runOutSpeed) rfl hdue hp
      (acts_of_account _ _) (List.forall_mem_nil _)
    exact ⟨t, ht, hmade, hconds, hcarries.account⟩

/-! ## Names out of range -/

theorem withLine_of_range {n : Nat} (h : 6 ≤ n) (act : Fin 6 → Handled) : withLine n act = .answer .range [] :=
  dif_neg (by omega)

theorem withLine_val (i : Fin 6) (act : Fin 6 → Handled) : withLine i.val act = act i := dif_pos i.isLt

theorem withGroup_of_range {n : Nat} (h : 16 ≤ n) (act : Fin 16 → Handled) : withGroup n act = .answer .range [] :=
  dif_neg (by omega)

theorem withGroup_val (g : Fin 16) (act : Fin 16 → Handled) : withGroup g.val act = act g := dif_pos g.isLt

theorem exec_segmentOpen (p : Port) (s : State) :
    exec (.segmentOpen p) s = .next (request 17 [.erector] false readByte takeSegmentOpen p s) := rfl

theorem exec_segmentClose (p : Port) (s : State) :
    exec (.segmentClose p) s = .next (request 19 [.erector] false readSegmentClose takeSegmentClose p s) := rfl

theorem exec_doseTake (p : Port) (s : State) :
    exec (.doseTake p) s = .next (request 21 [.grout] false readByte takeDose p s) := rfl

theorem exec_doseClose (p : Port) (s : State) :
    exec (.doseClose p) s = .next (request 22 [.grout] false readDoseClose takeDoseClose p s) := rfl

theorem exec_lineState (p : Port) (s : State) :
    exec (.lineState p) s = .next (request 23 [.grout] false readLineState takeLineState p s) := rfl

theorem takeDoseClose_of_range {a : DoseCloseArgs} {s : State} (h : 6 ≤ a.line ∨ 100000 < a.actual ∨ 2000 < a.peak) :
    takeDoseClose a s = .answer .range [] := by
  by_cases hline : 6 ≤ a.line
  · exact withLine_of_range hline _
  · have hout : closeOutOfRange a = true := by simpa [closeOutOfRange, hline] using h
    rw [takeDoseClose, withLine, dif_pos (Nat.lt_of_not_le hline), if_pos hout]

/-- Settles O16: each request looks at the range of its name first. -/
theorem namesOutOfRange : Obligations.NamesOutOfRange := by
  refine ⟨fun s f m hcomm hm hasks => ?_, fun s f q hcomm hq => ⟨fun hasks => ?_, fun hasks => ?_, fun o hasks => ?_⟩,
    fun s f hcomm => ⟨fun l hl hasks => ?_, fun a ha hasks => ?_, fun a ha hasks => ?_⟩⟩
  · exact exec_answers (exec_motorReadmit .drive s) hasks rfl (.inl hcomm) (dif_neg (by omega))
  · exact exec_answers (exec_segmentOpen .erector s) hasks rfl (.inl hcomm) (if_neg (by omega))
  · exact exec_answers (exec_segmentPlaced .erector s) hasks rfl (.inl hcomm) (takeSegmentPlaced_of_range hq)
  · exact exec_answers (exec_segmentClose .erector s) hasks rfl (.inl hcomm) (if_pos (show 6 < q by omega))
  · exact exec_answers (exec_doseTake .grout s) hasks rfl (.inl hcomm) (withLine_of_range hl _)
  · exact exec_answers (exec_doseClose .grout s) hasks rfl (.inl hcomm) (takeDoseClose_of_range ha)
  · exact exec_answers (exec_lineState .grout s) hasks rfl (.inl hcomm) (withLine_of_range ha _)

end Sys2Proof.Machine

/-! The ring plan store's requests and completions (chapter 9). -/

namespace Sys2Proof.Machine

set_option Elab.async false

theorem acts_of_plan (k : PlanStore) (s : State) : BlocksAct [] [.plan] s { s with plan := k } where
  alters := {}

/-! ## Requests that change rows: what their owning block answers is what they answer -/

section PlanRequests
variable {α : Type} {n : Nat} {k : PlanCommand} {reader : Reader α} {first rows : Option α → Frame → State → Nat}
  {owner : α → State → Handled} {c : Instr} {s t : State} {f : Frame} {a : α} {code : Code} {fields : List Field}

theorem handle_reads {roles : List Port} {early : Bool} {p : Port} (hr : roles.contains p = true)
    (hread : readWhole reader f.body.tail = some a) (hc : commissioned s = true ∨ early = true) :
    handle roles early reader owner p f s = owner a s := by
  have hearly : (!commissioned s && !early) = false := by
    obtain h | h := hc <;> simp [h]
  simp only [handle, hr, hread, hearly, Bool.not_true, Bool.false_eq_true, if_false]

theorem serve_heads {m : Nat} {carry : Frame → State → Handled} {p : Port} (hp : s.powered = true)
    (h : headRequest p m s = some f) : serve m carry p s = answered s p f (taken p s) (carry f (taken p s)) := by
  simp only [serve, hp, if_true, h]

theorem planRequest_asks (h : Asks s .cabin n reader f a) : planRequest n k reader first rows owner .cabin s =
    answered s .cabin f (taken .cabin s)
      (recordEarly k (first (some a) f (taken .cabin s)) (rows (some a) f (taken .cabin s)) (taken .cabin s)
        (owner a (taken .cabin s))) := by
  rw [planRequest, serve_heads h.supplied h.heads]
  simp only
  rw [handle_reads rfl h.reads (.inr rfl), h.reads]

theorem exec_plan_answers (hx : exec c s = .next (planRequest n k reader first rows owner .cabin s))
    (h : Asks s .cabin n reader f a) (he : owner a (taken .cabin s) = .answer code fields)
    (hcode : code ≠ .role ∧ code ≠ .format) : exec c s = .next (answeredOnly .cabin f code fields s) := by
  have hearly : ∀ (first rows : Nat) (u : State), recordEarly k first rows u (.answer code fields) = .answer code fields := by
    intro first rows u
    unfold recordEarly
    split <;> simp_all
  rw [hx, planRequest_asks h, he, hearly, answered_answer]

theorem exec_plan_acts (hx : exec c s = .next (planRequest n k reader first rows owner .cabin s))
    (h : Asks s .cabin n reader f a) (he : owner a (taken .cabin s) = .act t code fields)
    (hb : BlocksAct [] [.plan] (taken .cabin s) t) :
    ∃ r, exec c s = .next r ∧ Served .cabin f code fields [] [.plan] s r ∧ CondsFollow s r ∧ Carries t r :=
  ⟨_, by rw [hx, planRequest_asks h, he]; rfl, answered_acts hb (List.forall_mem_nil _)⟩

end PlanRequests

theorem busyAnswer_of_busy {α : Type} {s : State} (h : s.plan.status ≠ .idle) {x y : α} :
    (if planBusy s.plan then x else y) = x := if_pos (by simpa [planBusy] using h)

theorem planBusy_of_idle {k : PlanStore} (h : k.status = .idle) : planBusy k = false := by
  simp [planBusy, h]

/-! ## PLAN ERASE (R186, R187) -/

theorem exec_planErase (s : State) : exec (.planErase .cabin) s =
    .next (planRequest 28 .erase readWord (firstNamed id) (fun _ _ _ => 0) takePlanErase .cabin s) := rfl

section Erase
variable {base : Nat} {s : State}

theorem takePlanErase_of_busy (h : s.plan.status ≠ .idle) :
    takePlanErase base s = .answer .busy [.u8 s.plan.status.code, .u64 (s.plan.opEnd.getD 0)] :=
  if_pos (by simpa [planBusy] using h)

theorem takePlanErase_of_zero (h : s.plan.status = .idle) : takePlanErase 0 s = refuseErase 0 .range [] s := by
  simp [takePlanErase, planBusy_of_idle h]

theorem takePlanErase_of_locked (h : s.plan.status = .idle) (h1 : 1 ≤ base) (h2 : base ≤ 65535)
    (hring : s.ring.state ≠ .idle) :
    takePlanErase base s = refuseErase base .locked [.u16 s.ring.number, .u8 s.ring.state.code] s := by
  have hbase : ¬(base = 0 ∨ Config.lastRing < base) := by
    simp only [Config.lastRing]
    omega
  simp [takePlanErase, planBusy_of_idle h, hbase, ringHolds, hring]

theorem takePlanErase_of_free (h : s.plan.status = .idle) (h1 : 1 ≤ base) (h2 : base ≤ 65535)
    (hring : s.ring.state = .idle) : takePlanErase base s =
      .act { s with plan := s.plan.erased base s.now } .done [.u16 base, .u64 (s.now + 2000)] := by
  have hbase : ¬(base = 0 ∨ Config.lastRing < base) := by
    simp only [Config.lastRing]
    omega
  simp [takePlanErase, planBusy_of_idle h, hbase, ringHolds, hring, Config.eraseTime]

end Erase

theorem rowOfRing_erased (k : PlanStore) (base now ring : Nat) : rowOfRing (k.erased base now) ring = none := by
  unfold rowOfRing
  split <;> rfl

/-- Settles O56. -/
theorem planErased : Obligations.PlanErased := by
  refine ⟨fun s f base hasks => ⟨fun hbusy => ?_, fun hidle hbase => ?_, fun hidle h1 h2 hring => ?_,
    fun hidle h1 h2 hring => ?_⟩, fun s due hp herase hend hdue => ?_⟩
  · exact exec_plan_answers (exec_planErase s) hasks (takePlanErase_of_busy (s := taken .cabin s) hbusy) (by decide)
  · subst hbase
    obtain ⟨t, ht, hserved, -, hcarries⟩ := exec_plan_acts (exec_planErase s) hasks
      (takePlanErase_of_zero (s := taken .cabin s) hidle) (acts_of_plan _ _)
    exact ⟨t, ht, hserved, hcarries.plan⟩
  · obtain ⟨t, ht, hserved, -, hcarries⟩ := exec_plan_acts (exec_planErase s) hasks
      (takePlanErase_of_locked (s := taken .cabin s) hidle h1 h2 hring) (acts_of_plan _ _)
    exact ⟨t, ht, hserved, hcarries.plan⟩
  · obtain ⟨t, ht, hserved, hconds, hcarries⟩ := exec_plan_acts (exec_planErase s) hasks
      (takePlanErase_of_free (s := taken .cabin s) hidle h1 h2 hring) (acts_of_plan _ _)
    exact ⟨t, ht, hserved, hconds, hcarries.plan, fun ring => by rw [hcarries.plan]; exact rowOfRing_erased _ _ _ _⟩
  · have hdue' : eraseDue s = true := by simp [eraseDue, herase, hend, hdue]
    obtain ⟨t, ht, hmade, hconds, hcarries⟩ := exec_expires (c := .eraseCompletion) (effect := completeErase) rfl hdue' hp
      (acts_of_plan _ _) (List.forall_mem_nil _)
    exact ⟨t, ht, hmade, hconds, hcarries.plan⟩

/-! ## The checks of a write (R188) -/

theorem rowOutside_eq (r : PlanRow) : rowOutside r = !rowInRange r := by
  rw [Bool.eq_iff_iff]
  cases hf : r.fill <;> cases hp : r.profile <;> simp [rowOutside, rowInRange, hf, hp]

/-- Steps 1 to 3 as the table has them (R188, R191). -/
theorem rowsRefusal_eq (first : Nat) (rows : List PlanRow) (k : PlanStore) :
    rowsRefusal first rows k = ((rowChecks first rows k).find? (·.1)).map (·.2) := by
  have hlast : spanLast k = min (k.base + 2047) 65535 := rfl
  have hout : (fun r => !rowInRange r) = rowOutside := funext fun r => (rowOutside_eq r).symm
  unfold rowsRefusal rowChecks
  rw [hout]
  by_cases hlen : rows.length = 0 ∨ 16 < rows.length
  · have hlen' : rows.length < 1 ∨ 16 < rows.length := by omega
    simp only [if_pos hlen, List.find?_cons, decide_eq_true hlen', Option.map_some]
  · have hlen' : ¬(rows.length < 1 ∨ 16 < rows.length) := by omega
    simp only [if_neg hlen, List.find?_cons, decide_eq_false hlen']
    cases hfind : rows.findIdx? rowOutside with
    | some i =>
      obtain ⟨hi, hidx⟩ := List.findIdx?_eq_some_iff_findIdx_eq.mp hfind
      have hany : rows.any rowOutside = true := by
        rw [List.any_eq_true]
        exact ⟨rows[i], List.getElem_mem hi, by subst hidx; exact List.findIdx_getElem⟩
      simp [hany, hidx]
    | none =>
      have hany : rows.any rowOutside = false := by
        rw [List.any_eq_false]
        simpa using List.findIdx?_eq_none_iff.mp hfind
      have hspan : (inSpan k first && inSpan k (first + rows.length - 1)) =
          !decide (first < k.base ∨ min (k.base + 2047) 65535 < first + (rows.length - 1)) := by
        rw [Bool.eq_iff_iff]
        simp only [inSpan, hlast, Bool.and_eq_true, decide_eq_true_eq, Bool.not_eq_true', decide_eq_false_iff_not]
        omega
      rw [hspan]
      cases decide (first < k.base ∨ min (k.base + 2047) 65535 < first + (rows.length - 1)) <;> simp [hany, hlast]

/-- The whole table of R188. -/
theorem writeRefusal_eq (first : Nat) (rows : List PlanRow) (s : State) :
    writeRefusal first rows s = ((writeChecks first rows s).find? (·.1)).map (·.2) := by
  unfold writeRefusal writeChecks
  simp only
  rw [rowsRefusal_eq, List.find?_append]
  cases hrows : (rowChecks first rows s.plan).find? (·.1) with
  | some x => rfl
  | none =>
    simp only [Option.map_none, Option.none_or, List.find?_cons]
    have hlocked : (ringHolds s.ring = true ∧ (ringsOf first rows.length).contains s.ring.number = true) ↔
        (s.ring.state ≠ .idle ∧ first ≤ s.ring.number ∧ s.ring.number < first + rows.length) := by
      have hmem : (ringsOf first rows.length).contains s.ring.number = true ↔
          first ≤ s.ring.number ∧ s.ring.number < first + rows.length := by
        simp only [ringsOf, List.contains_iff_mem, List.mem_map, List.mem_range]
        constructor
        · rintro ⟨i, hi, h⟩
          omega
        · rintro ⟨h1, h2⟩
          exact ⟨s.ring.number - first, by omega, by omega⟩
      rw [hmem]
      simp [ringHolds]
    by_cases hl : s.ring.state ≠ .idle ∧ first ≤ s.ring.number ∧ s.ring.number < first + rows.length
    · rw [if_pos (hlocked.mpr hl), decide_eq_true hl]
      rfl
    · rw [if_neg (mt hlocked.mp hl), decide_eq_false hl]
      have hfind : (ringsOf first rows.length).find? (fun r => (rowOfRing s.plan r).isSome) =
          ((List.range rows.length).filter fun j => (rowOfRing s.plan (first + j)).isSome).head?.map (first + ·) := by
        rw [ringsOf, List.find?_map, ← List.head?_filter]
        rfl
      rw [hfind]
      cases (List.range rows.length).filter fun j => (rowOfRing s.plan (first + j)).isSome <;> rfl

/-! ## PLAN WRITE and PLAN WRITE NEXT (R188 to R190) -/

theorem exec_planWrite (s : State) : exec (.planWrite .cabin) s =
    .next (planRequest 30 .write readFirstAndRows (firstNamed (·.1)) (rowsCarried (·.2.length)) takePlanWrite .cabin s) := rfl

theorem exec_planWriteNext (s : State) : exec (.planWriteNext .cabin) s =
    .next (planRequest 31 .writeNext readPlanRows (fun _ _ t => t.plan.cursor) (rowsCarried (·.length))
      takePlanWriteNext .cabin s) := rfl

section Writes
variable {c : PlanCommand} {first : Nat} {rows : List PlanRow} {s : State}

theorem writeRows_of_busy (h : s.plan.status ≠ .idle) :
    writeRows c first rows s = .answer .busy [.u8 s.plan.status.code, .u64 (s.plan.opEnd.getD 0)] :=
  if_pos (by simpa [planBusy] using h)

theorem writeRows_of_refused (h : s.plan.status = .idle) {x : Bool × Code × List Field}
    (hx : (writeChecks first rows s).find? (·.1) = some x) : writeRows c first rows s =
      .act (record { command := c, first, rows := rows.length, written := 0, result := .refused x.2.1 } s) x.2.1 x.2.2 := by
  simp [writeRows, planBusy_of_idle h, writeRefusal_eq, hx]

theorem writeRows_of_taken (h : s.plan.status = .idle) (hx : (writeChecks first rows s).find? (·.1) = none) :
    writeRows c first rows s = .act { s with plan := s.plan.writing c first s.now rows } .done
      [.u16 first, .u8 rows.length, .u64 (s.now + 4 * rows.length)] := by
  simp [writeRows, planBusy_of_idle h, writeRefusal_eq, hx, Config.rowTime]

end Writes

/-- A write's answer or effect, whichever of the two requests brings it. -/
theorem write_asked {s : State} {f : Frame} {first : Nat} {rows : List PlanRow} {c : PlanCommand} {i : Instr}
    (h : c = .write ∧ i = .planWrite .cabin ∧ Asks s .cabin 30 readFirstAndRows f (first, rows) ∨
      c = .writeNext ∧ i = .planWriteNext .cabin ∧ Asks s .cabin 31 readPlanRows f rows ∧ first = s.plan.cursor) :
    (∀ code fields, writeRows c first rows (taken .cabin s) = .answer code fields → code ≠ .role ∧ code ≠ .format →
      exec i s = .next (answeredOnly .cabin f code fields s)) ∧
    (∀ code fields t, writeRows c first rows (taken .cabin s) = .act t code fields →
      BlocksAct [] [.plan] (taken .cabin s) t → ∃ r, exec i s = .next r ∧
        Served .cabin f code fields [] [.plan] s r ∧ CondsFollow s r ∧ Carries t r) := by
  obtain ⟨rfl, rfl, hasks⟩ | ⟨rfl, rfl, hasks, rfl⟩ := h
  · exact ⟨fun code fields he hcode => exec_plan_answers (exec_planWrite s) hasks he hcode,
      fun code fields t he hb => exec_plan_acts (exec_planWrite s) hasks he hb⟩
  · exact ⟨fun code fields he hcode => exec_plan_answers (exec_planWriteNext s) hasks he hcode,
      fun code fields t he hb => exec_plan_acts (exec_planWriteNext s) hasks he hb⟩

theorem completeRow_of_job {s : State} {row : PlanRow} {rest : List PlanRow} {ring due : Nat}
    (h : s.plan.job = some { rows := row :: rest, nextRing := ring, nextDue := due }) :
    completeRow s =
      { s with
        plan :=
          if rest.isEmpty then (s.plan.rowStored { rows := row :: rest, nextRing := ring, nextDue := due } row rest).ended
          else s.plan.rowStored { rows := row :: rest, nextRing := ring, nextDue := due } row rest } := by
  simp [completeRow, h]

/-- Settles O57. -/
theorem rowsWritten : Obligations.RowsWritten := by
  refine ⟨fun s f first rows c i h => ⟨fun hbusy => ?_, fun x hidle hx => ?_, fun hidle hx => ?_⟩,
    fun s row rest ring due hp hwriting hjob hdue => ?_⟩
  · exact (write_asked h).1 _ _ (writeRows_of_busy (s := taken .cabin s) hbusy) (by decide)
  · obtain ⟨t, ht, hserved, -, hcarries⟩ :=
      (write_asked h).2 _ _ _ (writeRows_of_refused (s := taken .cabin s) hidle hx) (acts_of_plan _ _)
    exact ⟨t, ht, hserved, hcarries.plan⟩
  · obtain ⟨t, ht, hserved, hconds, hcarries⟩ :=
      (write_asked h).2 _ _ _ (writeRows_of_taken (s := taken .cabin s) hidle hx) (acts_of_plan _ _)
    exact ⟨t, ht, hserved, hconds, hcarries.plan⟩
  · have hdue' : rowDue s = true := by simp [rowDue, hwriting, hjob, hdue]
    have hstored := completeRow_of_job (s := quiet s) hjob
    obtain ⟨t, ht, hmade, hconds, hcarries⟩ := exec_expires (c := .rowCompletion) (effect := completeRow) (told := [])
      (l := [.plan]) rfl hdue' hp (by rw [hstored]; exact acts_of_plan _ _) (List.forall_mem_nil _)
    have hplan := hcarries.plan
    rw [hstored] at hplan
    have hrows : t.plan.rows = insertRow (ring - s.plan.base) row s.plan.rows := by
      rw [hplan]
      cases rest <;> rfl
    refine ⟨t, ht, hmade, hconds, ?_, fun k hk => ?_, ?_, ?_, ?_, fun hrest => ?_, fun hrest => ?_⟩
    · rw [hrows, lookupRow_insertRow_same]
    · rw [hrows, lookupRow_insertRow_other _ _ hk]
    · rw [hplan]
      cases rest <;> rfl
    · rw [hplan]
      cases rest <;> rfl
    · rw [hplan]
      cases rest <;> rfl
    · obtain ⟨r, rest', rfl⟩ := List.exists_cons_of_ne_nil hrest
      rw [hplan]
      exact ⟨hwriting, rfl, rfl, rfl, rfl⟩
    · subst hrest
      rw [hplan]
      refine ⟨rfl, rfl, rfl, rfl, ?_⟩
      show (s.plan.last.map _).map _ = _
      rw [Option.map_map]
      rfl

end Sys2Proof.Machine

/-! The queries, CONDITION ACK (chapters 8 to 10). -/

namespace Sys2Proof.Machine

set_option Elab.async false

/-! ## PLAN VERIFY (R191) -/

theorem difference_self (r : PlanRow) : difference (some r) r = none := by
  simp [difference]

/-- The kind of a difference, once there is one (R191). -/
theorem difference_of_ne (stored : Option PlanRow) (given : PlanRow) :
    stored ≠ some given → difference stored given = some
      (match stored with
        | none => 0
        | some r =>
          if r.ringType ≠ given.ringType then 1
          else if r.keySector ≠ given.keySector then 2
          else if r.start ≠ given.start then 3
          else if r.fill ≠ given.fill then 4 else 5) := by
  intro h
  cases stored with
  | none => rfl
  | some r =>
    by_cases hlast : r.ringType = given.ringType ∧ r.keySector = given.keySector ∧ r.start = given.start ∧ r.fill = given.fill
    · obtain ⟨h1, h2, h3, h4⟩ := hlast
      have h5 : r.profile ≠ given.profile := by
        intro h5
        exact h (by cases r; cases given; simp_all)
      simp [difference, h1, h2, h3, h4, h5]
    · simp only [difference]
      split_ifs <;> simp_all

theorem compareRows_same {k : PlanStore} {first : Nat} {rows : List PlanRow}
    (h : ∀ (i : Nat) (hi : i < rows.length), rowOfRing k (first + i) = some rows[i]) :
    compareRows k first rows = (none, rows.length) := by
  induction rows generalizing first with
  | nil => rfl
  | cons r rest ih =>
    have hr : rowOfRing k first = some r := h 0 (by simp)
    have hrest : compareRows k (first + 1) rest = (none, rest.length) := ih fun i hi => by
      have hi' := h (i + 1) (by simpa using hi)
      rw [show first + 1 + i = first + (i + 1) by omega]
      simpa using hi'
    simp [compareRows, hr, difference_self, hrest]

theorem compareRows_first {k : PlanStore} {first kind i : Nat} {rows : List PlanRow} (hi : i < rows.length)
    (hbefore : ∀ (j : Nat) (hj : j < i), rowOfRing k (first + j) = some (rows[j]'(by omega)))
    (hkind : difference (rowOfRing k (first + i)) rows[i] = some kind) :
    compareRows k first rows = (some (first + i, kind), i) := by
  induction rows generalizing first i with
  | nil => simp at hi
  | cons r rest ih =>
    cases i with
    | zero =>
      have hkind' : difference (rowOfRing k first) r = some kind := hkind
      simp [compareRows, hkind']
    | succ i =>
      have hr : rowOfRing k first = some r := hbefore 0 (by omega)
      have hrest : compareRows k (first + 1) rest = (some (first + 1 + i, kind), i) := by
        refine ih (by simpa using hi) (fun j hj => ?_) ?_
        · have hj' := hbefore (j + 1) (by omega)
          rw [show first + 1 + j = first + (j + 1) by omega]
          simpa using hj'
        · rw [show first + 1 + i = first + (i + 1) by omega]
          simpa using hkind
      simp [compareRows, hr, difference_self, hrest]
      omega

theorem exec_planVerify (p : Port) (s : State) :
    exec (.planVerify p) s = .next (request 32 [.cabin] true readFirstAndRows takePlanVerify p s) := rfl

theorem exec_planBlankCheck (p : Port) (s : State) :
    exec (.planBlankCheck p) s = .next (request 29 [.cabin] true readNothing takePlanBlankCheck p s) := rfl

theorem exec_planStatus (p : Port) (s : State) :
    exec (.planStatus p) s = .next (request 33 [.cabin] true readNothing takePlanStatus p s) := rfl

theorem exec_read (p : Port) (s : State) :
    exec (.read p) s = .next (request 39 allPorts true readSelector takeRead p s) := rfl

section Verify
variable {first : Nat} {rows : List PlanRow} {s : State}

theorem takePlanVerify_of_refused (h : s.plan.status = .idle) {x : Bool × Code × List Field}
    (hx : (rowChecks first rows s.plan).find? (·.1) = some x) :
    takePlanVerify (first, rows) s = .answer x.2.1 x.2.2 := by
  simp [takePlanVerify, planBusy_of_idle h, rowsRefusal_eq, hx]

theorem takePlanVerify_of_compared (h : s.plan.status = .idle)
    (hx : (rowChecks first rows s.plan).find? (·.1) = none) {d : Option (Nat × Nat)} {n : Nat}
    (hd : compareRows s.plan first rows = (d, n)) : takePlanVerify (first, rows) s =
      .answer .done (optU16 (d.map (·.1)) ++ optU8 (d.map (·.2)) ++ [.u64 n]) := by
  simp [takePlanVerify, planBusy_of_idle h, rowsRefusal_eq, hx, hd]

end Verify

/-! ## READ (R201) -/

theorem takeRead_of_some {x : Selector} {s : State} {fields : List Field} (h : recordFields s x = some fields) :
    takeRead x s = .answer .done (fields ++ [.u64 s.now]) := by
  simp [takeRead, h]

theorem takeRead_of_none {x : Selector} {s : State} (h : recordFields s x = none) :
    takeRead x s = .answer .range [] := by
  simp [takeRead, h]

theorem mem_allPorts (p : Port) : allPorts.contains p = true := by
  cases p <;> rfl

/-- Only the link records tell that a frame has been taken. -/
theorem recordFields_taken {x : Selector} (h : x ≠ .links) (p : Port) (s : State) :
    recordFields (taken p s) x = recordFields s x := by
  cases x
  case links => exact absurd rfl h
  all_goals rfl

/-- Settles O58. -/
theorem queriesChangeNothing : Obligations.QueriesChangeNothing := by
  refine ⟨fun s f p x hasks => ⟨fun fields h => ?_, fun h => ?_, fun h => recordFields_taken h p s⟩,
    fun s f hasks => ?_, fun s f hasks hidle => ?_, fun s f first rows hasks hidle => ?_, fun s f i hbusy h => ?_⟩
  · exact exec_answers (exec_read p s) hasks (mem_allPorts p) (.inr rfl) (takeRead_of_some h)
  · exact exec_answers (exec_read p s) hasks (mem_allPorts p) (.inr rfl) (takeRead_of_none h)
  · exact exec_answers (exec_planStatus .cabin s) hasks rfl (.inr rfl) rfl
  · have hidle' : planBusy (taken .cabin s).plan = false := planBusy_of_idle hidle
    refine exec_answers (exec_planBlankCheck .cabin s) hasks rfl (.inr rfl) ?_
    exact if_neg (by rw [hidle']; simp)
  · have answers {code : Code} {fields : List Field}
        (h : takePlanVerify (first, rows) (taken .cabin s) = .answer code fields) :
        exec (.planVerify .cabin) s = .next (answeredOnly .cabin f code fields s) :=
      exec_answers (exec_planVerify .cabin s) hasks rfl (.inr rfl) h
    refine ⟨fun x hx => answers (takePlanVerify_of_refused (s := taken .cabin s) hidle hx), fun hx hsame => ?_,
      fun k kind hk hx hbefore hne hkind => ?_⟩
    · exact answers (takePlanVerify_of_compared (s := taken .cabin s) hidle hx (compareRows_same hsame))
    · have hdiff : difference (rowOfRing s.plan (first + k)) rows[k] = some kind := by
        rw [hkind]
        exact difference_of_ne _ _ hne
      exact answers (takePlanVerify_of_compared (s := taken .cabin s) hidle hx (compareRows_first hk hbefore hdiff))
  · have hbusy' : planBusy (taken .cabin s).plan = true := by simpa [planBusy] using hbusy
    obtain ⟨rfl, hasks⟩ | ⟨rfl, a, hasks⟩ := h
    · exact exec_answers (exec_planBlankCheck .cabin s) hasks rfl (.inr rfl) (if_pos hbusy')
    · exact exec_answers (exec_planVerify .cabin s) hasks rfl (.inr rfl) (if_pos hbusy')

/-! ## CONDITION ACK (R157, R179) -/

theorem exec_conditionAck (p : Port) (s : State) :
    exec (.conditionAck p) s = .next (request 34 [.cabin] true readAck takeAck p s) := rfl

/-- The condition table after a request is the one that its owning block left, brought up to date (R177). -/
theorem answered_conds (p : Port) (f : Frame) (s t : State) (code : Code) (fields : List Field) :
    (answered s p f (taken p s) (.act t code fields)).conds =
      t.conds.map (evalEntry (answered s p f (taken p s) (.act t code fields))) :=
  (closes_answered p f s t code fields).conds

section Ack
variable {name : CondName} {subject : Option Nat} {s : State}

theorem takeAck_of_unfit (h : subjectFits name subject = false) : takeAck (name, subject) s = .answer .range [] := by
  simp [takeAck, h]

theorem takeAck_of_fit (h : subjectFits name subject = true) : takeAck (name, subject) s =
    .act (clearLatches name subject (clearTrip name s)) .done
      (listFields (fun e => [yesNo e.active, yesNo e.latched])
        ((clearLatches name subject (clearTrip name s)).conds.filter (isNamed name subject))) := by
  simp [takeAck, h]

/-- A request whose owning block acts on the condition table too. -/
theorem ack_served {f : Frame} (hasks : Asks s .cabin 34 readAck f (name, subject)) (hfit : subjectFits name subject = true)
    {l : List Block} (ha : Alters l (taken .cabin s) (clearTrip name (taken .cabin s)))
    (hrest : ∀ u : State, u = clearTrip name (taken .cabin s) → u.powered = s.powered ∧
      u.links = (dropHead .cabin s).links ∧ u.held = s.held ∧ u.sent = [] ∧ u.permits = s.permits) :
    ∃ t fields, exec (.conditionAck .cabin) s = .next t ∧ Served .cabin f .done fields [] l s t ∧
      fields = (listFields (fun e => [yesNo e.active, yesNo e.latched])
        ((clearLatches name subject (clearTrip name (taken .cabin s))).conds.filter (isNamed name subject))) ∧
      t.conds = (clearLatches name subject (clearTrip name (taken .cabin s))).conds.map (evalEntry t) ∧
      Carries (clearLatches name subject (clearTrip name (taken .cabin s))) t := by
  obtain ⟨hpowered, hlinks, hheld, hsent, hpermits⟩ := hrest _ rfl
  have hreq : exec (.conditionAck .cabin) s = .next (answered s .cabin f (taken .cabin s)
      (takeAck (name, subject) (taken .cabin s))) := by
    rw [exec_conditionAck, request_asks hasks rfl (.inr rfl)]
  rw [takeAck_of_fit hfit] at hreq
  have halters : Alters l (taken .cabin s) (clearLatches name subject (clearTrip name (taken .cabin s))) :=
    ⟨ha.1, ha.2, ha.3, ha.4, ha.5, ha.6, ha.7, ha.8, ha.9, ha.10, ha.11, ha.12, ha.13, ha.14⟩
  exact ⟨_, _, hreq, served_of_act ⟨hpowered, ha.now, ha.pending, ha.choices⟩ hlinks hheld hsent
    (List.forall_mem_nil _) hpermits (taken_alters .cabin halters) halters.chamber, rfl, answered_conds _ _ _ _ _ _,
    carries_answered _ _ _ _ _ _⟩

end Ack

/-- With nothing else changed, the levels of an acknowledgement are those before it. -/
theorem level_clearLatches (name : CondName) (subject : Option Nat) (s : State) (k : CondName) (i : Option Nat) :
    level (clearLatches name subject s) k i = level s k i :=
  SameInputs.level ⟨s.permits, _, s.chamber.setpoint, s.sent, s.held, rfl⟩ k i

theorem acknowledged_eq (now : Nat) (name : CondName) (subject : Option Nat) (e : CondEntry) :
    (if isNamed name subject e then e.acknowledged now else e) =
      if e.name = name ∧ (subject = none ∨ e.subject = subject) ∧ e.latched = true ∧ e.active = false then
        { e with latched := false, changedAt := now } else e := by
  by_cases hn : e.name = name ∧ (subject = none ∨ e.subject = subject)
  · have hnamed : isNamed name subject e = true := by simpa [isNamed] using hn
    simp only [hnamed, if_true, CondEntry.acknowledged, hn, true_and]
  · have hnamed : ¬isNamed name subject e = true := by simpa [isNamed] using hn
    rw [if_neg hnamed, if_neg fun h => hn ⟨h.1, h.2.1⟩]

@[simp] theorem level_cutterTrip (s : State) (i : Option Nat) : level s .cutterTrip i = decide (s.cutter.run = .tripped) := rfl

/-- Evaluated at levels that it has already, an entry keeps both flags. -/
theorem evalEntry_flags {t : State} {e : CondEntry} (h : e.active = level t e.name e.subject) :
    (evalEntry t e).active = e.active ∧ (evalEntry t e).latched = e.latched := by
  rw [evalEntry_active, evalEntry_latched, ← h]
  simp

/-- The flags of the entries that an acknowledgement names, as its response lists them (R179). -/
def namedFlags (name : CondName) (subject : Option Nat) (l : List CondEntry) : List Field :=
  listFields (fun e => [yesNo e.active, yesNo e.latched]) (l.filter (isNamed name subject))

theorem namedFlags_map {name : CondName} {subject : Option Nat} {l : List CondEntry} {g : CondEntry → CondEntry}
    (h : ∀ e ∈ l, ((g e).name = e.name ∧ (g e).subject = e.subject) ∧ (g e).active = e.active ∧ (g e).latched = e.latched) :
    namedFlags name subject (l.map g) = namedFlags name subject l := by
  have hfilter : l.filter (isNamed name subject ∘ g) = l.filter (isNamed name subject) :=
    List.filter_congr fun e he => by
      obtain ⟨⟨hn, hs⟩, -⟩ := h e he
      simp [isNamed, hn, hs]
  have hflat : (l.filter (isNamed name subject)).flatMap (fun e => [yesNo (g e).active, yesNo (g e).latched]) =
      (l.filter (isNamed name subject)).flatMap fun e => [yesNo e.active, yesNo e.latched] :=
    List.flatMap_congr fun e he => by
      obtain ⟨-, ha, hl⟩ := h e (List.mem_of_mem_filter he)
      rw [ha, hl]
  rw [namedFlags, namedFlags, List.filter_map, hfilter, listFields, listFields, List.flatMap_map, hflat, List.length_map]

/-- An entry acknowledged in a table at its levels is at its level. -/
theorem acknowledged_active {s : State} {name : CondName} {subject : Option Nat} (h : DerivedFollow s) {e : CondEntry}
    (he : e ∈ (clearLatches name subject s).conds) : e.active = level s e.name e.subject := by
  obtain ⟨e, hmem, rfl⟩ := List.mem_map.mp he
  have hlevel := (h.levels e hmem).1
  split
  · unfold CondEntry.acknowledged
    split
    · exact hlevel
    · exact hlevel
  · exact hlevel

theorem clearTrip_of_not {name : CondName} {s : State} (h : name ≠ .cutterTrip ∨ s.cutter.run ≠ .tripped) :
    clearTrip name s = s := if_neg (by tauto)

theorem clearTrip_of_tripped {s : State} (h : s.cutter.run = .tripped) :
    clearTrip .cutterTrip s = evalConditions { s with cutter := restCutter .stopped s.cutter } := by
  rw [clearTrip, if_pos ⟨rfl, h⟩, enterRest_of_not_running (by simp [h])]

/-- Acknowledged with the trip cleared, CUTTER_TRIP is neither active nor latched (R157). -/
theorem cutterTrip_cleared {s t : State} (hrun : s.cutter.run = .tripped) (hstop : t.cutter.run = .stopped)
    (hconds : t.conds = (clearLatches .cutterTrip none (clearTrip .cutterTrip s)).conds.map (evalEntry t))
    {e : CondEntry} (he : e ∈ t.conds) (hname : e.name = .cutterTrip) : e.active = false ∧ e.latched = false := by
  rw [hconds, clearTrip_of_tripped hrun] at he
  obtain ⟨a, ha, rfl⟩ := List.mem_map.mp he
  obtain ⟨b, hb, rfl⟩ := List.mem_map.mp ha
  obtain ⟨c, -, rfl⟩ := List.mem_map.mp hb
  have hc : c.name = .cutterTrip := by
    split at hname
    · rwa [evalEntry_name, (acknowledged_key _ _).1] at hname
    · exact hname
  have hinactive : level t .cutterTrip c.subject = false := by simp [hstop]
  have hnamed : ∀ u : State, isNamed .cutterTrip none (evalEntry u c) = true := fun u => by simp [isNamed, hc]
  have hbefore : ∀ u : State, u.cutter.run = .stopped → (evalEntry u c).active = false := fun u hu => by simp [hc, hu]
  rw [if_pos (hnamed _)]
  have hack : ∀ x : CondEntry, x.active = false → (x.acknowledged s.now).latched = false := by
    intro x hx
    unfold CondEntry.acknowledged
    cases hl : x.latched <;> simp [hx, hl]
  rw [evalEntry_active, evalEntry_latched, (acknowledged_key _ _).1, (acknowledged_key _ _).2]
  simp only [evalEntry_name, evalEntry_subject, hc, hinactive, Bool.false_and, Bool.or_false, true_and]
  exact hack _ (hbefore _ rfl)

/-- Settles O59. -/
theorem conditionsAcknowledged : Obligations.ConditionsAcknowledged := by
  intro s f name subject hasks
  refine ⟨fun h => ?_, fun hfit h => ?_, fun hname hsubject hrun => ?_⟩
  · exact exec_answers (exec_conditionAck .cabin s) hasks rfl (.inr rfl) (takeAck_of_unfit h)
  · have hclear : clearTrip name (taken .cabin s) = taken .cabin s := clearTrip_of_not h
    obtain ⟨t, fields, ht, hserved, hfields, hconds, hcarries⟩ := ack_served (l := []) hasks hfit
      (by rw [hclear]; exact .refl _ _ _) (by rw [hclear]; rintro u rfl; exact ⟨rfl, rfl, rfl, rfl, rfl⟩)
    rw [hclear] at hfields hconds hcarries
    refine ⟨t, fields, ht, hserved, ?_, fun hfollow => ?_⟩
    · rw [hconds]
      exact congrArg (List.map (evalEntry t)) (List.map_congr_left fun e _ => acknowledged_eq s.now name subject e)
    · have hlevel : ∀ k i, level t k i = level s k i := fun k i => by
        rw [hcarries.level, level_clearLatches, (sameRecords_taken .cabin s).level]
      have hnamed : (fun e : CondEntry => decide (e.name = name ∧ (subject = none ∨ e.subject = subject))) =
          isNamed name subject := by
        funext e
        simp [isNamed]
      rw [hnamed, hfields, hconds]
      refine (namedFlags_map (g := evalEntry t) fun e he => ⟨⟨rfl, rfl⟩, evalEntry_flags ?_⟩).symm
      rw [hlevel]
      exact acknowledged_active hfollow he
  · subst hname hsubject
    have hclear : clearTrip .cutterTrip (taken .cabin s) = _ := clearTrip_of_tripped (s := taken .cabin s) hrun
    obtain ⟨t, fields, ht, hserved, -, hconds, hcarries⟩ := ack_served (l := [.cutter]) hasks rfl
      (by rw [hclear]; exact {}) (by rw [hclear]; rintro u rfl; exact ⟨rfl, rfl, rfl, rfl, rfl⟩)
    have hcutter : t.cutter = restCutter .stopped s.cutter := by
      rw [hcarries.cutter, hclear]
      rfl
    refine ⟨t, ht, hserved.stands, hserved.frame, hcutter, fun e he hname => ?_⟩
    exact cutterTrip_cleared (s := taken .cabin s) hrun (by rw [hcutter]; rfl) hconds he hname

end Sys2Proof.Machine

/-! Grout: a dose is taken and closed, a line changes its state (R97, R101 to R106, R109, R110). -/

namespace Sys2Proof.Machine

set_option Elab.async false

/-! ## What is spread beside a line (R97) -/

/-- The shares of the lines beside `i` that are IN_SERVICE (R97). -/
def sharesBeside (p : Profile) (i : Fin 6) (g : Grout) : Vector Nat 6 :=
  Vector.ofFn fun k => if g.lines[k].service = .inService ∧ k ≠ i then p.shares[k] else 0

theorem recipientShares_beside (p : Profile) (i : Fin 6) (g : Grout) :
    recipientShares p g (fun k => k ≠ i) = sharesBeside p i g := by
  simp [recipientShares, sharesBeside]

theorem sharesBeside_self (p : Profile) (i : Fin 6) (g : Grout) : (sharesBeside p i g)[i] = 0 := by
  simp [sharesBeside]

theorem lines_setLine_self (g : Grout) (i : Fin 6) (l : Line) : (g.setLine i l).lines[i] = l := by
  simp [Grout.setLine]

theorem lines_setLine_of_ne (g : Grout) {i k : Fin 6} (l : Line) (h : k ≠ i) : (g.setLine i l).lines[k] = g.lines[k] := by
  have hne : i.val ≠ k.val := fun e => h (Fin.ext e).symm
  simp [Grout.setLine, hne]

theorem sharesBeside_setLine (p : Profile) (i : Fin 6) (g : Grout) (l : Line) :
    sharesBeside p i (g.setLine i l) = sharesBeside p i g := by
  refine congrArg Vector.ofFn (funext fun k => ?_)
  by_cases hk : k = i
  · simp [hk]
  · rw [lines_setLine_of_ne g l hk]

/-- What the lines get of an amount that is spread. -/
def linesPart (shares : Vector Nat 6) (a : Int) : Vector Int 6 :=
  if sumNat shares = 0 then Vector.replicate 6 0 else signedPortions shares a

/-- What the pool gets of an amount that is spread. -/
def poolPart (shares : Vector Nat 6) (a : Int) : Int := if sumNat shares = 0 then a else 0

theorem linesPart_of_no_share {shares : Vector Nat 6} {i : Fin 6} (h : shares[i] = 0) (a : Int) :
    (linesPart shares a)[i] = 0 := by
  unfold linesPart
  split
  · simp
  · exact signedPortions_of_no_share h a

theorem linesPart_zero (shares : Vector Nat 6) : linesPart shares 0 = Vector.replicate 6 0 := by
  unfold linesPart
  split
  · rfl
  · refine Vector.ext fun k hk => ?_
    have hpart : (signedPortions shares 0)[(⟨k, hk⟩ : Fin 6)] = 0 := by
      rw [signedPortions_get]
      simp [portions, basePart, leftOver]
    simpa using hpart

theorem poolPart_zero (shares : Vector Nat 6) : poolPart shares 0 = 0 := by
  unfold poolPart
  split <;> rfl

/-! ## Movements of grout from a line -/

/-- A movement leaves `l` of line `i`, brings the amount `a` to the other lines or the pool and cancels the
descriptors numbered. -/
structure Moves (p : Profile) (i : Fin 6) (g : Grout) (l : Line) (a : Int) (cancelled : List Nat) (m : Moved) : Prop where
  portions  : m.portions = linesPart (sharesBeside p i g) a
  pool      : m.pool = poolPart (sharesBeside p i g) a
  cancelled : m.cancelled = cancelled
  line      : m.grout.lines[i] = l
  others    : ∀ k : Fin 6, k ≠ i → m.grout.lines[k] = { g.lines[k] with carry := g.lines[k].carry + m.portions[k] }
  poolNow   : m.grout.pool = g.pool + m.pool
  judged    : m.grout.judged = g.judged

section Movements
variable {p : Profile} {i : Fin 6} {g : Grout} {l l' : Line} {a a' : Int} {c c' : List Nat} {m : Moved}

theorem Moves.of_eq (h : Moves p i g l a c m) (hl : l = l') (ha : a = a') (hc : c = c') : Moves p i g l' a' c' m := by
  subst hl ha hc
  exact h

/-- The record that line `i` had before does not matter to a movement from it. -/
theorem Moves.of_setLine (h : Moves p i (g.setLine i l') l a c m) : Moves p i g l a c m where
  portions := by rw [h.portions, sharesBeside_setLine]
  pool := by rw [h.pool, sharesBeside_setLine]
  cancelled := h.cancelled
  line := h.line
  others k hk := by rw [h.others k hk, lines_setLine_of_ne g l' hk]
  poolNow := h.poolNow
  judged := h.judged

theorem moves_still (p : Profile) (i : Fin 6) (g : Grout) (l : Line) : Moves p i g l 0 [] (.still (g.setLine i l)) where
  portions := (linesPart_zero _).symm
  pool := (poolPart_zero _).symm
  cancelled := rfl
  line := lines_setLine_self g i l
  others k hk := by
    have hnone : (Vector.replicate 6 (0 : Int))[k] = 0 := by simp
    show (g.setLine i l).lines[k] = _
    rw [lines_setLine_of_ne g l hk]
    simp only [Moved.still, hnone, Int.add_zero]
  poolNow := (Int.add_zero _).symm
  judged := rfl

theorem moves_spreadOver (p : Profile) (i : Fin 6) (a : Int) (g : Grout) :
    Moves p i g g.lines[i] a [] (.spread (spreadOver p i a g)) := by
  unfold spreadOver
  rw [recipientShares_beside]
  by_cases hsum : sumNat (sharesBeside p i g) = 0
  · simp only [if_pos hsum]
    exact {
      portions := (if_pos hsum).symm
      pool := (if_pos hsum).symm
      cancelled := rfl
      line := rfl
      others := fun k _ => by
        have hnone : (Vector.replicate 6 (0 : Int))[k] = 0 := by simp
        simp only [Moved.spread, hnone, Int.add_zero]
      poolNow := rfl
      judged := rfl }
  · simp only [if_neg hsum]
    have hself : (signedPortions (sharesBeside p i g) a)[i] = 0 := signedPortions_of_no_share (sharesBeside_self p i g) a
    exact {
      portions := (if_neg hsum).symm
      pool := (if_neg hsum).symm
      cancelled := rfl
      line := by
        simp only [Fin.getElem_fin] at hself
        simp [Moved.spread, hself]
      others := fun k _ => by simp [Moved.spread]
      poolNow := (Int.add_zero _).symm
      judged := rfl }

theorem moves_moveCarry (p : Profile) (i : Fin 6) (g : Grout) :
    Moves p i g { g.lines[i] with carry := 0 } g.lines[i].carry [] (.spread (moveCarry p i g)) :=
  ((moves_spreadOver p i _ (g.setLine i { g.lines[i] with carry := 0 })).of_eq (lines_setLine_self g i _) rfl rfl).of_setLine

theorem moves_withdrawLine (p : Profile) (i : Fin 6) (x : Service) (g : Grout) :
    Moves p i g { g.lines[i].withdrawn x with carry := 0 } (g.lines[i].withdrawn x).carry g.lines[i].postedNumbers
      (withdrawLine p i x g) := by
  have h := ((moves_moveCarry p i (g.setLine i (g.lines[i].withdrawn x))).of_eq
    (by rw [lines_setLine_self]) (by rw [lines_setLine_self]) rfl).of_setLine
  exact { h with cancelled := rfl }

theorem moves_ontoCarry_of_service (h : g.lines[i].service = .inService) :
    Moves p i g { g.lines[i] with carry := g.lines[i].carry + a } 0 [] (ontoCarry p i a g) := by
  have hsame : ontoCarry p i a g = .still (g.setLine i { g.lines[i] with carry := g.lines[i].carry + a }) := if_pos h
  rw [hsame]
  exact moves_still p i g _

theorem moves_ontoCarry_of_no_service (h : g.lines[i].service ≠ .inService) :
    Moves p i g { g.lines[i] with carry := 0 } (g.lines[i].carry + a) [] (ontoCarry p i a g) := by
  have hsame : ontoCarry p i a g =
      .spread (moveCarry p i (g.setLine i { g.lines[i] with carry := g.lines[i].carry + a })) := if_neg h
  rw [hsame]
  exact ((moves_moveCarry p i _).of_eq (by rw [lines_setLine_self]) (by rw [lines_setLine_self]) rfl).of_setLine

theorem moves_faultLine_of_service (h : g.lines[i].service = .inService) :
    Moves p i g
      { g.lines[i] with service := .blocked, carry := 0, descriptors := g.lines[i].descriptors.filter fun d => !d.isPosted }
      (g.lines[i].carry + a
        + (((g.lines[i].descriptors.filter Descriptor.isPosted).map fun d => d.dose.target).sum : Nat))
      g.lines[i].postedNumbers (faultLine p i a g) := by
  have hsame : faultLine p i a g =
      withdrawLine p i .blocked (g.setLine i { g.lines[i] with carry := g.lines[i].carry + a }) := if_pos h
  rw [hsame]
  exact ((moves_withdrawLine p i .blocked _).of_eq (by rw [lines_setLine_self]; rfl) (by rw [lines_setLine_self]; rfl)
    (by rw [lines_setLine_self]; rfl)).of_setLine

theorem moves_faultLine_of_no_service (h : g.lines[i].service ≠ .inService) :
    Moves p i g { g.lines[i] with service := .blocked, carry := 0 } (g.lines[i].carry + a) [] (faultLine p i a g) := by
  have hsame : faultLine p i a g = .spread (moveCarry p i
      (g.setLine i { g.lines[i] with carry := g.lines[i].carry + a, service := .blocked })) := if_neg h
  rw [hsame]
  exact ((moves_moveCarry p i _).of_eq (by rw [lines_setLine_self]) (by rw [lines_setLine_self]) rfl).of_setLine

/-- The difference of a close dealt with (R102 to R104, R109, R110). -/
theorem moves_settle (p : Profile) (i : Fin 6) (a : Int) (o : DoseOutcome) (g : Grout) {direct leaves : Bool}
    (hd : direct = decide (o = .pressureLimit ∧ 0 < a))
    (hl : leaves = decide (o = .fault ∧ g.lines[i].service = .inService)) :
    Moves p i g
      { g.lines[i] with
        service := if o = .fault then .blocked else g.lines[i].service
        carry :=
          if direct then g.lines[i].carry
          else if g.lines[i].service = .inService ∧ o ≠ .fault then g.lines[i].carry + a else 0
        descriptors := g.lines[i].descriptors.filter fun x => !(leaves && x.isPosted) }
      (if direct then a
        else if g.lines[i].service = .inService ∧ o ≠ .fault then 0
        else g.lines[i].carry + a + if leaves then
          (((g.lines[i].descriptors.filter Descriptor.isPosted).map fun d => d.dose.target).sum : Nat) else 0)
      (if leaves then g.lines[i].postedNumbers else []) (settle p i a o g) := by
  by_cases honto : o ≠ .fault ∧ direct = false
  · obtain ⟨ho, hdirect⟩ := honto
    have hleaves : leaves = false := by simp [hl, ho]
    have hsettle : settle p i a o g = ontoCarry p i a g := by
      cases o with
      | full => rfl
      | pressureLimit => exact if_neg (by simpa [hdirect] using hd)
      | fault => exact absurd rfl ho
    subst hdirect hleaves
    rw [hsettle]
    by_cases hs : g.lines[i].service = .inService
    · exact (moves_ontoCarry_of_service hs).of_eq (by rw [if_neg ho, if_neg Bool.false_ne_true, if_pos ⟨hs, ho⟩]; simp)
        (by rw [if_neg Bool.false_ne_true, if_pos ⟨hs, ho⟩]) rfl
    · exact (moves_ontoCarry_of_no_service hs).of_eq (by rw [if_neg ho, if_neg Bool.false_ne_true, if_neg fun h => hs h.1]; simp)
        (by rw [if_neg Bool.false_ne_true, if_neg fun h => hs h.1]; simp) rfl
  · cases o with
    | full => exact absurd ⟨by nofun, by simp [hd]⟩ honto
    | pressureLimit =>
      have hdirect : direct = true := by simpa using honto
      have hleaves : leaves = false := by simp [hl]
      have ha : 0 < a := by simpa [hdirect] using hd
      have hsettle : settle p i a .pressureLimit g = .spread (spreadOver p i a g) := if_pos ha
      subst hdirect hleaves
      rw [hsettle]
      exact (moves_spreadOver p i a g).of_eq (by simp) rfl rfl
    | fault =>
      have hdirect : direct = false := by simp [hd]
      by_cases hs : g.lines[i].service = .inService
      · have hleaves : leaves = true := by rw [hl]; exact decide_eq_true ⟨rfl, hs⟩
        subst hdirect hleaves
        exact (moves_faultLine_of_service hs).of_eq (by simp) (by simp) rfl
      · have hleaves : leaves = false := by rw [hl]; exact decide_eq_false fun h => hs h.2
        subst hdirect hleaves
        exact (moves_faultLine_of_no_service hs).of_eq (by simp) (by simp) rfl

/-- The movement of a LINE STATE (R106, R109). -/
theorem moves_changeService (p : Profile) (i : Fin 6) (x : Service) (g : Grout) {leaves : Bool}
    (hl : leaves = decide (g.lines[i].service = .inService ∧ x ≠ .inService)) :
    Moves p i g
      { g.lines[i] with
        service := x
        carry := if leaves then 0 else g.lines[i].carry
        descriptors := g.lines[i].descriptors.filter fun x => !(leaves && x.isPosted) }
      (if leaves then g.lines[i].carry
        + (((g.lines[i].descriptors.filter Descriptor.isPosted).map fun d => d.dose.target).sum : Nat) else 0)
      (if leaves then g.lines[i].postedNumbers else []) (changeService p i x g) := by
  by_cases h : g.lines[i].service = .inService ∧ x ≠ .inService
  · have hleaves : leaves = true := hl.trans (decide_eq_true h)
    have hsame : changeService p i x g = withdrawLine p i x g := if_pos h
    subst hleaves
    rw [hsame]
    exact (moves_withdrawLine p i x g).of_eq (by simp [Line.withdrawn]) (by simp [Line.withdrawn]) rfl
  · have hleaves : leaves = false := hl.trans (decide_eq_false h)
    have hsame : changeService p i x g = .still (g.setLine i { g.lines[i] with service := x }) := if_neg h
    subst hleaves
    rw [hsame]
    exact (moves_still p i g _).of_eq (by simp) rfl rfl

end Movements

/-! ## The descriptors of a line -/

theorem changeFirst_append {which : Descriptor → Bool} {x : DoseState} {before rest : List Descriptor} {d : Descriptor}
    (hb : ∀ e ∈ before, which e = false) (hd : which d = true) :
    changeFirst which x (before ++ d :: rest) = before ++ { d with state := x } :: rest := by
  induction before with
  | nil => simp [changeFirst, hd]
  | cons e before ih =>
    have he := hb e (by simp)
    simp [changeFirst, he, ih fun e he => hb e (by simp [he])]

theorem find_first {which : Descriptor → Bool} {before rest : List Descriptor} {d : Descriptor}
    (hb : ∀ e ∈ before, which e = false) (hd : which d = true) : (before ++ d :: rest).find? which = some d := by
  rw [List.find?_append, List.find?_eq_none.mpr fun e he => by simp [hb e he]]
  simp [hd]

theorem isTaken_false {e : Descriptor} (h : e.state ≠ .taken) : e.isTaken = false := decide_eq_false h

theorem isPosted_false {e : Descriptor} (h : e.state ≠ .posted) : e.isPosted = false := decide_eq_false h

theorem taken_of_split {l : Line} {before rest : List Descriptor} {d : Dose}
    (h : l.descriptors = before ++ { dose := d, state := .taken } :: rest) (hb : ∀ x ∈ before, x.state ≠ .taken) :
    l.taken = some d := by
  rw [Line.taken, h, find_first (fun e he => isTaken_false (hb e he)) rfl]
  rfl

theorem taken_none {l : Line} (h : ∀ x ∈ l.descriptors, x.state ≠ .taken) : l.taken = none := by
  rw [Line.taken, List.find?_eq_none.mpr fun e he => by simp [isTaken_false (h e he)]]
  rfl

theorem oldestPosted_of_split {l : Line} {before rest : List Descriptor} {d : Dose}
    (h : l.descriptors = before ++ { dose := d, state := .posted } :: rest) (hb : ∀ x ∈ before, x.state ≠ .posted) :
    l.oldestPosted = some d := by
  rw [Line.oldestPosted, h, find_first (fun e he => isPosted_false (hb e he)) rfl]
  rfl

theorem oldestPosted_none {l : Line} (h : ∀ x ∈ l.descriptors, x.state ≠ .posted) : l.oldestPosted = none := by
  rw [Line.oldestPosted, List.find?_eq_none.mpr fun e he => by simp [isPosted_false (h e he)]]
  rfl

theorem take_of_split {l : Line} {before rest : List Descriptor} {d : Dose}
    (h : l.descriptors = before ++ { dose := d, state := .posted } :: rest) (hb : ∀ x ∈ before, x.state ≠ .posted) :
    l.take = { l with descriptors := before ++ { dose := d, state := .taken } :: rest } := by
  rw [Line.take, h, changeFirst_append (fun e he => isPosted_false (hb e he)) rfl]

/-- The descriptors that stay POSTED are those behind the one taken. -/
theorem postedNumbers_take {l : Line} {before rest : List Descriptor} {d : Dose}
    (h : l.descriptors = before ++ { dose := d, state := .posted } :: rest) (hb : ∀ x ∈ before, x.state ≠ .posted) :
    l.take.postedNumbers.length = rest.countP fun x => x.state = .posted := by
  have hbefore : before.filter Descriptor.isPosted = [] :=
    List.filter_eq_nil_iff.mpr fun e he => by simp [isPosted_false (hb e he)]
  rw [take_of_split h hb, Line.postedNumbers, List.length_map, List.countP_eq_length_filter]
  simp only [List.filter_append, hbefore]
  rfl

theorem close_of_split {l : Line} {before rest : List Descriptor} {d : Dose}
    (h : l.descriptors = before ++ { dose := d, state := .taken } :: rest) (hb : ∀ x ∈ before, x.state ≠ .taken)
    (a : DoseCloseArgs) :
    l.close a = { l with
      injected := satAdd l.injected a.actual
      descriptors := before ++ { dose := d, state := .closed a.actual a.peak a.outcome } :: rest } := by
  rw [Line.close, h, changeFirst_append (fun e he => isTaken_false (hb e he)) rfl]

/-! ## DOSE TAKE (R101) -/

theorem takeDose_of_barred {s : State} {i : Fin 6} (h : s.permits.grout.allowed = false) :
    takeDose i.val s = .answer .state [.u8 1] := (withLine_val i _).trans (if_pos h)

theorem takeDose_of_no_service {s : State} {i : Fin 6} (h : s.permits.grout.allowed = true)
    (hs : s.grout.lines[i].service ≠ .inService) : takeDose i.val s = .answer .state [.u8 2] :=
  (withLine_val i _).trans ((if_neg (by simp [h])).trans (if_pos hs))

/-- A DOSE TAKE that the permit and the line let through looks at the descriptors. -/
theorem takeDose_of_service {s : State} {i : Fin 6} (h : s.permits.grout.allowed = true)
    (hs : s.grout.lines[i].service = .inService) : takeDose i.val s =
      match s.grout.lines[i].taken with
      | some d => .answer .busy [.u8 d.sequence]
      | none =>
        match s.grout.lines[i].oldestPosted with
        | none => stateRefusal 3 []
        | some d =>
          .act { s with grout := s.grout.setLine i s.grout.lines[i].take } .done
            [.u8 d.sequence, .u32 d.increment, .u16 d.target, .u16 d.limit,
              .u64 s.grout.lines[i].take.postedNumbers.length] :=
  (withLine_val i _).trans ((if_neg (by simp [h])).trans (if_neg (not_not_intro hs)))

theorem takeDose_of_taken {s : State} {i : Fin 6} {d : Dose} (h : s.permits.grout.allowed = true)
    (hs : s.grout.lines[i].service = .inService) (ht : s.grout.lines[i].taken = some d) :
    takeDose i.val s = .answer .busy [.u8 d.sequence] := by
  rw [takeDose_of_service h hs, ht]

theorem takeDose_of_none {s : State} {i : Fin 6} (h : s.permits.grout.allowed = true)
    (hs : s.grout.lines[i].service = .inService) (ht : s.grout.lines[i].taken = none)
    (hp : s.grout.lines[i].oldestPosted = none) : takeDose i.val s = .answer .state [.u8 3] := by
  rw [takeDose_of_service h hs, ht, hp]
  rfl

theorem takeDose_of_posted {s : State} {i : Fin 6} {d : Dose} (h : s.permits.grout.allowed = true)
    (hs : s.grout.lines[i].service = .inService) (ht : s.grout.lines[i].taken = none)
    (hp : s.grout.lines[i].oldestPosted = some d) : takeDose i.val s =
      .act { s with grout := s.grout.setLine i s.grout.lines[i].take } .done
        [.u8 d.sequence, .u32 d.increment, .u16 d.target, .u16 d.limit,
          .u64 s.grout.lines[i].take.postedNumbers.length] := by
  rw [takeDose_of_service h hs, ht, hp]

theorem acts_of_grout (g : Grout) (s : State) : BlocksAct [] [.grout] s { s with grout := g } where
  alters := {}

theorem debtOf_take (g : Grout) (i : Fin 6) : debtOf (g.setLine i g.lines[i].take) = debtOf g := by
  rw [debtOf_setLine, weight_take]
  ring

/-- Settles O52, by the checks of R101 in order. -/
theorem doseTaken : Obligations.DoseTaken := by
  intro s f i hasks hcomm
  have hx := exec_doseTake .grout s
  have hanswers := fun {code fields} => exec_answers (code := code) (fields := fields) hx hasks rfl (.inl hcomm)
  refine ⟨fun h => hanswers (takeDose_of_barred (s := taken .grout s) h),
    fun h hs => hanswers (takeDose_of_no_service (s := taken .grout s) h hs),
    fun h hs => ⟨fun before d rest hsplit hbefore => hanswers
        (takeDose_of_taken (s := taken .grout s) h hs (taken_of_split hsplit hbefore)),
      fun hnone => hanswers (takeDose_of_none (s := taken .grout s) h hs (taken_none fun x hx => (hnone x hx).1)
        (oldestPosted_none fun x hx => (hnone x hx).2)),
      fun before d rest hsplit hothers hbefore => ?_⟩⟩
  have hnotaken : s.grout.lines[i].taken = none := by
    refine taken_none fun x hx => ?_
    rw [hsplit] at hx
    rcases List.mem_append.mp hx with hb | hr
    · exact hothers x (by simp [hb])
    · rcases List.mem_cons.mp hr with rfl | hr
      · nofun
      · exact hothers x (by simp [hr])
  obtain ⟨t, ht, hserved, hconds, hcarries⟩ := exec_acts hx hasks rfl (.inl hcomm)
    (takeDose_of_posted (s := taken .grout s) h hs hnotaken (oldestPosted_of_split hsplit hbefore))
    (acts_of_grout (s.grout.setLine i s.grout.lines[i].take) _) (List.forall_mem_nil _)
  have hgrout : t.grout = s.grout.setLine i s.grout.lines[i].take := hcarries.grout
  refine ⟨t, ht, ?_, hconds, ?_, ?_⟩
  · rw [← postedNumbers_take hsplit hbefore]
    exact hserved
  · rw [hgrout, take_of_split hsplit hbefore]
    rfl
  · rw [hgrout, debtOf_take]

/-! ## DOSE CLOSE (R102) -/

/-- What a DOSE CLOSE answers (R102). -/
def closeResponse (i : Fin 6) (target : Nat) (a : DoseCloseArgs) (s : State) : List Field :=
  [.u8 a.outcome.code, .i64 ((target : Int) - a.actual), .i64 (doseShut i target a s).grout.lines[i].carry]
    ++ (doseMoved i target a s).fields ++ (doseMoved i target a s).cancelledFields
    ++ [.u8 (doseShut i target a s).grout.lines[i].service.code, .i64 (debtOf (doseShut i target a s).grout)]

section Close
variable {s : State} {i : Fin 6} {a : DoseCloseArgs}

/-- A DOSE CLOSE in its ranges looks for the TAKEN descriptor. -/
theorem takeDoseClose_in_range (hline : a.line = i.val) (hactual : a.actual ≤ 100000) (hpeak : a.peak ≤ 2000) :
    takeDoseClose a s =
      match s.grout.lines[i].taken with
      | none => stateRefusal 0 []
      | some d => if a.sequence ≠ d.sequence then .answer .sequence [.u8 d.sequence] else closeDose i d.target a s := by
  have hrange : closeOutOfRange a = false := by simp [closeOutOfRange, hactual, hpeak]
  unfold takeDoseClose
  rw [hline, withLine_val, hrange]
  exact if_neg Bool.false_ne_true

theorem takeDoseClose_of_none (hline : a.line = i.val) (hactual : a.actual ≤ 100000) (hpeak : a.peak ≤ 2000)
    (ht : s.grout.lines[i].taken = none) : takeDoseClose a s = .answer .state [.u8 0] := by
  rw [takeDoseClose_in_range hline hactual hpeak, ht]
  rfl

theorem takeDoseClose_of_other (hline : a.line = i.val) (hactual : a.actual ≤ 100000) (hpeak : a.peak ≤ 2000) {d : Dose}
    (ht : s.grout.lines[i].taken = some d) (hs : a.sequence ≠ d.sequence) :
    takeDoseClose a s = .answer .sequence [.u8 d.sequence] := by
  rw [takeDoseClose_in_range hline hactual hpeak, ht]
  exact if_pos hs

theorem takeDoseClose_of_taken (hline : a.line = i.val) (hactual : a.actual ≤ 100000) (hpeak : a.peak ≤ 2000) {d : Dose}
    (ht : s.grout.lines[i].taken = some d) (hs : a.sequence = d.sequence) :
    takeDoseClose a s = .act (doseShut i d.target a s) .done (closeResponse i d.target a s) := by
  rw [takeDoseClose_in_range hline hactual hpeak, ht]
  exact if_neg (by simp [hs])

theorem doseShut_acts (i : Fin 6) (target : Nat) (a : DoseCloseArgs) (s : State) :
    BlocksAct [] [.grout, .account] s (doseShut i target a s) := by
  unfold doseShut
  exact { alters := {} }

end Close

theorem filter_posted_closed (before rest : List Descriptor) (d : Descriptor) (h : d.isPosted = false) :
    (before ++ d :: rest).filter Descriptor.isPosted = (before ++ rest).filter Descriptor.isPosted := by
  simp [List.filter_append, h]

/-- The movement of a DOSE CLOSE (R102 to R104). -/
theorem moves_doseMoved {s : State} {i : Fin 6} {before rest : List Descriptor} {d : Dose} (a : DoseCloseArgs)
    (hsplit : s.grout.lines[i].descriptors = before ++ { dose := d, state := .taken } :: rest)
    (hbefore : ∀ x ∈ before, x.state ≠ .taken) {diff : Int} {direct leaves : Bool} {posted : List Descriptor}
    (hdiff : diff = d.target - a.actual) (hdirect : direct = decide (a.outcome = .pressureLimit ∧ 0 < diff))
    (hleaves : leaves = decide (a.outcome = .fault ∧ s.grout.lines[i].service = .inService))
    (hposted : posted = (before ++ rest).filter Descriptor.isPosted) :
    Moves (activeProfile s) i s.grout
      { s.grout.lines[i] with
        service := if a.outcome = .fault then .blocked else s.grout.lines[i].service
        injected := satAdd s.grout.lines[i].injected a.actual
        carry :=
          if direct then s.grout.lines[i].carry
          else if s.grout.lines[i].service = .inService ∧ a.outcome ≠ .fault then s.grout.lines[i].carry + diff
          else 0
        descriptors :=
          (before ++ { dose := d, state := .closed a.actual a.peak a.outcome } :: rest).filter
            fun x => !(leaves && x.isPosted) }
      (if direct then diff
        else if s.grout.lines[i].service = .inService ∧ a.outcome ≠ .fault then 0
        else s.grout.lines[i].carry + diff + if leaves then ((posted.map fun x => x.dose.target).sum : Nat) else 0)
      (if leaves then posted.map (·.dose.sequence) else []) (doseMoved i d.target a s) := by
  subst hdiff
  have hclose := close_of_split hsplit hbefore a
  have hset := lines_setLine_self s.grout i (s.grout.lines[i].close a)
  have hserv : ((s.grout.setLine i (s.grout.lines[i].close a)).lines[i]).service = s.grout.lines[i].service := by
    rw [hset]; rfl
  have hcarry : ((s.grout.setLine i (s.grout.lines[i].close a)).lines[i]).carry = s.grout.lines[i].carry := by
    rw [hset]; rfl
  have hdesc : ((s.grout.setLine i (s.grout.lines[i].close a)).lines[i]).descriptors =
      before ++ { dose := d, state := .closed a.actual a.peak a.outcome } :: rest := by
    rw [hset, hclose]
  have hfilter : (before ++ { dose := d, state := .closed a.actual a.peak a.outcome } :: rest).filter
      Descriptor.isPosted = posted := by
    rw [hposted]
    exact filter_posted_closed _ _ _ rfl
  refine ((moves_settle (leaves := leaves) (activeProfile s) i _ a.outcome _ hdirect (by rw [hserv, hleaves])).of_eq
    ?_ ?_ ?_).of_setLine
  · rw [hserv, hcarry, hdesc, hset, hclose]
  · rw [hserv, hcarry, hdesc, hfilter]
  · rw [Line.postedNumbers, hdesc, hfilter]

/-- Settles O53, by the checks of R102 and the movement that the outcome brings. -/
theorem doseClosed : Obligations.DoseClosed := by
  intro s f i a hasks hcomm hline hactual hpeak
  have hx := exec_doseClose .grout s
  have hanswers := fun {code fields} => exec_answers (code := code) (fields := fields) hx hasks rfl (.inl hcomm)
  refine ⟨fun hnone => hanswers (takeDoseClose_of_none (s := taken .grout s) hline hactual hpeak (taken_none hnone)),
    fun before d rest hsplit hbefore => ⟨fun hs => hanswers
      (takeDoseClose_of_other (s := taken .grout s) hline hactual hpeak (taken_of_split hsplit hbefore) hs),
    fun hs diff moved posted shares direct leaves hdiff hdirect hleaves hposted hmoved hshares => ?_⟩⟩
  have htaken := taken_of_split hsplit hbefore
  obtain ⟨t, ht, hserved, hconds, hcarries⟩ := exec_acts hx hasks rfl (.inl hcomm)
    (takeDoseClose_of_taken (s := taken .grout s) hline hactual hpeak htaken hs)
    (doseShut_acts i d.target a (taken .grout s)) (List.forall_mem_nil _)
  have hmoves : Moves (activeProfile s) i s.grout _ moved _ (doseMoved i d.target a s) :=
    (moves_doseMoved a hsplit hbefore hdiff hdirect hleaves hposted).of_eq rfl hmoved.symm rfl
  have hgrout : t.grout = { (doseMoved i d.target a s).grout with judged := true } := hcarries.grout
  have hlines : ∀ k : Fin 6, t.grout.lines[k] = (doseMoved i d.target a s).grout.lines[k] := fun k => by rw [hgrout]
  have hpool : (doseMoved i d.target a s).pool = if sumNat shares = 0 then moved else 0 := by
    rw [hmoves.pool, hshares]
    rfl
  have hportions : (doseMoved i d.target a s).portions =
      if sumNat shares = 0 then Vector.replicate 6 0 else signedPortions shares moved := by
    rw [hmoves.portions, hshares]
    rfl
  refine ⟨t, (doseMoved i d.target a s).portions, ht, hportions, ?_, hconds, hcarries.account, ?_, ?_,
    (hlines i).trans hmoves.line, fun k hk => (hlines k).trans (hmoves.others k hk), ?_⟩
  · rw [← hpool, ← hmoves.cancelled, hdiff, hgrout, List.append_assoc _ (List.map _ _)]
    exact hserved
  · rw [hgrout]
    exact debtOf_doseMoved htaken a
  · rw [hgrout]
  · rw [hgrout, ← hpool]
    exact hmoves.poolNow

/-! ## LINE STATE (R106) -/

theorem takeLineState_of_line {s : State} {i : Fin 6} {a : LineStateArgs} (h : a.line = i.val) :
    takeLineState a s = .act { s with grout := (lineMoved i a.service a.capacity s).grout } .done
      ((lineMoved i a.service a.capacity s).grout.lines[i].fields (constantsOf s).lineSectors[i]
        ++ (lineMoved i a.service a.capacity s).cancelledFields ++ (lineMoved i a.service a.capacity s).fields) := by
  unfold takeLineState
  rw [h, withLine_val]
  rfl

/-- The movement of a LINE STATE that also sets the capacity class (R106, R109). -/
theorem moves_lineMoved (s : State) (i : Fin 6) (x : Service) (c : Capacity) {leaves : Bool} {posted : List Descriptor}
    (hl : leaves = decide (s.grout.lines[i].service = .inService ∧ x ≠ .inService))
    (hposted : posted = s.grout.lines[i].descriptors.filter Descriptor.isPosted) :
    Moves (activeProfile s) i s.grout
      { s.grout.lines[i] with
        service := x, capacity := c
        carry := if leaves then 0 else s.grout.lines[i].carry
        descriptors := s.grout.lines[i].descriptors.filter fun x => !(leaves && x.isPosted) }
      (if leaves then s.grout.lines[i].carry + ((posted.map fun x => x.dose.target).sum : Nat) else 0)
      (if leaves then posted.map (·.dose.sequence) else []) (lineMoved i x c s) := by
  have hset := lines_setLine_self s.grout i { s.grout.lines[i] with capacity := c }
  refine ((moves_changeService (leaves := leaves) (activeProfile s) i x _ (by rw [hset, hl])).of_eq ?_ ?_ ?_).of_setLine
  · rw [hset]
  · rw [hset, hposted]
  · rw [hset, hposted]
    rfl

/-- Settles O54, by the movement that the change of service brings. -/
theorem lineStateSet : Obligations.LineStateSet := by
  intro s f i a hasks hcomm hline posted moved shares leaves hleaves hposted hmoved hshares
  obtain ⟨t, ht, hserved, hconds, hcarries⟩ := exec_acts (exec_lineState .grout s) hasks rfl (.inl hcomm)
    (takeLineState_of_line (s := taken .grout s) hline) (acts_of_grout _ _) (List.forall_mem_nil _)
  have hmoves : Moves (activeProfile s) i s.grout _ moved _ (lineMoved i a.service a.capacity s) :=
    (moves_lineMoved s i a.service a.capacity hleaves hposted).of_eq rfl hmoved.symm rfl
  have hgrout : t.grout = (lineMoved i a.service a.capacity s).grout := hcarries.grout
  have hpool : (lineMoved i a.service a.capacity s).pool = if sumNat shares = 0 then moved else 0 := by
    rw [hmoves.pool, hshares]
    rfl
  have hportions : (lineMoved i a.service a.capacity s).portions =
      if sumNat shares = 0 then Vector.replicate 6 0 else signedPortions shares moved := by
    rw [hmoves.portions, hshares]
    rfl
  refine ⟨t, (lineMoved i a.service a.capacity s).portions, ht, hportions, ?_, hconds, ?_, ?_, ?_, ?_, ?_⟩
  · have hfields : (lineMoved i a.service a.capacity s).grout.lines[i].fields (constantsOf s).lineSectors[i] =
        [.u8 a.service.code, .u8 a.capacity.code, .i64 t.grout.lines[i].carry, .u8 s.grout.lines[i].nextSequence,
          .u64 s.grout.lines[i].injected] ++ t.grout.lines[i].descriptorFields
          ++ [.u8 (constantsOf s).lineSectors[i]] := by
      rw [hgrout, hmoves.line]
      rfl
    rw [← hpool, ← hmoves.cancelled, ← hfields, List.append_assoc _ (List.map _ _)]
    exact hserved
  · rw [hgrout]
    exact hmoves.line
  · rw [hgrout]
    exact hmoves.others
  · rw [hgrout, ← hpool]
    exact hmoves.poolNow
  · rw [hgrout]
    exact hmoves.judged
  · rw [hgrout]
    exact debtOf_lineMoved i a.service a.capacity s

end Sys2Proof.Machine

/-! The first checks of every request: role, format and commissioning (R5, R199). -/

namespace Sys2Proof.Machine

set_option Elab.async false

/-! ## The three checks -/

section Checks
variable {α : Type} {roles : List Port} {early : Bool} {reader : Reader α} {owner : α → State → Handled} {p : Port}
  {f : Frame} {s : State}

theorem handle_of_role (h : p ∉ roles) : handle roles early reader owner p f s = .answer .role [] := by
  simp [handle, h]

theorem handle_of_format (h : p ∈ roles) (hread : readWhole reader f.body.tail = none) :
    handle roles early reader owner p f s = .answer .format [] := by
  simp [handle, h, hread]

theorem handle_of_uncommissioned (h : p ∈ roles) (hread : (readWhole reader f.body.tail).isSome = true)
    (hcomm : commissioned s = false) (hearly : early = false) :
    handle roles early reader owner p f s = .answer .state [.u8 0] := by
  obtain ⟨a, ha⟩ := Option.isSome_iff_exists.mp hread
  simp [handle, h, ha, hcomm, hearly, stateRefusal]

/-- With another frame at the head of the list, or none, nothing is taken (log 3). -/
theorem serve_of_no_head {n : Nat} {carry : Frame → State → Handled} (h : headRequest p n s = none) :
    serve n carry p s = quiet s := by
  unfold serve
  rw [h]
  split <;> rfl

end Checks

/-! ## The requests of the catalogue -/

/-- `c` is the request `n`: it is read and let through as the tables of R199 and R5 have it. -/
structure PlainRequest (α : Type) (c : Instr) (n : Nat) (p : Port) (reader : Reader α) (owner : α → State → Handled) :
    Prop where
  runs  : ∀ s, exec c s = .next (request n (rolesOf n) (takenEarly n) reader owner p s)
  reads : ∀ fields, bodyReads n fields = (readWhole reader fields).isSome

/-- A request of the catalogue that changes no rows of the plan store by itself is a plain one. -/
theorem exists_plainRequest {c : Instr} {n : Nat} {p : Port} (hn : requestId c = some n) (hp : portOf c = some p)
    (hplan : n ∉ [28, 30, 31]) : ∃ α reader owner, PlainRequest α c n p reader owner := by
  cases c
  case planErase | planWrite | planWriteNext =>
    cases hn
    exact absurd (by decide) hplan
  all_goals cases hn
  all_goals
    cases hp
    exact ⟨_, _, _, fun _ => rfl, fun _ => rfl⟩

/-- Every request is served from the head of its link's list. -/
theorem exists_serve {c : Instr} {n : Nat} {p : Port} (hn : requestId c = some n) (hp : portOf c = some p) (s : State) :
    ∃ carry, exec c s = .next (serve n carry p s) := by
  cases c
  all_goals cases hn
  all_goals
    cases hp
    exact ⟨_, rfl⟩

section Plain
variable {α : Type} {c : Instr} {n : Nat} {p : Port} {reader : Reader α} {owner : α → State → Handled} {f : Frame}
  {s : State}

/-- What the three checks refuse is all that the request comes to. -/
theorem PlainRequest.refuses (hc : PlainRequest α c n p reader owner) (hs : s.powered = true)
    (hf : headRequest p n s = some f) {code : Code} {fields : List Field}
    (h : handle (rolesOf n) (takenEarly n) reader owner p f (taken p s) = .answer code fields) :
    exec c s = .next (answeredOnly p f code fields s) := by
  rw [hc.runs, request, serve_heads hs hf, h, answered_answer]

theorem PlainRequest.reads_none (hc : PlainRequest α c n p reader owner) {body : List Byte}
    (h : bodyReads n body = false) : readWhole reader body = none := by
  rw [hc.reads] at h
  simpa using h

end Plain

theorem takenEarly_plan {n : Nat} (h : n ∈ [28, 30, 31]) : takenEarly n = true := by
  simp only [List.mem_cons, List.not_mem_nil, or_false] at h
  obtain rfl | rfl | rfl := h <;> rfl

/-- A frame that is no request of the catalogue (R199, step 1). -/
theorem answerUnknown_of_head {p : Port} {f : Frame} {rest : List Frame} {s : State}
    (hf : (linkOf s p).requests = f :: rest) (h : isRequestFrame f = false) :
    answerUnknown p (quiet s) = answeredOnly p f .format [] s := by
  have hlinks : (linkOf (quiet s) p).requests = f :: rest := hf
  unfold answerUnknown
  rw [hlinks]
  exact if_neg (by simp [h])

/-! ## The early refusals of PLAN ERASE, PLAN WRITE and PLAN WRITE NEXT (R185) -/

section PlanEarly
variable {α : Type} {n : Nat} {k : PlanCommand} {reader : Reader α} {first rows : Option α → Frame → State → Nat}
  {owner : α → State → Handled} {c : Instr} {p : Port} {s : State} {f : Frame} {code : Code}

/-- A refusal ROLE or FORMAT of a request that changes rows replaces the last command record and changes nothing else. -/
theorem exec_plan_early (hx : exec c s = .next (planRequest n k reader first rows owner p s)) (hs : s.powered = true)
    (hf : headRequest p n s = some f)
    (hcheck : p ∉ [Port.cabin] ∧ code = .role ∨
      p ∈ [Port.cabin] ∧ readWhole reader f.body.tail = none ∧ code = .format) :
    ∃ t, exec c s = .next t ∧ Served p f code [] [] [.plan] s t ∧ CondsFollow s t ∧
      t.plan = { s.plan with
        last := some
          { command := k, first := first (readWhole reader f.body.tail) f (taken p s)
            rows := rows (readWhole reader f.body.tail) f (taken p s), written := 0, result := .refused code } } := by
  have hact : ∀ first rows : Nat, recordEarly k first rows (taken p s)
      (handle [.cabin] true reader owner p f (taken p s)) =
      .act (record { command := k, first, rows, written := 0, result := .refused code } (taken p s)) code [] := by
    intro first rows
    obtain ⟨hrole, rfl⟩ | ⟨hrole, hread, rfl⟩ := hcheck
    · rw [handle_of_role hrole]
      rfl
    · rw [handle_of_format hrole hread]
      rfl
  obtain ⟨hserved, hconds, hcarries⟩ := answered_acts (f := f) (code := code) (fields := [])
    (acts_of_plan { s.plan with
      last := some
        { command := k, first := first (readWhole reader f.body.tail) f (taken p s)
          rows := rows (readWhole reader f.body.tail) f (taken p s), written := 0, result := .refused code } } (taken p s))
    (List.forall_mem_nil _)
  refine ⟨_, ?_, hserved, hconds, hcarries.plan⟩
  rw [hx, planRequest, serve_heads hs hf]
  simp only
  rw [hact]
  rfl

end PlanEarly

theorem none_of_unread {α : Type} {a : Option α} (h : a.isSome = false) : a = none := by
  simpa using h

theorem firstNamed_of_read {α : Type} {get : α → Nat} {a : Option α} {x : α} (f : Frame) (s : State) (h : a = some x) :
    firstNamed get a f s = get x := by
  rw [h]
  rfl

theorem rowsCarried_of_read {α : Type} {get : α → Nat} {a : Option α} {x : α} (f : Frame) (s : State) (h : a = some x) :
    rowsCarried get a f s = get x := by
  rw [h]
  rfl

/-- Settles O15: the checks of R199 in order, the early refusals of the plan commands apart. -/
theorem firstChecksOfRequests : Obligations.FirstChecksOfRequests := by
  refine ⟨fun c n p f s hn hp hs => ⟨fun hf => ⟨fun hrole hplan => ?_, fun hrole hread hplan => ?_,
    fun hrole hread hcomm hearly => ?_⟩, fun hf => ?_⟩, fun p f rest s hs hf h => ?_,
    fun n c k p f code s hmem hs hf hcheck => ?_⟩
  · obtain ⟨α, reader, owner, hc⟩ := exists_plainRequest hn hp hplan
    exact hc.refuses hs hf (handle_of_role hrole)
  · obtain ⟨α, reader, owner, hc⟩ := exists_plainRequest hn hp hplan
    exact hc.refuses hs hf (handle_of_format hrole (hc.reads_none hread))
  · have hplan : n ∉ [28, 30, 31] := fun h => by simp [takenEarly_plan h] at hearly
    obtain ⟨α, reader, owner, hc⟩ := exists_plainRequest hn hp hplan
    exact hc.refuses hs hf (handle_of_uncommissioned hrole (by rw [← hc.reads, hread]) hcomm hearly)
  · obtain ⟨carry, hx⟩ := exists_serve hn hp s
    rw [hx, serve_of_no_head hf]
  · show Host.Outcome.next _ = _
    rw [if_pos hs, answerUnknown_of_head hf h]
  · simp only [List.mem_cons, Prod.mk.injEq, List.not_mem_nil, or_false] at hmem
    obtain ⟨rfl, rfl, rfl⟩ | ⟨rfl, rfl, rfl⟩ | ⟨rfl, rfl, rfl⟩ := hmem
    · obtain ⟨t, ht, hserved, hconds, hplan⟩ := exec_plan_early (c := .planErase p) (reader := readWord) rfl hs hf
        (hcheck.imp id fun ⟨hr, hread, hcode⟩ => ⟨hr, none_of_unread hread, hcode⟩)
      exact ⟨t, _, _, ht, hserved, hconds, hplan, fun _ => ⟨rfl, fun base hb => firstNamed_of_read _ _ hb⟩, by nofun, by nofun⟩
    · obtain ⟨t, ht, hserved, hconds, hplan⟩ := exec_plan_early (c := .planWrite p) (reader := readFirstAndRows) rfl hs hf
        (hcheck.imp id fun ⟨hr, hread, hcode⟩ => ⟨hr, none_of_unread hread, hcode⟩)
      exact ⟨t, _, _, ht, hserved, hconds, hplan, by nofun,
        fun _ b l hb => ⟨firstNamed_of_read _ _ hb, rowsCarried_of_read _ _ hb⟩, by nofun⟩
    · obtain ⟨t, ht, hserved, hconds, hplan⟩ := exec_plan_early (c := .planWriteNext p) (reader := readPlanRows) rfl hs hf
        (hcheck.imp id fun ⟨hr, hread, hcode⟩ => ⟨hr, none_of_unread hread, hcode⟩)
      exact ⟨t, _, _, ht, hserved, hconds, hplan, by nofun, by nofun,
        fun _ => ⟨rfl, fun l hl => rowsCarried_of_read _ _ hl⟩⟩

end Sys2Proof.Machine

/-! What a profile switch and an entry into a mode leave (R10, R11, R12, R168). -/

namespace Sys2Proof.Machine

set_option Elab.async false

/-! ## Requests and events of which the records alone are told -/

section Works
variable {α : Type} {n : Nat} {roles : List Port} {early : Bool} {reader : Reader α} {owner : α → State → Handled}
  {c : Instr} {p : Port} {s t : State} {f : Frame} {a : α} {code : Code} {fields : List Field}

/-- A request on which its owning block acts, whatever it sends after the response. -/
theorem exec_works (hx : exec c s = .next (request n roles early reader owner p s)) (h : Asks s p n reader f a)
    (hr : roles.contains p = true) (hc : commissioned s = true ∨ early = true)
    (he : owner a (taken p s) = .act t code fields)
    (hs : Stands (taken p s) t) :
    ∃ r, exec c s = .next r ∧ Stands s r ∧ r.sent.head? = some (responseTo p f code fields) ∧ Carries t r ∧
      r.links = t.links ∧ r.held = (afterAnswer p t).held ∧ r.conds = t.conds.map (evalEntry r) := by
  refine ⟨_, by rw [hx, request_asks h hr hc, he], ⟨?_, ?_, ?_, ?_⟩, rfl, carries_answered _ _ _ _ _ _, ?_, ?_, ?_⟩
  · simp [answered, hs.powered]
  · simp [answered, hs.now]
  · simp [answered, hs.pending]
  · simp [answered, hs.choices]
  · simp [answered]
  · simp [answered]
  · rw [answered, finish_conds]
    simp

/-- The end of an event carries on the records that its blocks leave. -/
theorem carries_finish (before : State) (reply : List Sent) (t : State) : Carries t (finish before reply t) := by
  have hin := sameInputs_finish before reply t
  exact ⟨by simp, by simp, by simp, by simp, by simp, by simp, by simp, finish_chamber _ _ _, by simp, by simp,
    fun _ _ => hin.level _ _, fun _ _ => hin.classOf _ _, by rw [finish_permits, hin.permitsOf]⟩

/-- An event that is no request, whatever it sends. -/
theorem exec_event_works {effect : State → State} (hx : exec c s = .next (event effect s)) (hp : s.powered = true)
    (hs : Stands (quiet s) (effect (quiet s))) :
    ∃ r, exec c s = .next r ∧ Stands s r ∧ Carries (effect (quiet s)) r ∧ r.links = (effect (quiet s)).links ∧
      r.held = (effect (quiet s)).held ∧ r.conds = (effect (quiet s)).conds.map (evalEntry r) := by
  have heq : event effect s = finish s [] (effect (quiet s)) := if_pos hp
  refine ⟨_, by rw [hx, heq], ⟨?_, ?_, ?_, ?_⟩, carries_finish _ _ _, ?_, ?_, finish_conds _ _ _⟩
  · simp [hs.powered]
  · simp [hs.now]
  · simp [hs.pending]
  · simp [hs.choices]
  · simp
  · simp

end Works

/-! ## The switch (R11) -/

/-- The account but for what closures change: the previous strokes, the residue and the mean. -/
theorem closureEffects_prev (s : State) : (closureEffects s).account.prev = s.account.prev := by
  simp [closureEffects, spoilBalance, accountClosure]

section Switch
variable (n : Fin 4) (s : State)

@[simp] theorem switchUnits_store :
    (switchUnits n s).store = { s.store with active := n, pendingProfile := none } := by
  simp [switchUnits]

@[simp] theorem switchUnits_account : (switchUnits n s).account = s.account := by simp [switchUnits]

@[simp] theorem switchUnits_modes : (switchUnits n s).modes = s.modes := by simp [switchUnits]

@[simp] theorem switchUnits_stack : (switchUnits n s).stack = s.stack := by simp [switchUnits]

theorem makeSwitch_store : (makeSwitch n s).store = { s.store with active := n, pendingProfile := none } := by
  simp [makeSwitch_eq, judgeDebt]

/-- Out of CONTINUOUS a switch leaves the mode unit alone (R12). -/
theorem makeSwitch_modes {s : State} (h : s.modes.mode ≠ .continuous) : (makeSwitch n s).modes = s.modes := by
  have hkeep : ∀ u : State, u.modes.mode ≠ .continuous → disallowContinuous u = u := fun u hu => if_neg fun hc => hu hc.1
  rw [makeSwitch_eq, hkeep _ (by simpa [judgeDebt] using h)]
  simp [judgeDebt]

/-- Out of CONTINUOUS the cutterhead is what the switch's own units leave of it (R11). -/
theorem makeSwitch_cutter {s : State} (h : s.modes.mode ≠ .continuous) :
    (makeSwitch n s).cutter = (switchUnits n s).cutter := by
  have hkeep : ∀ u : State, u.modes.mode ≠ .continuous → disallowContinuous u = u := fun u hu => if_neg fun hc => hu hc.1
  rw [makeSwitch_eq, hkeep _ (by simpa [judgeDebt] using h)]
  simp [judgeDebt]

end Switch

theorem closeWhile_prev (fuel : Nat) (s : State) : (closeWhile fuel s).account.prev = s.account.prev := by
  induction fuel generalizing s with
  | zero => rfl
  | succ k ih =>
    unfold closeWhile
    split
    · rw [ih]
      simp [closeIncrement, closureEffects_prev]
    · rfl

theorem makeSwitch_prev (n : Fin 4) (s : State) : (makeSwitch n s).account.prev = s.account.prev := by
  simp [makeSwitch_eq, closeWhile_prev, judgeDebt]

/-- The switch marks entries overtime and keeps the stack's flags (R11). -/
theorem makeSwitch_stackFlags (n : Fin 4) (s : State) :
    (makeSwitch n s).stack.full = s.stack.full ∧ (makeSwitch n s).stack.fullClass = s.stack.fullClass := by
  simp [makeSwitch_eq, judgeDebt, overtimeAtSwitch]

/-! ## The switch test (R9, R10) -/

section Test
variable {s : State} {n : Fin 4}

theorem switchTest_of_none (h : s.store.pendingProfile = none) : switchTest s = s := by
  simp [switchTest, h]

theorem switchTest_of_due (h : s.store.pendingProfile = some n)
    (hheld : heldGroups s ≤ releaseLimitIn s.store.profiles[n] s.modes.mode) : switchTest s = makeSwitch n s := by
  unfold switchTest
  rw [h]
  exact if_pos hheld

theorem switchTest_of_deferred (h : s.store.pendingProfile = some n)
    (hheld : releaseLimitIn s.store.profiles[n] s.modes.mode < heldGroups s) : switchTest s = s := by
  unfold switchTest
  rw [h]
  exact if_neg (Nat.not_le.mpr hheld)

theorem switchTest_cases (s : State) : switchTest s = s ∨ ∃ n, switchTest s = makeSwitch n s := by
  unfold switchTest
  split
  · exact .inl rfl
  · split
    · exact .inr ⟨_, rfl⟩
    · exact .inl rfl

theorem switchTest_modes (h : s.modes.mode ≠ .continuous) : (switchTest s).modes = s.modes := by
  obtain he | ⟨n, he⟩ := switchTest_cases s <;> rw [he]
  exact makeSwitch_modes n h

theorem switchTest_prev (s : State) : (switchTest s).account.prev = s.account.prev := by
  obtain he | ⟨n, he⟩ := switchTest_cases s <;> rw [he]
  exact makeSwitch_prev n s

theorem switchTest_stackFlags (s : State) :
    (switchTest s).stack.full = s.stack.full ∧ (switchTest s).stack.fullClass = s.stack.fullClass := by
  obtain he | ⟨n, he⟩ := switchTest_cases s <;> rw [he]
  · exact ⟨rfl, rfl⟩
  · exact makeSwitch_stackFlags n s

/-- What a selection becomes where the machine stands (R10). -/
theorem switchTest_store_of_due (h : s.store.pendingProfile = some n)
    (hheld : heldGroups s ≤ releaseLimitIn s.store.profiles[n] s.modes.mode) :
    (switchTest s).store = { s.store with active := n, pendingProfile := none } := by
  rw [switchTest_of_due h hheld, makeSwitch_store]

/-- Where no pending selection passes the test nothing happens (R10). -/
theorem switchTest_of_waiting
    (h : ∀ n, s.store.pendingProfile = some n → releaseLimitIn s.store.profiles[n] s.modes.mode < heldGroups s) :
    switchTest s = s := by
  cases hpend : s.store.pendingProfile with
  | none => exact switchTest_of_none hpend
  | some n => exact switchTest_of_deferred hpend (h n hpend)

end Test

theorem releaseLimitIn_of_not_continuous {p : Profile} {m : Mode} (h : m ≠ .continuous) :
    releaseLimitIn p m = p.releaseBuild := if_neg h

theorem not_continuous_of_stands {m : Mode} (h : stands m = true) : m ≠ .continuous := by
  rintro rfl
  exact absurd h (by decide)

theorem heldGroups_congr {s t : State} (h : t.groups = s.groups) : heldGroups t = heldGroups s := by
  unfold heldGroups
  rw [h]

/-! ## Entering a mode (R168) -/

section Enter
variable {m : Mode} {cause : ModeCause} {s : State}

/-- A mode in which the machine does not stand is entered by its change alone. -/
theorem enterMode_of_moves (h : s.modes.mode ≠ m) (hm : stands m = false) :
    enterMode m cause s = changeMode m cause s := by
  unfold enterMode
  rw [if_neg h]
  simp [hm]

theorem enterMode_of_stands (h : s.modes.mode ≠ m) (hm : stands m = true) :
    enterMode m cause s = switchTest (changeMode m cause s) := by
  unfold enterMode
  rw [if_neg h]
  simp [hm]

theorem enterMode_modes (h : s.modes.mode ≠ m) :
    (enterMode m cause s).modes = s.modes.entered m cause := by
  cases hm : stands m
  · rw [enterMode_of_moves h hm, changeMode_modes h]
  · have hmodes := changeMode_modes h cause
    rw [enterMode_of_stands h hm, switchTest_modes, hmodes]
    rw [hmodes]
    exact not_continuous_of_stands hm

theorem enterMode_store_of_moves (hm : stands m = false) : (enterMode m cause s).store = s.store := by
  unfold enterMode
  split
  · rfl
  · simp [hm]

theorem enterMode_prev : (enterMode m cause s).account.prev = s.account.prev := by
  unfold enterMode
  split
  · rfl
  · simp only
    split
    · simp [switchTest_prev]
    · simp

theorem enterMode_stackFlags :
    (enterMode m cause s).stack.full = s.stack.full ∧ (enterMode m cause s).stack.fullClass = s.stack.fullClass := by
  unfold enterMode
  split
  · exact ⟨rfl, rfl⟩
  · simp only
    split
    · simp [switchTest_stackFlags]
    · simp

/-- At an entry into a mode in which the machine stands a selection becomes active that the held groups do not defer
(R10). -/
theorem enterMode_store_of_due (h : s.modes.mode ≠ m) (hm : stands m = true) {n : Fin 4}
    (hpend : s.store.pendingProfile = some n) (hheld : heldGroups s ≤ s.store.profiles[n].releaseBuild) :
    (enterMode m cause s).store = { s.store with active := n, pendingProfile := none } := by
  have hmode : (changeMode m cause s).modes.mode = m := by rw [changeMode_modes h]; rfl
  rw [enterMode_of_stands h hm, switchTest_store_of_due (n := n)]
  · simp
  · simpa using hpend
  · rw [hmode, releaseLimitIn_of_not_continuous (not_continuous_of_stands hm), heldGroups_congr (s := s) (by simp)]
    simpa using hheld

/-- At any entry a selection waits on that the held groups defer (R10). -/
theorem enterMode_store_of_waiting (hwait : stands m = true → ∀ n, s.store.pendingProfile = some n →
    s.store.profiles[n].releaseBuild < heldGroups s) : (enterMode m cause s).store = s.store := by
  by_cases h : s.modes.mode = m
  · unfold enterMode
    rw [if_pos h]
  · cases hm : stands m
    · exact enterMode_store_of_moves hm
    · have hmode : (changeMode m cause s).modes.mode = m := by rw [changeMode_modes h]; rfl
      rw [enterMode_of_stands h hm, switchTest_of_waiting]
      · simp
      · intro n hpend
        rw [hmode, releaseLimitIn_of_not_continuous (not_continuous_of_stands hm), heldGroups_congr (s := s) (by simp)]
        simpa using hwait hm n (by simpa using hpend)

end Enter

end Sys2Proof.Machine

/-! Requests whose owning blocks bring the permits up to date before the end of the event (R174, R176; log 10). -/

namespace Sys2Proof.Machine

set_option Elab.async false

/-! ## The frames of an event, place by place -/

theorem permitTrail_concat (a b : Permits) (steps : List Permits) :
    permitTrail a (steps ++ [b]) = permitTrail a steps ++ permitNotices (steps.getLastD a) b := by
  induction steps generalizing a with
  | nil => simp [permitTrail]
  | cons x xs ih =>
    rw [List.getLastD_cons, List.cons_append, permitTrail, ih, permitTrail, List.append_assoc]

theorem atPlace_append (told told' trail trail' : List Sent) (k : Nat) :
    atPlace (told ++ told') (trail ++ trail') k = atPlace told trail k ++ atPlace told' trail' k := by
  unfold atPlace
  split_ifs <;> simp

theorem otherPermits_place (a : Permits) (steps : List Permits) :
    ∀ x ∈ (permitTrail a steps).filter (fun x => !isCutterPermit x), x.message.place = 2 := by
  intro x hx
  obtain ⟨hmem, hcut⟩ := List.mem_filter.mp hx
  rw [permitTrail_place a steps x hmem, permitPlace, if_neg (by simpa using hcut)]

theorem cutterPermits_place (a : Permits) (steps : List Permits) :
    ∀ x ∈ (permitTrail a steps).filter isCutterPermit, x.message.place = 3 := by
  intro x hx
  obtain ⟨hmem, hcut⟩ := List.mem_filter.mp hx
  rw [permitTrail_place a steps x hmem, permitPlace, if_pos hcut]

/-- The notices that close an event, place by place. -/
theorem closingNotices_place (steps : List Permits) (s t : State) (k : Nat) :
    (closingNotices steps s t).filter (fun x => x.message.place = k) =
      atPlace [] (permitTrail s.permits (steps ++ [t.permits])) k ++
        ((screwNotices s t ++ modeNotices s t ++ conditionNotices s t).filter fun x => x.message.place = k) := by
  simp only [closingNotices, List.filter_append, filter_place screwNotices_place, filter_place modeNotices_place,
    filter_place conditionNotices_place, filter_place (otherPermits_place _ _), filter_place (cutterPermits_place _ _),
    atPlace]
  split_ifs <;> simp_all

theorem outstandingOrders_place (s : State) : ∀ x ∈ outstandingOrders s, x.message.place = 0 := by
  unfold outstandingOrders
  simp only [List.mem_append]
  rintro x (h | h) <;> (split at h <;> simp_all [Message.place])

/-- What the end of an event sends whose frames so far stand in the order of R178 with those held back. -/
theorem finish_sent_run {before s : State} {reply l first : List Sent} {steps : List Permits}
    (hs : s.sent = arranged l)
    (hl : ∀ k, (l.filter fun x => x.message.place = k) =
      ((first ++ permitTrail before.permits steps).filter fun x => x.message.place = k))
    (hperm : s.permits = steps.getLastD before.permits) :
    (finish before reply s).sent =
      reply ++ arranged (first ++ closingNotices steps before (finish before reply s)) := by
  have hend : (finish before reply s).sent = reply ++ arranged ((refresh s).sent ++
    screwNotices before (refresh s) ++ modeNotices before (refresh s) ++ conditionNotices before (refresh s)) := rfl
  have hq : permitsOf (refresh s) = (finish before reply s).permits := by
    rw [finish_permits, (sameInputs_finish before reply s).permitsOf, (sameInputs_refresh s).permitsOf]
  rw [hend, refresh_sent, hq, hs]
  simp only [List.append_assoc]
  rw [arranged_arranged]
  refine congrArg _ (arranged_congr fun k => ?_)
  have hclose := closingNotices_place steps before (finish before reply s) k
  have hnotices : screwNotices before (finish before reply s) ++ modeNotices before (finish before reply s) ++
      conditionNotices before (finish before reply s) =
      screwNotices before (refresh s) ++ modeNotices before (refresh s) ++ conditionNotices before (refresh s) := rfl
  have htrail := filter_trail (permitTrail_place before.permits (steps ++ [(finish before reply s).permits])) k
  rw [hnotices, ← htrail, permitTrail_concat, ← hperm] at hclose
  simp only [List.filter_append] at hclose hl ⊢
  rw [hl, hclose]
  simp [List.append_assoc]

/-! ## Owning blocks that run over several recomputations -/

/-- The owning blocks bring `s` to `t`: they change at most the blocks listed and, through the standstill limit, the
setpoint; they tell `told` and compute the permits once for each of `steps`, with the notices of R176. -/
structure BlocksTell (steps : List Permits) (told : List Sent) (l : List Block) (s t : State) : Prop where
  alters  : Alters (.chamber :: l) s t
  chamber : .chamber ∉ l → ChamberHeld s t
  powered : t.powered = s.powered := by simp
  links   : t.links = s.links := by simp
  held    : t.held = s.held := by simp
  permits : t.permits = steps.getLastD s.permits
  sent    : ∀ k, (t.sent.filter fun x => x.message.place = k) =
    ((s.sent ++ told ++ permitTrail s.permits steps).filter fun x => x.message.place = k)

/-- So they do, and the condition table follows at the levels of `t`, brought up to date once. -/
structure BlocksRun (steps : List Permits) (told : List Sent) (l : List Block) (s t : State) : Prop
    extends BlocksTell steps told l s t where
  conds : t.conds.map (evalEntry t) = s.conds.map (evalEntry t)

theorem BlocksAct.run {told : List Sent} {l : List Block} {s t : State} (h : BlocksAct told l s t) :
    BlocksRun [] told l s t where
  alters := h.alters.mono (fun _ => id) (List.subset_cons_self _ _)
  chamber hc := .inl (h.alters.chamber hc)
  powered := h.powered
  links := h.links
  held := h.held
  permits := h.permits
  sent k := by simp [h.sent, permitTrail]
  conds := by rw [h.conds]

/-- The end of an event after such a run changes no block but those listed. -/
theorem BlocksTell.onlyChanges {steps : List Permits} {told : List Sent} {l : List Block} {s t r : State}
    (h : BlocksTell steps told l s t) (hin : SameInputs t r) (hp : r.permits = permitsOf r)
    (hc : r.chamber = if standstillLimit r then heldDown t r else t.chamber) : OnlyChanges l s r := by
  intro b hb
  have hkeep : ∀ b, b ≠ .chamber → b ∉ l → b ∉ Block.chamber :: l := by
    intro b hne hb
    simp [hne, hb]
  cases b with
  | chamber =>
    have hheld := (h.chamber hb).of_closed hin hp hc
    rw [ChamberHeld] at hheld
    refine hheld.imp id fun ⟨hrun, hallow, hch⟩ => ⟨?_, hch⟩
    rw [standstillLimit_of_permits hp]
    simp [hrun, hallow]
  | store => exact hin.store.trans (h.alters.store (hkeep _ nofun hb))
  | account => exact hin.account.trans (h.alters.account (hkeep _ nofun hb))
  | groups => exact hin.groups.trans (h.alters.groups (hkeep _ nofun hb))
  | stack => exact hin.stack.trans (h.alters.stack (hkeep _ nofun hb))
  | ring => exact hin.ring.trans (h.alters.ring (hkeep _ nofun hb))
  | plan => exact hin.plan.trans (h.alters.plan (hkeep _ nofun hb))
  | grout => exact hin.grout.trans (h.alters.grout (hkeep _ nofun hb))
  | cutter => exact hin.cutter.trans (h.alters.cutter (hkeep _ nofun hb))
  | modes => exact hin.modes.trans (h.alters.modes (hkeep _ nofun hb))

section Answer
variable {steps : List Permits} {told : List Sent} {l : List Block} {s t : State} {p : Port} {f : Frame} {code : Code}
  {fields : List Field}

/-- What a request sends after its response, held back or not (R178, R203). -/
theorem BlocksTell.answered_sent (h : BlocksTell steps told l (taken p s) t) (hpl : ∀ x ∈ told, x.message.place = 0) :
    (answered s p f (taken p s) (.act t code fields)).sent = responseTo p f code fields ::
      afterResponse p told (closingNotices steps s (answered s p f (taken p s) (.act t code fields))) s
        (answered s p f (taken p s) (.act t code fields)) := by
  have hperm : t.permits = steps.getLastD s.permits := h.permits
  have hsent : ∀ k, (t.sent.filter fun x => x.message.place = k) =
      ((told ++ permitTrail s.permits steps).filter fun x => x.message.place = k) := h.sent
  have hheld : t.held[portIndex p] = s.held[portIndex p] := by rw [h.held]; rfl
  have hkeep : (afterAnswer p t).permits = t.permits := by simp
  have hplain : (afterAnswer p t).sent = t.sent → (finish s [responseTo p f code fields] (afterAnswer p t)).sent =
      [responseTo p f code fields] ++ told ++
        closingNotices steps s (finish s [responseTo p f code fields] (afterAnswer p t)) := by
    intro hidle
    refine finish_sent (l := t.sent) hidle fun k => ?_
    have htold := filter_told_trail hpl
      (permitTrail_place s.permits (steps ++ [(finish s [responseTo p f code fields] (afterAnswer p t)).permits])) k
    rw [← htold, permitTrail_concat, ← hperm, ← finish_permits, hkeep]
    simp only [List.filter_append, hsent]
    simp [List.append_assoc]
  show (finish s [responseTo p f code fields] (afterAnswer p t)).sent = _
  cases hn : s.held[portIndex p] with
  | none =>
    rw [hplain (by rw [afterAnswer_idle (hheld.trans hn)])]
    simp [answered, afterResponse, hn]
  | some w =>
    by_cases ha : w.after ≤ 1
    · have hout : (afterAnswer p t).sent =
          arranged (w.notices ++ t.sent ++ if w.orders then outstandingOrders t else []) := by
        simp only [afterAnswer, hheld.trans hn, ha, if_true, sendHeld_sent, setHeld_frame]
        rw [outstandingOrders_congr (setHeld_frame _ _ _).2.2.2.2.2.1]
      have hg : outstandingOrders (answered s p f (taken p s) (.act t code fields)) = outstandingOrders t :=
        outstandingOrders_congr (by simp [answered])
      rw [finish_sent_run (first := w.notices ++ told ++ if w.orders then outstandingOrders t else [])
        (steps := steps) hout (fun k => ?_) (by rw [hkeep, hperm])]
      · simp only [afterResponse, hn, Nat.not_lt.mpr ha, hg, if_false]
        simp [answered]
      · have horders : ∀ x ∈ (if w.orders then outstandingOrders t else []), x.message.place = 0 := by
          intro x hx
          split at hx
          · exact outstandingOrders_place t x hx
          · exact absurd hx List.not_mem_nil
        have hsent := hsent k
        simp only [List.filter_append, filter_place hpl, filter_place horders,
          filter_trail (permitTrail_place s.permits steps)] at hsent ⊢
        rw [hsent]
        by_cases hk : k = 0 <;> simp [hk, atPlace]
    · have hout : (afterAnswer p t).sent = t.sent := by
        simp [afterAnswer, hheld.trans hn, ha]
      rw [hplain hout]
      simp [afterResponse, hn, Nat.lt_of_not_le ha, answered]

/-- Such a run served: the frame taken, the answer and what follows it sent, the permits brought up to date. -/
theorem BlocksTell.served (h : BlocksTell steps told l (taken p s) t) (hpl : ∀ x ∈ told, x.message.place = 0) :
    ServedBy steps p f code fields told l s (answered s p f (taken p s) (.act t code fields)) ∧
      Carries t (answered s p f (taken p s) (.act t code fields)) := by
  have hend : answered s p f (taken p s) (.act t code fields) =
    finish s [responseTo p f code fields] (afterAnswer p t) := rfl
  have hin : SameInputs t (finish s [responseTo p f code fields] (afterAnswer p t)) :=
    (sameInputs_afterAnswer p t).trans (sameInputs_finish _ _ _)
  refine ⟨⟨⟨?_, ?_, ?_, ?_⟩, ?_, ?_, h.answered_sent hpl, ?_, finish_permits _ _ _⟩, carries_answered _ _ _ _ _ _⟩
  · simp [answered, h.powered]
  · simp [answered, h.alters.now]
  · simp [answered, h.alters.pending]
  · simp [answered, h.alters.choices]
  · have hlinks : (answered s p f (taken p s) (.act t code fields)).links = (taken p s).links := by
      simp [answered, h.links]
    exact hlinks.trans (dropHead_quiet_links p s)
  · have hheld : (answered s p f (taken p s) (.act t code fields)).held = (afterAnswer p t).held := by simp [answered]
    exact hheld.trans (afterAnswer_orders (s := s) h.held)
  · have honly := h.onlyChanges (r := finish s [responseTo p f code fields] (afterAnswer p t)) hin (finish_permits _ _ _)
      (by rw [finish_chamber]; simp [heldDown])
    rw [hend]
    intro b hb
    have hk := honly b hb
    cases b <;> simpa [Keeps, heldDown] using hk

/-- Such a run served, with the condition table brought up to date. -/
theorem BlocksRun.served (h : BlocksRun steps told l (taken p s) t) (hpl : ∀ x ∈ told, x.message.place = 0) :
    ServedBy steps p f code fields told l s (answered s p f (taken p s) (.act t code fields)) ∧
      CondsFollow s (answered s p f (taken p s) (.act t code fields)) ∧
      Carries t (answered s p f (taken p s) (.act t code fields)) := by
  have hend : answered s p f (taken p s) (.act t code fields) =
    finish s [responseTo p f code fields] (afterAnswer p t) := rfl
  have hin : SameInputs t (finish s [responseTo p f code fields] (afterAnswer p t)) :=
    (sameInputs_afterAnswer p t).trans (sameInputs_finish _ _ _)
  obtain ⟨hserved, hcarries⟩ := h.toBlocksTell.served hpl
  refine ⟨hserved, ?_, hcarries⟩
  rw [hend, CondsFollow, finish_conds, hin.evalEntry]
  simpa using h.conds

end Answer

/-- A request on which its owning blocks run. -/
theorem exec_runs {α : Type} {n : Nat} {roles : List Port} {early : Bool} {reader : Reader α} {owner : α → State → Handled}
    {c : Instr} {p : Port} {s t : State} {f : Frame} {a : α} {code : Code} {fields : List Field} {steps : List Permits}
    {told : List Sent} {l : List Block} (hx : exec c s = .next (request n roles early reader owner p s))
    (h : Asks s p n reader f a) (hr : roles.contains p = true) (hc : commissioned s = true ∨ early = true)
    (he : owner a (taken p s) = .act t code fields) (hb : BlocksRun steps told l (taken p s) t)
    (hpl : ∀ x ∈ told, x.message.place = 0) :
    ∃ r, exec c s = .next r ∧ ServedBy steps p f code fields told l s r ∧ CondsFollow s r ∧ Carries t r :=
  ⟨_, by rw [hx, request_asks h hr hc, he], hb.served hpl⟩

/-- A request on which its owning blocks run whose condition table is left open. -/
theorem exec_tells {α : Type} {n : Nat} {roles : List Port} {early : Bool} {reader : Reader α} {owner : α → State → Handled}
    {c : Instr} {p : Port} {s t : State} {f : Frame} {a : α} {code : Code} {fields : List Field} {steps : List Permits}
    {told : List Sent} {l : List Block} (hx : exec c s = .next (request n roles early reader owner p s))
    (h : Asks s p n reader f a) (hr : roles.contains p = true) (hc : commissioned s = true ∨ early = true)
    (he : owner a (taken p s) = .act t code fields) (hb : BlocksTell steps told l (taken p s) t)
    (hpl : ∀ x ∈ told, x.message.place = 0) :
    ∃ r, exec c s = .next r ∧ ServedBy steps p f code fields told l s r ∧ Carries t r :=
  ⟨_, by rw [hx, request_asks h hr hc, he], hb.served hpl⟩

/-! ## How runs are composed -/

theorem BlocksAct.trans_run {told told' : List Sent} {steps : List Permits} {l : List Block} {s t u : State}
    (h : BlocksAct told l s t) (h' : BlocksRun steps told' l t u) : BlocksRun steps (told ++ told') l s u where
  alters := (h.alters.mono (fun _ => id) (List.subset_cons_self _ _)).trans h'.alters
  chamber hc := by
    have hkeep : t.chamber = s.chamber := h.alters.chamber hc
    have hheld := h'.chamber hc
    rwa [ChamberHeld, heldDown, hkeep] at hheld
  powered := h'.powered.trans h.powered
  links := h'.links.trans h.links
  held := h'.held.trans h.held
  permits := by rw [h'.permits, h.permits]
  sent k := by rw [h'.sent, h.sent, h.permits, List.append_assoc s.sent]
  conds := by rw [h'.conds, h.conds]

theorem BlocksRun.mono {told : List Sent} {steps : List Permits} {l l' : List Block} {s t : State}
    (h : BlocksRun steps told l s t) (hl : l ⊆ l') : BlocksRun steps told l' s t :=
  { h with
    alters := h.alters.mono (fun _ => id) (List.cons_subset_cons _ hl)
    chamber := fun hc => h.chamber fun hm => hc (hl hm) }

/-- The conditions brought up to date inside an event are brought up to date once (R177). -/
theorem BlocksAct.evaluated {told : List Sent} {l : List Block} {s t : State} (h : BlocksAct told l s t) :
    BlocksRun [] told l s (evalConditions t) := by
  have hin : SameInputs t (evalConditions t) := ⟨t.permits, _, t.chamber.setpoint, t.sent, t.held, rfl⟩
  exact { h.run with
    alters := { h.run.alters with }
    chamber := h.run.chamber
    conds := by
      rw [hin.evalEntry]
      show (t.conds.map (evalEntry t)).map (evalEntry t) = _
      rw [List.map_map, h.conds]
      exact List.map_congr_left fun e _ => evalEntry_twice t e }

/-! ## A change of mode that stops nothing (R168) -/

theorem acts_of_modes (u : ModeUnit) (s : State) : BlocksAct [] [.modes] s { s with modes := u } where
  alters := {}

theorem changeMode_run {m : Mode} {s : State} (cause : ModeCause) (h : advancing s.modes.mode = false ∨ advancing m = true) :
    BlocksRun [] [] [.modes] s (changeMode m cause s) := by
  unfold changeMode
  split
  · exact (BlocksAct.refl _ _).run
  · have hstops : (advancing s.modes.mode && !advancing m) = false := by
      obtain h | h := h <;> simp [h]
    simp only [hstops, Bool.false_eq_true, if_false]
    exact (acts_of_modes _ _).evaluated


end Sys2Proof.Machine

/-! Claims and halts (R164 to R170). -/

namespace Sys2Proof.Machine

set_option Elab.async false

/-! ## What the conditions see of the links -/

/-- A link's record may change without its silence changing: no condition sees it (R177). -/
theorem level_setLink {p : Port} {l : LinkRec} {s : State}
    (h : (l.ever && !l.active) = ((linkOf s p).ever && !(linkOf s p).active)) (name : CondName) (subject : Option Nat) :
    level (setLink p l s) name subject = level s name subject := by
  cases name
  case linkSilent =>
    cases subject with
    | none => rfl
    | some j =>
      by_cases hj : j = (portIndex p).val
      · subst hj
        have hnew : (setLink p l s).links[(portIndex p).val]? = some l := by simp [setLink]
        have hold : s.links[(portIndex p).val]? = some (linkOf s p) := by simp [linkOf]
        simp only [level, Option.bind_some, hnew, hold, h]
      · have hsame : (setLink p l s).links[j]? = s.links[j]? := by simp [setLink, Ne.symm hj]
        simp only [level, Option.bind_some, hsame]
  all_goals rfl

theorem level_taken (p : Port) (s : State) (name : CondName) (subject : Option Nat) :
    level (taken p s) name subject = level s name subject := by
  have hq : level (quiet s) name subject = level s name subject := by cases name <;> rfl
  rw [← hq]
  exact level_setLink (p := p) (l := { linkOf s p with requests := (linkOf s p).requests.tail }) (s := quiet s) rfl name
    subject

theorem activeHalts_congr {s t : State} (hlevel : ∀ name subject, level t name subject = level s name subject)
    (hclass : ∀ name subject, classOf t name subject = classOf s name subject) : activeHalts t = activeHalts s := by
  simp [activeHalts, hlevel, hclass]

theorem activeHalts_taken (p : Port) (s : State) : activeHalts (taken p s) = activeHalts s :=
  activeHalts_congr (level_taken p s) fun name _ => by cases name <;> rfl

theorem Carries.activeHalts {t r : State} (h : Carries t r) : activeHalts r = activeHalts t :=
  activeHalts_congr h.level h.classOf

/-! ## The mode after a change of the claims (R167) -/

section Claims
variable {s : State} {cause : ModeCause}

theorem claimsChanged_of_halted (h : s.modes.mode = .halted) : claimsChanged cause s = s := if_pos (.inr h)

theorem claimsChanged_of_following (hearly : s.modes.mode ≠ .uncommissioned) (hhalt : s.modes.mode ≠ .halted) :
    claimsChanged cause s = enterMode (derivedMode s.modes.advance s.modes.build) cause s :=
  if_neg (not_or.mpr ⟨hearly, hhalt⟩)

/-- The mode follows new claims of a part that moves or is to move, and nothing else changes. -/
theorem claimsChanged_run (u : ModeUnit) (cause : ModeCause) (hu : u.mode = s.modes.mode)
    (hearly : s.modes.mode ≠ .uncommissioned) (hhalt : s.modes.mode ≠ .halted)
    (hmoves : s.modes.mode = derivedMode u.advance u.build ∨ stands (derivedMode u.advance u.build) = false)
    (hstops : advancing s.modes.mode = false ∨ advancing (derivedMode u.advance u.build) = true) :
    BlocksRun [] [] [.modes] s (claimsChanged cause { s with modes := u }) := by
  have hrun : BlocksRun [] [] [.modes] s (changeMode (derivedMode u.advance u.build) cause { s with modes := u }) :=
    (acts_of_modes u s).trans_run (changeMode_run cause (by rwa [hu]))
  rw [claimsChanged_of_following (by rwa [hu]) (by rwa [hu])]
  by_cases hsame : s.modes.mode = derivedMode u.advance u.build
  · have hstay : enterMode (derivedMode u.advance u.build) cause { s with modes := u } = { s with modes := u } :=
      if_pos (hu.trans hsame)
    rw [hstay]
    exact (acts_of_modes u s).run
  · rw [enterMode_of_moves (by rwa [hu]) (hmoves.resolve_left hsame)]
    exact hrun

/-- What the mode unit is after a change of the claims. -/
theorem claimsChanged_modes (hearly : s.modes.mode ≠ .uncommissioned) (hhalt : s.modes.mode ≠ .halted) :
    (claimsChanged cause s).modes.advance = s.modes.advance ∧ (claimsChanged cause s).modes.build = s.modes.build ∧
    (claimsChanged cause s).modes.operatorHalt = s.modes.operatorHalt ∧
    (claimsChanged cause s).modes.mode = derivedMode s.modes.advance s.modes.build := by
  rw [claimsChanged_of_following hearly hhalt]
  by_cases h : s.modes.mode = derivedMode s.modes.advance s.modes.build
  · have hstay : enterMode (derivedMode s.modes.advance s.modes.build) cause s = s := if_pos h
    rw [hstay]
    exact ⟨rfl, rfl, rfl, h⟩
  · rw [enterMode_modes h]
    exact ⟨rfl, rfl, rfl, rfl⟩

end Claims

/-! ## CLAIM ADVANCE and CLAIM BUILD (R164, R165) -/

theorem exec_claimAdvance (p : Port) (s : State) :
    exec (.claimAdvance p) s = .next (request 7 [.drive] false readNothing takeClaimAdvance p s) := rfl

theorem exec_claimBuild (p : Port) (s : State) :
    exec (.claimBuild p) s = .next (request 14 [.erector] false readNothing takeClaimBuild p s) := rfl

/-- The part after a first advance claim. -/
def advanceClaimed (c : Claim) (s : State) : State :=
  claimsChanged .claim { s with modes := { s.modes with advance := c } }

/-- The part after a first build claim. -/
def buildClaimed (c : Claim) (s : State) : State :=
  claimsChanged .claim { s with modes := { s.modes with build := c } }

section Take
variable {s : State}

theorem takeClaimAdvance_of_halted (h : s.modes.mode = .halted) : takeClaimAdvance () s = .answer .state [.u8 14] :=
  if_pos h

theorem takeClaimAdvance_of_repeated (h : s.modes.mode ≠ .halted) (ha : s.modes.advance ≠ .absent) :
    takeClaimAdvance () s = .answer .done [.u8 s.modes.advance.code, .u8 s.modes.mode.code] :=
  (if_neg h).trans (if_pos ha)

theorem takeClaimAdvance_of_open (h : s.modes.mode ≠ .halted) (ha : s.modes.advance = .absent)
    (ho : s.stack.entries ≠ []) (hb : s.modes.build ≠ .held) : takeClaimAdvance () s = .answer .state [.u8 15] :=
  (if_neg h).trans ((if_neg (not_not_intro ha)).trans (if_pos ⟨ho, hb⟩))

theorem takeClaimAdvance_of_free (h : s.modes.mode ≠ .halted) (ha : s.modes.advance = .absent)
    (ho : s.stack.entries = [] ∨ s.modes.build = .held) {c : Claim}
    (hc : c = claimBeside s.modes.build (mayStandTogether s)) : takeClaimAdvance () s =
      .act (advanceClaimed c s) .done
        [.u8 (advanceClaimed c s).modes.advance.code, .u8 (advanceClaimed c s).modes.mode.code] := by
  subst hc
  exact (if_neg h).trans ((if_neg (not_not_intro ha)).trans (if_neg fun hc => ho.elim hc.1 hc.2))

theorem takeClaimBuild_of_repeated (hb : s.modes.build ≠ .absent) :
    takeClaimBuild () s = .answer .done [.u8 s.modes.build.code, .u8 s.modes.mode.code] := if_pos hb

theorem takeClaimBuild_of_absent (hb : s.modes.build = .absent) {c : Claim}
    (hc : c = buildClaimBeside s.modes.advance (mayStandTogether s)) : takeClaimBuild () s =
      .act (buildClaimed c s) .done
        [.u8 (buildClaimed c s).modes.build.code, .u8 (buildClaimed c s).modes.mode.code] := by
  subst hc
  exact if_neg (not_not_intro hb)

end Take

/-- The mode that the claims give, read from the build claim. -/
theorem derivedMode_held (b : Claim) : derivedMode .held b = if b = .held then .continuous else .advance := by
  cases b <;> rfl

theorem derivedMode_not_held {a : Claim} (h : a ≠ .held) (b : Claim) :
    derivedMode a b = if b = .held then .build else .standstill := by
  cases a <;> cases b <;> simp_all [derivedMode]

theorem claimBeside_of_not_held {b : Claim} (h : b ≠ .held) (together : Bool) : claimBeside b together = .held :=
  if_neg fun hc => h hc.1

section Taken
variable {s : State} {c : Claim}

/-- A first advance claim beside the build claim (R164, R167). -/
theorem advanceClaimed_run (hearly : s.modes.mode ≠ .uncommissioned) (hhalt : s.modes.mode ≠ .halted)
    (hmode : s.modes.mode = derivedMode .absent s.modes.build)
    (hc : c = claimBeside s.modes.build (mayStandTogether s)) :
    BlocksRun [] [] [.modes] s (advanceClaimed c s) ∧ (advanceClaimed c s).modes.advance = c ∧
      (advanceClaimed c s).modes.build = s.modes.build ∧
      (advanceClaimed c s).modes.operatorHalt = s.modes.operatorHalt ∧
      (advanceClaimed c s).modes.mode =
        if s.modes.build = .held then (if c = .held then .continuous else .build) else .advance := by
  have hstill : advancing s.modes.mode = false := by
    rw [hmode, derivedMode_not_held (by nofun)]
    split <;> rfl
  have hnew : derivedMode c s.modes.build =
      if s.modes.build = .held then (if c = .held then .continuous else .build) else .advance := by
    by_cases hb : s.modes.build = .held
    · by_cases hheld : c = .held
      · rw [hheld, derivedMode_held, if_pos hb, if_pos hb, if_pos rfl]
      · rw [derivedMode_not_held hheld, if_pos hb, if_pos hb, if_neg hheld]
    · rw [hc, claimBeside_of_not_held hb, derivedMode_held, if_neg hb, if_neg hb]
  have hmoves : stands (derivedMode c s.modes.build) = false := by
    rw [hnew]
    split
    · split <;> rfl
    · rfl
  obtain ⟨hadvance, hbuild, hop, hderived⟩ := claimsChanged_modes (cause := .claim)
    (s := { s with modes := { s.modes with advance := c } }) hearly hhalt
  exact ⟨claimsChanged_run _ _ rfl hearly hhalt (.inr hmoves) (.inl hstill), hadvance, hbuild, hop, hderived.trans hnew⟩

/-- A first build claim beside the advance claim (R165, R167). -/
theorem buildClaimed_run (hearly : s.modes.mode ≠ .uncommissioned)
    (hmode : s.modes.mode = derivedMode s.modes.advance .absent)
    (hc : c = buildClaimBeside s.modes.advance (mayStandTogether s)) :
    BlocksRun [] [] [.modes] s (buildClaimed c s) ∧ (buildClaimed c s).modes.build = c ∧
      (buildClaimed c s).modes.advance = s.modes.advance ∧
      (buildClaimed c s).modes.operatorHalt = s.modes.operatorHalt ∧
      (buildClaimed c s).modes.mode =
        if s.modes.advance = .held then (if c = .held then .continuous else .advance) else .build := by
  have hhalt : s.modes.mode ≠ .halted := by
    rw [hmode]
    exact derivedMode_ne_halted _ _
  have hnew : derivedMode s.modes.advance c =
      if s.modes.advance = .held then (if c = .held then .continuous else .advance) else .build := by
    by_cases ha : s.modes.advance = .held
    · rw [ha, derivedMode_held, if_pos rfl]
    · have hheld : c = .held := hc.trans (if_neg fun h => ha h.1)
      rw [derivedMode_not_held ha, if_pos hheld, if_neg ha]
  have hmoves : stands (derivedMode s.modes.advance c) = false := by
    rw [hnew]
    split
    · split <;> rfl
    · rfl
  have hstops : advancing s.modes.mode = false ∨ advancing (derivedMode s.modes.advance c) = true := by
    by_cases ha : s.modes.advance = .held
    · rw [hnew, if_pos ha]
      right
      split <;> rfl
    · left
      rw [hmode, derivedMode_not_held ha]
      rfl
  obtain ⟨hadvance, hbuild, hop, hderived⟩ := claimsChanged_modes (cause := .claim)
    (s := { s with modes := { s.modes with build := c } }) hearly hhalt
  exact ⟨claimsChanged_run _ _ rfl hearly hhalt (.inr hmoves) hstops, hbuild, hadvance, hop, hderived.trans hnew⟩

end Taken

/-- Settles O39. -/
theorem claimsTaken : Obligations.ClaimsTaken := by
  refine ⟨fun s f c hasks hcomm => ?_, fun s f c hasks hcomm => ?_⟩
  · have hx := exec_claimAdvance .drive s
    have hanswers := fun {code fields} => exec_answers (code := code) (fields := fields) hx hasks rfl (.inl hcomm)
    have hearly := (commissioned_iff s).mp hcomm
    refine ⟨fun h => hanswers (takeClaimAdvance_of_halted (s := taken .drive s) h),
      fun h ha => hanswers (takeClaimAdvance_of_repeated (s := taken .drive s) h ha),
      fun h ha ho hb => hanswers (takeClaimAdvance_of_open (s := taken .drive s) h ha ho hb),
      fun h ha ho hmode hc => ?_⟩
    obtain ⟨hrun, hadvance, hbuild, hop, hnew⟩ :=
      advanceClaimed_run (s := taken .drive s) (c := c) hearly h hmode hc
    obtain ⟨t, ht, hserved, hconds, hcarries⟩ := exec_runs hx hasks rfl (.inl hcomm)
      (takeClaimAdvance_of_free (s := taken .drive s) h ha ho hc) hrun (List.forall_mem_nil _)
    rw [hadvance, ← hcarries.modes] at hserved
    refine ⟨t, ht, hserved, hconds, ?_, ?_, ?_, ?_⟩ <;> rw [hcarries.modes]
    · exact hadvance
    · exact hbuild
    · exact hop
    · exact hnew
  · have hx := exec_claimBuild .erector s
    have hearly := (commissioned_iff s).mp hcomm
    refine ⟨fun hb => exec_answers hx hasks rfl (.inl hcomm) (takeClaimBuild_of_repeated (s := taken .erector s) hb),
      fun hb hhalt ha => ?_, fun hb hmode hc => ?_⟩
    · have hheld : Claim.held = buildClaimBeside s.modes.advance (mayStandTogether s) :=
        (if_neg fun h => by simp [ha] at h).symm
      have hstay : buildClaimed .held (taken .erector s) =
          { taken .erector s with modes := { s.modes with build := .held } } := claimsChanged_of_halted hhalt
      have htake := takeClaimBuild_of_absent (s := taken .erector s) hb hheld
      rw [hstay] at htake
      obtain ⟨t, ht, hserved, hconds, hcarries⟩ := exec_acts hx hasks rfl (.inl hcomm) htake
        (acts_of_modes { s.modes with build := .held } (taken .erector s)) (List.forall_mem_nil _)
      have hcode : s.modes.mode.code = 1 := by rw [hhalt]; rfl
      have hserved' : Served .erector f .done [.u8 1, .u8 s.modes.mode.code] [] [.modes] s t := hserved
      exact ⟨t, ht, by rwa [hcode] at hserved', hconds, hcarries.modes⟩
    · obtain ⟨hrun, hbuild, hadvance, hop, hnew⟩ := buildClaimed_run (s := taken .erector s) (c := c) hearly hmode hc
      obtain ⟨t, ht, hserved, hconds, hcarries⟩ := exec_runs hx hasks rfl (.inl hcomm)
        (takeClaimBuild_of_absent (s := taken .erector s) hb hc) hrun (List.forall_mem_nil _)
      rw [hbuild, ← hcarries.modes] at hserved
      refine ⟨t, ht, hserved, hconds, ?_, ?_, ?_, ?_⟩ <;> rw [hcarries.modes]
      · exact hbuild
      · exact hadvance
      · exact hop
      · exact hnew

/-! ## DROP ADVANCE and DROP BUILD (R166) -/

theorem exec_dropAdvance (p : Port) (s : State) :
    exec (.dropAdvance p) s = .next (request 8 [.drive] false readNothing takeDropAdvance p s) := rfl

theorem exec_dropBuild (p : Port) (s : State) :
    exec (.dropBuild p) s = .next (request 15 [.erector] false readNothing takeDropBuild p s) := rfl

/-- The part after a HELD advance claim has been dropped. -/
def advanceDropped (s : State) : State :=
  claimsChanged .drop { s with modes := { s.modes with advance := .absent, build := s.modes.build.granted } }

/-- The part after a HELD build claim has been dropped. -/
def buildDropped (s : State) : State :=
  claimsChanged .drop { s with modes := { s.modes with build := .absent, advance := s.modes.advance.granted } }

section Drop
variable {s : State}

theorem takeDropAdvance_of_absent (h : s.modes.advance = .absent) :
    takeDropAdvance () s = .answer .done [.u8 0, .u8 s.modes.build.code, .u8 s.modes.mode.code] := by
  simp [takeDropAdvance, h, dropFields, Claim.code]

theorem takeDropAdvance_of_pending (h : s.modes.advance = .pending) :
    takeDropAdvance () s = .act { s with modes := { s.modes with advance := .absent } } .done
      [.u8 0, .u8 s.modes.build.code, .u8 s.modes.mode.code] := by
  simp [takeDropAdvance, h, dropFields, Claim.code]

theorem takeDropAdvance_of_held (h : s.modes.advance = .held) :
    takeDropAdvance () s = .act (advanceDropped s) .done (dropFields (advanceDropped s).modes) := by
  simp only [takeDropAdvance, h]
  rfl

theorem takeDropBuild_of_absent (h : s.modes.build = .absent) :
    takeDropBuild () s = .answer .done [.u8 s.modes.advance.code, .u8 0, .u8 s.modes.mode.code] := by
  simp [takeDropBuild, h, dropBuildFields, Claim.code]

theorem takeDropBuild_of_pending (h : s.modes.build = .pending) :
    takeDropBuild () s = .act { s with modes := { s.modes with build := .absent } } .done
      [.u8 s.modes.advance.code, .u8 0, .u8 s.modes.mode.code] := by
  simp [takeDropBuild, h, dropBuildFields, Claim.code]

theorem takeDropBuild_of_progress (h : s.modes.build = .held)
    (hp : s.stack.entries ≠ [] ∨ s.ring.state = .building ∨ s.ring.state = .closing ∨ s.ring.state = .aborting) :
    takeDropBuild () s = .answer .state [.u8 16, .u8 s.stack.entries.length, .u8 s.ring.state.code] := by
  have hprogress : buildInProgress s = true := by simpa [buildInProgress, or_assoc] using hp
  simp [takeDropBuild, h, hprogress, stateRefusal]

theorem takeDropBuild_of_free (h : s.modes.build = .held) (he : s.stack.entries = [])
    (hr : s.ring.state = .idle ∨ s.ring.state = .armed) :
    takeDropBuild () s = .act (buildDropped s) .done (dropBuildFields (buildDropped s).modes) := by
  have hprogress : buildInProgress s = false := by
    obtain hr | hr := hr <;> simp [buildInProgress, he, hr]
  simp only [takeDropBuild, h, hprogress, Bool.false_eq_true, if_false]
  rfl

end Drop

/-! ## The selection at an entry into a mode in which the machine stands (R10, R168) -/

/-- From `s` to `t` a pending selection becomes active where `entered` says that a mode was entered in which the machine
stands, unless the held groups defer it. -/
structure SelectionTested (entered : Prop) (s t : State) : Prop where
  due     : ∀ n, s.store.pendingProfile = some n → entered → heldGroups s ≤ s.store.profiles[n].releaseBuild →
    t.store = { s.store with active := n, pendingProfile := none }
  waiting : (∀ n, s.store.pendingProfile = some n → entered → s.store.profiles[n].releaseBuild < heldGroups s) →
    t.store = s.store

theorem enterMode_selection {m : Mode} {cause : ModeCause} {s : State} (h : s.modes.mode ≠ m) :
    SelectionTested (stands m = true) s (enterMode m cause s) where
  due _ hpend hm hheld := enterMode_store_of_due h hm hpend hheld
  waiting hwait := enterMode_store_of_waiting fun hm n hpend => hwait n hpend hm

theorem SelectionTested.congr {entered entered' : Prop} {s s' t t' : State} (h : SelectionTested entered s t)
    (he : entered' ↔ entered) (hs : s'.store = s.store) (hg : s'.groups = s.groups) (ht : t'.store = t.store) :
    SelectionTested entered' s' t' where
  due n hpend hm hheld := by
    rw [ht, hs]
    rw [hs, heldGroups_congr hg] at hheld
    exact h.due n (hs ▸ hpend) (he.mp hm) hheld
  waiting hwait := by
    rw [ht, hs]
    refine h.waiting fun n hpend hm => ?_
    have hlt := hwait n (hs ▸ hpend) (he.mpr hm)
    rwa [hs, heldGroups_congr hg] at hlt

theorem stands_derivedMode (a b : Claim) : stands (derivedMode a b) = true ↔ derivedMode a b = .standstill := by
  cases a <;> cases b <;> decide

/-- A claim dropped: the mode follows, and with an entry into STANDSTILL the selection is tested. -/
theorem claimsChanged_selection {s : State} {cause : ModeCause} (hearly : s.modes.mode ≠ .uncommissioned)
    (hhalt : s.modes.mode ≠ .halted) (hne : s.modes.mode ≠ derivedMode s.modes.advance s.modes.build) :
    SelectionTested ((claimsChanged cause s).modes.mode = .standstill) s (claimsChanged cause s) := by
  have hmode := (claimsChanged_modes (cause := cause) hearly hhalt).2.2.2
  rw [claimsChanged_of_following hearly hhalt] at hmode ⊢
  exact (enterMode_selection hne).congr (by rw [hmode, stands_derivedMode]) rfl rfl rfl

/-! ## The cutterhead at the end of an advance (R146) -/

/-- A switch leaves the run state of a cutterhead that neither turns nor is rocked. -/
theorem switchUnits_run {s : State} (n : Fin 4) (h : turning s.cutter.run = false) (hr : s.cutter.run ≠ .rocking) :
    (switchUnits n s).cutter.run = s.cutter.run := by
  unfold switchUnits stopIfMotorsLow
  split
  · rw [forcedStop_run]
    simp [updateTorque, h, hr]
  · simp [updateTorque]

theorem switchTest_run {s : State} (hm : s.modes.mode ≠ .continuous) (h : turning s.cutter.run = false)
    (hr : s.cutter.run ≠ .rocking) : (switchTest s).cutter.run = s.cutter.run := by
  obtain he | ⟨n, he⟩ := switchTest_cases s <;> rw [he]
  rw [makeSwitch_cutter n hm, switchUnits_run n h hr]

/-- The mode leaves ADVANCE or CONTINUOUS for one in which the cutterhead may not turn. -/
theorem enterMode_run {m : Mode} {cause : ModeCause} {s : State} (ha : advancing s.modes.mode = true)
    (hm : advancing m = false) : (enterMode m cause s).cutter.run =
      if turning s.cutter.run then .stopping else if s.cutter.run = .rocking then .jammed else s.cutter.run := by
  have hne : s.modes.mode ≠ m := by
    rintro rfl
    simp [ha] at hm
  have hchange : (changeMode m cause s).cutter.run =
      if turning s.cutter.run then .stopping else if s.cutter.run = .rocking then .jammed else s.cutter.run := by
    unfold changeMode
    rw [if_neg hne]
    simp only [ha, hm, Bool.not_false, Bool.and_self, if_true, evalConditions_frame]
    exact forcedStop_run _
  cases hs : stands m
  · rw [enterMode_of_moves hne hs, hchange]
  · have hmode : (changeMode m cause s).modes.mode = m := by rw [changeMode_modes hne]; rfl
    rw [enterMode_of_stands hne hs, switchTest_run _ _ _, hchange]
    · rw [hmode]
      exact not_continuous_of_stands hs
    · rw [hchange]
      split_ifs <;> simp_all [turning]
    · rw [hchange]
      split_ifs <;> simp_all

/-! ## The drop of a HELD claim -/

section Dropped
variable {s : State}

theorem stands_advanceDropped (s : State) : Stands s (advanceDropped s) :=
  ⟨by simp [advanceDropped], by simp [advanceDropped], by simp [advanceDropped], by simp [advanceDropped]⟩

theorem stands_buildDropped (s : State) : Stands s (buildDropped s) :=
  ⟨by simp [buildDropped], by simp [buildDropped], by simp [buildDropped], by simp [buildDropped]⟩

theorem granted_eq (c : Claim) : c.granted = if c = .pending then .held else c := rfl

/-- The mode unit after the drop of a HELD advance claim. -/
theorem advanceDropped_modes (hearly : s.modes.mode ≠ .uncommissioned) (hhalt : s.modes.mode ≠ .halted) :
    (advanceDropped s).modes.advance = .absent ∧ (advanceDropped s).modes.build = s.modes.build.granted ∧
    (advanceDropped s).modes.mode = if s.modes.build.granted = .held then .build else .standstill := by
  obtain ⟨hadvance, hbuild, -, hmode⟩ := claimsChanged_modes (cause := .drop)
    (s := { s with modes := { s.modes with advance := .absent, build := s.modes.build.granted } }) hearly hhalt
  exact ⟨hadvance, hbuild, hmode.trans (derivedMode_not_held (by nofun) _)⟩

/-- The mode unit after the drop of a HELD build claim. -/
theorem buildDropped_modes (hearly : s.modes.mode ≠ .uncommissioned) (hhalt : s.modes.mode ≠ .halted) :
    (buildDropped s).modes.build = .absent ∧ (buildDropped s).modes.advance = s.modes.advance.granted ∧
    (buildDropped s).modes.mode = if s.modes.advance.granted = .held then .advance else .standstill := by
  obtain ⟨hadvance, hbuild, -, hmode⟩ := claimsChanged_modes (cause := .drop)
    (s := { s with modes := { s.modes with build := .absent, advance := s.modes.advance.granted } }) hearly hhalt
  refine ⟨hbuild, hadvance, hmode.trans ?_⟩
  show derivedMode s.modes.advance.granted .absent = _
  split
  · rename_i h
    rw [h]
    rfl
  · rename_i h
    rw [derivedMode_not_held h]
    rfl

theorem advanceDropped_selection (hearly : s.modes.mode ≠ .uncommissioned)
    (hmode : s.modes.mode = derivedMode .held s.modes.build) :
    SelectionTested ((advanceDropped s).modes.mode = .standstill) s (advanceDropped s) := by
  have hhalt : s.modes.mode ≠ .halted := hmode ▸ derivedMode_ne_halted _ _
  have hne : s.modes.mode ≠ derivedMode .absent s.modes.build.granted := by
    rw [hmode]
    cases s.modes.build <;> simp [derivedMode, Claim.granted]
  exact (claimsChanged_selection (cause := .drop)
    (s := { s with modes := { s.modes with advance := .absent, build := s.modes.build.granted } })
    hearly hhalt hne).congr Iff.rfl rfl rfl rfl

theorem buildDropped_selection (hearly : s.modes.mode ≠ .uncommissioned)
    (hmode : s.modes.mode = derivedMode s.modes.advance .held) :
    SelectionTested ((buildDropped s).modes.mode = .standstill) s (buildDropped s) := by
  have hhalt : s.modes.mode ≠ .halted := hmode ▸ derivedMode_ne_halted _ _
  have hne : s.modes.mode ≠ derivedMode s.modes.advance.granted .absent := by
    rw [hmode]
    cases s.modes.advance <;> simp [derivedMode, Claim.granted]
  exact (claimsChanged_selection (cause := .drop)
    (s := { s with modes := { s.modes with build := .absent, advance := s.modes.advance.granted } })
    hearly hhalt hne).congr Iff.rfl rfl rfl rfl

theorem advanceDropped_run (hearly : s.modes.mode ≠ .uncommissioned) (hmode : s.modes.mode = derivedMode .held s.modes.build) :
    (advanceDropped s).cutter.run =
      if turning s.cutter.run then .stopping else if s.cutter.run = .rocking then .jammed else s.cutter.run := by
  have hhalt : s.modes.mode ≠ .halted := hmode ▸ derivedMode_ne_halted _ _
  have hmoves : advancing s.modes.mode = true := by
    rw [hmode, derivedMode_held]
    split <;> rfl
  have hrests : advancing (derivedMode .absent s.modes.build.granted) = false := by
    rw [derivedMode_not_held (by nofun)]
    split <;> rfl
  have hfollow : advanceDropped s = enterMode (derivedMode .absent s.modes.build.granted) .drop
      { s with modes := { s.modes with advance := .absent, build := s.modes.build.granted } } :=
    claimsChanged_of_following (s := { s with modes := { s.modes with advance := .absent, build := s.modes.build.granted } })
      hearly hhalt
  rw [hfollow]
  exact enterMode_run
    (s := { s with modes := { s.modes with advance := .absent, build := s.modes.build.granted } }) hmoves hrests

theorem advanceDropped_of_halted (h : s.modes.mode = .halted) : advanceDropped s =
    { s with modes := { s.modes with advance := .absent, build := s.modes.build.granted } } := claimsChanged_of_halted h

theorem buildDropped_of_halted (h : s.modes.mode = .halted) : buildDropped s =
    { s with modes := { s.modes with build := .absent, advance := s.modes.advance.granted } } := claimsChanged_of_halted h

end Dropped

/-- Settles O40. -/
theorem claimsDropped : Obligations.ClaimsDropped := by
  refine ⟨fun s f hasks hcomm => ?_, fun s f hasks hcomm => ?_⟩
  · have hx := exec_dropAdvance .drive s
    have hearly := (commissioned_iff s).mp hcomm
    refine ⟨fun ha => exec_answers hx hasks rfl (.inl hcomm) (takeDropAdvance_of_absent (s := taken .drive s) ha),
      fun ha => ?_, fun ha hmode => ?_, fun ha hhalt => ?_⟩
    · obtain ⟨t, ht, hserved, hconds, hcarries⟩ := exec_acts hx hasks rfl (.inl hcomm)
        (takeDropAdvance_of_pending (s := taken .drive s) ha) (acts_of_modes _ _) (List.forall_mem_nil _)
      exact ⟨t, ht, hserved, hconds, hcarries.modes⟩
    · obtain ⟨t, ht, hstands, hsent, hcarries, -⟩ := exec_works hx hasks rfl (.inl hcomm)
        (takeDropAdvance_of_held (s := taken .drive s) ha) (stands_advanceDropped _)
      have hhalt : s.modes.mode ≠ .halted := hmode ▸ derivedMode_ne_halted _ _
      obtain ⟨hadvance, hbuild, hnew⟩ := advanceDropped_modes (s := taken .drive s) hearly hhalt
      have hsel := (advanceDropped_selection (s := taken .drive s) hearly hmode).congr
        (s' := s) (t' := t) (by rw [← hcarries.modes]) rfl rfl hcarries.store
      rw [← hcarries.modes] at hadvance hbuild hnew hsent
      refine ⟨t, ht, hstands, ?_, hadvance, hbuild, ?_, ?_, ?_, fun n hn hm hh => hsel.due n hn hm hh, hsel.waiting, ?_⟩
      · rw [hsent, dropFields, hadvance]
        rfl
      · rw [hnew, hbuild]
      · rw [hcarries.groups]
        simp [advanceDropped]
      · rw [hcarries.ring]
        simp [advanceDropped]
      · rw [hcarries.cutter]
        exact advanceDropped_run (s := taken .drive s) hearly hmode
    · have htake := takeDropAdvance_of_held (s := taken .drive s) ha
      rw [advanceDropped_of_halted (s := taken .drive s) hhalt] at htake
      obtain ⟨t, ht, hserved, hconds, hcarries⟩ := exec_acts hx hasks rfl (.inl hcomm) htake
        (acts_of_modes _ _) (List.forall_mem_nil _)
      have hmodes : t.modes = { s.modes with advance := .absent, build := s.modes.build.granted } := hcarries.modes
      have hcode : s.modes.mode.code = 1 := by rw [hhalt]; rfl
      refine ⟨t, ht, ?_, hconds, hmodes⟩
      rw [hmodes, ← hcode]
      exact hserved
  · have hx := exec_dropBuild .erector s
    have hearly := (commissioned_iff s).mp hcomm
    refine ⟨fun hb => exec_answers hx hasks rfl (.inl hcomm) (takeDropBuild_of_absent (s := taken .erector s) hb),
      fun hb => ?_, fun hb hp => exec_answers hx hasks rfl (.inl hcomm)
        (takeDropBuild_of_progress (s := taken .erector s) hb hp), fun hb he hr hmode => ?_, fun hb he hr hhalt => ?_⟩
    · obtain ⟨t, ht, hserved, hconds, hcarries⟩ := exec_acts hx hasks rfl (.inl hcomm)
        (takeDropBuild_of_pending (s := taken .erector s) hb) (acts_of_modes _ _) (List.forall_mem_nil _)
      exact ⟨t, ht, hserved, hconds, hcarries.modes⟩
    · obtain ⟨t, ht, hstands, hsent, hcarries, -⟩ := exec_works hx hasks rfl (.inl hcomm)
        (takeDropBuild_of_free (s := taken .erector s) hb he hr) (stands_buildDropped _)
      have hhalt : s.modes.mode ≠ .halted := hmode ▸ derivedMode_ne_halted _ _
      obtain ⟨hbuild, hadvance, hnew⟩ := buildDropped_modes (s := taken .erector s) hearly hhalt
      have hsel := (buildDropped_selection (s := taken .erector s) hearly hmode).congr
        (s' := s) (t' := t) (by rw [← hcarries.modes]) rfl rfl hcarries.store
      rw [← hcarries.modes] at hadvance hbuild hnew hsent
      refine ⟨t, ht, hstands, ?_, hbuild, hadvance, ?_, ?_, ?_, fun n hn hm hh => hsel.due n hn hm hh, hsel.waiting⟩
      · rw [hsent, dropBuildFields, hbuild]
        rfl
      · rw [hnew, hadvance]
      · rw [hcarries.groups]
        simp [buildDropped]
      · rw [hcarries.ring]
        simp [buildDropped]
    · have htake := takeDropBuild_of_free (s := taken .erector s) hb he hr
      rw [buildDropped_of_halted (s := taken .erector s) hhalt] at htake
      obtain ⟨t, ht, hserved, hconds, hcarries⟩ := exec_acts hx hasks rfl (.inl hcomm) htake
        (acts_of_modes _ _) (List.forall_mem_nil _)
      have hmodes : t.modes = { s.modes with build := .absent, advance := s.modes.advance.granted } := hcarries.modes
      have hcode : s.modes.mode.code = 1 := by rw [hhalt]; rfl
      refine ⟨t, ht, ?_, hconds, hmodes⟩
      rw [hmodes, ← hcode]
      exact hserved

/-! ## HALT and HALT CLEAR (R169, R170) -/

theorem exec_halt (p : Port) (s : State) :
    exec (.halt p) s = .next (request 36 [.cabin] false readNothing takeHalt p s) := rfl

theorem exec_haltClear (p : Port) (s : State) :
    exec (.haltClear p) s = .next (request 37 [.cabin] false readNothing takeHaltClear p s) := rfl

section Halt
variable {s : State}

theorem haltMachine_of_halted (h : s.modes.mode = .halted) : haltMachine s = s := if_pos (.inr h)

theorem haltMachine_of_running (hearly : s.modes.mode ≠ .uncommissioned) (hhalt : s.modes.mode ≠ .halted) :
    haltMachine s = enterMode .halted .halt { s with modes := s.modes.claimsAtHalt } := if_neg (not_or.mpr ⟨hearly, hhalt⟩)

/-- The mode unit of a part that is halted. -/
theorem haltMachine_modes (hearly : s.modes.mode ≠ .uncommissioned) (hhalt : s.modes.mode ≠ .halted) :
    (haltMachine s).modes = s.modes.claimsAtHalt.entered .halted .halt := by
  rw [haltMachine_of_running hearly hhalt]
  exact enterMode_modes (s := { s with modes := s.modes.claimsAtHalt }) hhalt

theorem haltMachine_mode (hearly : s.modes.mode ≠ .uncommissioned) : (haltMachine s).modes.mode = .halted := by
  by_cases hhalt : s.modes.mode = .halted
  · rw [haltMachine_of_halted hhalt, hhalt]
  · rw [haltMachine_modes hearly hhalt]
    rfl

theorem haltMachine_operatorHalt (hearly : s.modes.mode ≠ .uncommissioned) :
    (haltMachine s).modes.operatorHalt = s.modes.operatorHalt := by
  by_cases hhalt : s.modes.mode = .halted
  · rw [haltMachine_of_halted hhalt]
  · rw [haltMachine_modes hearly hhalt]
    rfl

/-- At the entry into HALTED the selection is tested (R10, R168). -/
theorem haltMachine_selection (hearly : s.modes.mode ≠ .uncommissioned) :
    SelectionTested (s.modes.mode ≠ .halted) s (haltMachine s) := by
  by_cases hhalt : s.modes.mode = .halted
  · rw [haltMachine_of_halted hhalt]
    exact ⟨fun _ _ hne => absurd hhalt hne, fun _ => rfl⟩
  · rw [haltMachine_of_running hearly hhalt]
    exact (enterMode_selection (s := { s with modes := s.modes.claimsAtHalt }) hhalt).congr
      (iff_of_true hhalt rfl) rfl rfl rfl

theorem haltMachine_run (ha : advancing s.modes.mode = true) : (haltMachine s).cutter.run =
    if turning s.cutter.run then .stopping else if s.cutter.run = .rocking then .jammed else s.cutter.run := by
  have hearly : s.modes.mode ≠ .uncommissioned := by
    intro h
    simp [h, advancing] at ha
  have hhalt : s.modes.mode ≠ .halted := by
    intro h
    simp [h, advancing] at ha
  rw [haltMachine_of_running hearly hhalt]
  exact enterMode_run (s := { s with modes := s.modes.claimsAtHalt }) ha rfl

theorem stands_haltMachine (s : State) (b : Bool) : Stands s (haltMachine (setOperatorHalt b s)) :=
  ⟨by simp [setOperatorHalt], by simp [setOperatorHalt], by simp [setOperatorHalt], by simp [setOperatorHalt]⟩

theorem operatorHalt_active (h : s.modes.operatorHalt = true) :
    ((CondName.operatorHalt, none) : CondKey) ∈ activeHalts s :=
  (mem_activeHalts s _).mpr ⟨by decide, h, rfl⟩

/-- The part after a HALT CLEAR that is not refused (R170). -/
def haltLeft (s : State) : State := deriveMode .haltClear (setOperatorHalt false s)

theorem haltLeft_modes (h : s.modes.mode = .halted) : (haltLeft s).modes =
    { s.modes with operatorHalt := false }.entered (derivedMode s.modes.advance s.modes.build) .haltClear := by
  have hne : s.modes.mode ≠ derivedMode s.modes.advance s.modes.build := by
    rw [h]
    exact (derivedMode_ne_halted _ _).symm
  exact enterMode_modes (s := setOperatorHalt false s) hne

theorem haltLeft_selection (h : s.modes.mode = .halted) :
    SelectionTested ((haltLeft s).modes.mode = .standstill) s (haltLeft s) := by
  have hne : s.modes.mode ≠ derivedMode s.modes.advance s.modes.build := by
    rw [h]
    exact (derivedMode_ne_halted _ _).symm
  have hiff : (haltLeft s).modes.mode = .standstill ↔ stands (derivedMode s.modes.advance s.modes.build) = true := by
    rw [haltLeft_modes h, stands_derivedMode]
    rfl
  exact (enterMode_selection (s := setOperatorHalt false s) hne).congr hiff rfl rfl rfl

/-- With no other HALT-class condition active none is active once the operator's halt is cleared. -/
theorem haltLeft_activeHalts (h : s.modes.mode = .halted) (hother : otherHalt s = false) : activeHalts (haltLeft s) = [] := by
  by_contra hne
  have hactive := (activeHalts_ne_nil_iff _).mp hne
  have hflags : (haltLeft s).stack.full = s.stack.full ∧ (haltLeft s).stack.fullClass = s.stack.fullClass :=
    enterMode_stackFlags (s := setOperatorHalt false s)
  have hlinks : (haltLeft s).links = s.links := by simp [haltLeft, setOperatorHalt]
  have hop : (haltLeft s).modes.operatorHalt = false := by
    rw [haltLeft_modes h]
    rfl
  obtain hactive | hactive := hactive
  · simp [hop] at hactive
  · rw [hflags.1, hflags.2, linkOf_of_links hlinks] at hactive
    exact otherHalt_eq_false hother hactive

theorem stands_haltLeft (s : State) : Stands s (haltLeft s) :=
  ⟨by simp [haltLeft, setOperatorHalt], by simp [haltLeft, setOperatorHalt], by simp [haltLeft, setOperatorHalt],
    by simp [haltLeft, setOperatorHalt]⟩

theorem takeHaltClear_of_running (h : s.modes.mode ≠ .halted) : takeHaltClear () s = .answer .state [.u8 17] := if_pos h

theorem takeHaltClear_of_other (h : s.modes.mode = .halted) (ho : otherHalt s = true) :
    takeHaltClear () s = .answer .state (.u8 18 :: listFields keyFields (activeHalts s)) :=
  (if_neg (not_not_intro h)).trans (if_pos ho)

theorem takeHaltClear_of_free (h : s.modes.mode = .halted) (ho : otherHalt s = false) :
    takeHaltClear () s = .act (haltLeft s) .done [.u8 (haltLeft s).modes.mode.code] :=
  (if_neg (not_not_intro h)).trans (if_neg (by simp [ho]))

end Halt

theorem otherHalt_taken (p : Port) (s : State) : otherHalt (taken p s) = otherHalt s := by
  rw [otherHalt, activeHalts_taken]
  rfl

/-- Settles O41. -/
theorem haltTakenAndCleared : Obligations.HaltTakenAndCleared := by
  refine ⟨fun s f hasks hcomm => ?_, fun s f hasks hcomm => ⟨fun h => ?_, fun h ho => ?_, fun h ho => ?_⟩⟩
  · have hearly := (commissioned_iff s).mp hcomm
    obtain ⟨t, ht, hstands, hsent, hcarries, -⟩ := exec_works (exec_halt .cabin s) hasks rfl (.inl hcomm)
      (show takeHalt () (taken .cabin s) = .act (haltMachine (setOperatorHalt true (taken .cabin s))) .done _ from rfl)
      (stands_haltMachine (taken .cabin s) true)
    have hmode := haltMachine_mode (s := setOperatorHalt true (taken .cabin s)) hearly
    have hop := haltMachine_operatorHalt (s := setOperatorHalt true (taken .cabin s)) hearly
    have hsel := (haltMachine_selection (s := setOperatorHalt true (taken .cabin s)) hearly).congr
      (s' := s) (t' := t) Iff.rfl rfl rfl hcarries.store
    rw [hmode, ← hcarries.activeHalts] at hsent
    rw [← hcarries.modes] at hmode hop
    refine ⟨t, ht, hstands, hsent, hmode, hop, operatorHalt_active hop, fun hhalt => ?_, fun hhalt => ?_,
      fun ha hturn => ?_, hsel.due, hsel.waiting, ?_, ?_, ?_⟩
    · rw [hcarries.modes, haltMachine_of_halted (s := setOperatorHalt true (taken .cabin s)) hhalt]
      rfl
    · rw [hcarries.modes, haltMachine_modes (s := setOperatorHalt true (taken .cabin s)) hearly hhalt]
      exact ⟨rfl, rfl, rfl⟩
    · have hadv : advancing s.modes.mode = true := by obtain ha | ha := ha <;> rw [ha] <;> rfl
      rw [hcarries.cutter, haltMachine_run (s := setOperatorHalt true (taken .cabin s)) hadv]
      exact if_pos hturn
    · rw [hcarries.groups]
      simp [setOperatorHalt]
    · rw [hcarries.ring]
      simp [setOperatorHalt]
    · rw [hcarries.plan]
      simp [setOperatorHalt]
  · exact exec_answers (exec_haltClear .cabin s) hasks rfl (.inl hcomm) (takeHaltClear_of_running (s := taken .cabin s) h)
  · have hother : otherHalt s = true := by simpa [otherHalt] using ho
    rw [← activeHalts_taken .cabin s]
    exact exec_answers (exec_haltClear .cabin s) hasks rfl (.inl hcomm)
      (takeHaltClear_of_other (s := taken .cabin s) h ((otherHalt_taken .cabin s).trans hother))
  · have hother : otherHalt (taken .cabin s) = false := by
      rw [otherHalt_taken]
      simpa [otherHalt] using ho
    obtain ⟨t, ht, hstands, hsent, hcarries, -⟩ := exec_works (exec_haltClear .cabin s) hasks rfl (.inl hcomm)
      (takeHaltClear_of_free (s := taken .cabin s) h hother) (stands_haltLeft (taken .cabin s))
    have hmodes := haltLeft_modes (s := taken .cabin s) h
    have hsel := (haltLeft_selection (s := taken .cabin s) h).congr
      (s' := s) (t' := t) (by rw [← hcarries.modes]) rfl rfl hcarries.store
    rw [← hcarries.modes] at hmodes hsent
    refine ⟨t, ht, hstands, hsent, ?_, ?_, ?_, ?_, ?_, ?_, fun n hn hm hh => hsel.due n hn hm hh, hsel.waiting, ?_, ?_, ?_⟩
    · rw [hmodes]
      rfl
    · rw [hmodes]
      exact decide_eq_false (derivedMode_ne_halted _ _)
    · rw [hmodes]
      rfl
    · rw [hmodes]
      rfl
    · rw [hmodes]
      rfl
    · rw [hcarries.activeHalts]
      exact haltLeft_activeHalts (s := taken .cabin s) h hother
    · rw [hcarries.groups]
      simp [haltLeft, setOperatorHalt]
    · rw [hcarries.ring]
      simp [haltLeft, setOperatorHalt]
    · rw [hcarries.plan]
      simp [haltLeft, setOperatorHalt]

end Sys2Proof.Machine

/-! A full and an empty release stack (R54, R58), the constants (R3 to R5), supply (R14, R194). -/

namespace Sys2Proof.Machine

set_option Elab.async false

/-! ## A full and an empty stack -/

section Full
variable {s : State} {p : Fin 7}

theorem takeSegmentOpen_of_full (hb : builderRefusal p s = none) (hfull : 3 ≤ s.stack.entries.length) :
    takeSegmentOpen p.val s = .act (refuseFull s) .stackFull [] := by
  have hp : (Fin.ofNat 7 p.val) = p := Fin.ext (Nat.mod_eq_of_lt p.isLt)
  have hstack : stackRefusal p s = some (.act (refuseFull s) .stackFull []) := if_pos hfull
  simp only [takeSegmentOpen, p.isLt, if_true, hp, hb, hstack]

/-- The part with its stack-full flag set (R58). -/
def flagFull (s : State) : State :=
  { s with stack := { s.stack with full := true, fullClass := fullClassAfter s.stack (activeProfile s).stackPolicy } }

theorem refuseFull_of_halt (h : fullClassAfter s.stack (activeProfile s).stackPolicy = some .halt) :
    refuseFull s = haltMachine (flagFull s) := if_pos h

theorem refuseFull_of_limit (h : fullClassAfter s.stack (activeProfile s).stackPolicy ≠ some .halt) :
    refuseFull s = flagFull s := if_neg h

theorem haltMachine_stackFlags (s : State) :
    (haltMachine s).stack.full = s.stack.full ∧ (haltMachine s).stack.fullClass = s.stack.fullClass := by
  unfold haltMachine
  split
  · exact ⟨rfl, rfl⟩
  · exact enterMode_stackFlags (s := { s with modes := s.modes.claimsAtHalt })

theorem refuseFull_stackFlags (s : State) : (refuseFull s).stack.full = true ∧
    (refuseFull s).stack.fullClass = fullClassAfter s.stack (activeProfile s).stackPolicy := by
  by_cases h : fullClassAfter s.stack (activeProfile s).stackPolicy = some .halt
  · rw [refuseFull_of_halt h]
    exact haltMachine_stackFlags (flagFull s)
  · rw [refuseFull_of_limit h]
    exact ⟨rfl, rfl⟩

theorem stands_refuseFull (s : State) : Stands s (refuseFull s) := by
  by_cases h : fullClassAfter s.stack (activeProfile s).stackPolicy = some .halt
  · rw [refuseFull_of_halt h]
    exact ⟨by simp [flagFull], by simp [flagFull], by simp [flagFull], by simp [flagFull]⟩
  · rw [refuseFull_of_limit h]
    exact ⟨rfl, rfl, rfl, rfl⟩

theorem refuseFull_frame (s : State) : (refuseFull s).groups = s.groups ∧ (refuseFull s).ring = s.ring := by
  by_cases h : fullClassAfter s.stack (activeProfile s).stackPolicy = some .halt
  · rw [refuseFull_of_halt h]
    simp [flagFull]
  · rw [refuseFull_of_limit h]
    exact ⟨rfl, rfl⟩

theorem takeSegmentClose_of_empty {q : Nat} (o : CloseOutcome) (hq : q < 7) (hs : s.stack.entries = []) :
    takeSegmentClose (q, o) s = .act { s with stack := { s.stack with underflow := true } } .stackEmpty [] := by
  simp [takeSegmentClose, Nat.le_of_lt_succ hq, hs]

end Full

/-- Settles O33. -/
theorem fullAndEmptyStack : Obligations.FullAndEmptyStack := by
  refine ⟨fun s f p hasks hcomm hb hfull => ?_, fun s f q o hasks hcomm hq hs => ?_⟩
  · have hx := exec_segmentOpen .erector s
    have htake := takeSegmentOpen_of_full (s := taken .erector s) (p := p) hb hfull
    by_cases h : fullClassAfter s.stack (activeProfile s).stackPolicy = some .halt
    · obtain ⟨t, ht, hstands, hsent, hcarries, -⟩ := exec_works hx hasks rfl (.inl hcomm) htake
        (stands_refuseFull (taken .erector s))
      obtain ⟨hset, hclass⟩ := refuseFull_stackFlags (taken .erector s)
      obtain ⟨hgroups, hring⟩ := refuseFull_frame (taken .erector s)
      rw [← hcarries.stack] at hset hclass
      rw [← hcarries.groups] at hgroups
      rw [← hcarries.ring] at hring
      have hmode : t.modes.mode = .halted := by
        rw [hcarries.modes, refuseFull_of_halt (s := taken .erector s) h]
        exact haltMachine_mode (s := flagFull (taken .erector s)) ((commissioned_iff s).mp hcomm)
      refine ⟨t, ht, hsent, hstands, hset, hgroups, hring, fun _ => ⟨hclass.trans h, hmode⟩, fun hpol => ?_,
        fun hne => absurd (hclass.trans h) hne⟩
      rw [hclass]
      show fullClassAfter s.stack (activeProfile s).stackPolicy = _
      rw [hpol]
      rfl
    · rw [refuseFull_of_limit (s := taken .erector s) h] at htake
      obtain ⟨t, ht, hserved, -, hcarries⟩ := exec_acts hx hasks rfl (.inl hcomm) htake (acts_of_stack _ _)
        (List.forall_mem_nil _)
      have hstack : t.stack = (flagFull s).stack := hcarries.stack
      refine ⟨t, ht, by rw [hserved.sent]; rfl, hserved.stands, by rw [hstack]; rfl, hcarries.groups, hcarries.ring,
        fun hpol => ?_, fun hpol => ?_, fun _ => ⟨hserved, by rw [hstack]; rfl⟩⟩
      · rw [hpol] at h
        exact absurd rfl h
      · rw [hstack]
        show fullClassAfter s.stack (activeProfile s).stackPolicy = _
        rw [hpol]
        rfl
  · obtain ⟨t, ht, hserved, hconds, hcarries⟩ := exec_acts (exec_segmentClose .erector s) hasks rfl (.inl hcomm)
      (takeSegmentClose_of_empty (s := taken .erector s) o hq hs) (acts_of_stack _ _) (List.forall_mem_nil _)
    exact ⟨t, ht, hserved, hconds, hcarries.stack⟩

/-! ## CONSTANTS WRITE (R3, R4, R5) -/

theorem exec_constantsWrite (p : Port) (s : State) :
    exec (.constantsWrite p) s = .next (request 25 [.cabin] true readConstants takeConstants p s) := rfl

/-- What a taken CONSTANTS WRITE leaves. -/
def constantsTaken (c : Constants) (s : State) : State :=
  if s.modes.mode = .uncommissioned then commission (installConstants c s) else installConstants c s

section Constants
variable {s : State} {c : Constants}

theorem takeConstants_of_state (h : constantsWritable s = false) : takeConstants c s = .answer .state [.u8 0] := by
  simp [takeConstants, h, stateRefusal]

theorem takeConstants_of_range (h : constantsWritable s = true) (hc : constantsValid c = false) :
    takeConstants c s = .answer .range [] := by
  simp [takeConstants, h, hc]

theorem takeConstants_of_valid (h : constantsWritable s = true) (hc : constantsValid c = true) :
    takeConstants c s = .act (constantsTaken c s) .done [] := by
  simp [takeConstants, h, hc, constantsTaken]

theorem mode_of_writable (h : constantsWritable s = true) (hne : s.modes.mode ≠ .uncommissioned) :
    s.modes.mode = .standstill := by
  simp [constantsWritable, hne] at h
  exact h.1.1

/-- The mode entered at the end of UNCOMMISSIONED (R5). -/
theorem modeTaken_eq (s : State) : modeTaken s =
    enterMode (if activeHalts s = [] then derivedMode s.modes.advance s.modes.build else .halted) .commissioned
      { s with modes := if activeHalts s = [] then s.modes else s.modes.claimsAtHalt } := by
  unfold modeTaken deriveMode
  cases h : activeHalts s <;> simp

theorem modeTaken_mode (h : s.modes.mode = .uncommissioned) :
    (modeTaken s).modes.mode = if activeHalts s = [] then derivedMode s.modes.advance s.modes.build else .halted := by
  have hmode : (if activeHalts s = [] then s.modes else s.modes.claimsAtHalt).mode = .uncommissioned := by
    split
    · exact h
    · exact h
  rw [modeTaken_eq, enterMode_modes]
  · rfl
  · rw [hmode]
    split
    · exact (derivedMode_ne_uncommissioned _ _).symm
    · nofun

theorem modeTaken_entered (s : State) : ∃ m u, modeTaken s = enterMode m .commissioned { s with modes := u } :=
  ⟨_, _, modeTaken_eq s⟩

theorem switchTest_constants (s : State) : (switchTest s).store.constants = s.store.constants := by
  obtain he | ⟨n, he⟩ := switchTest_cases s <;> rw [he]
  rw [makeSwitch_store]

theorem enterMode_constants (m : Mode) (cause : ModeCause) (s : State) :
    (enterMode m cause s).store.constants = s.store.constants := by
  unfold enterMode
  split
  · rfl
  · simp only
    split
    · simp [switchTest_constants]
    · simp

theorem commission_frame (s : State) : (commission s).store.constants = s.store.constants ∧
    (commission s).groups = s.groups ∧ (commission s).account.prev = s.account.prev ∧ (commission s).ring = s.ring ∧
    (commission s).plan = s.plan := by
  obtain ⟨m, u, he⟩ := modeTaken_entered s
  rw [commission_eq, he]
  simp [updateGate, enterMode_constants, enterMode_prev]

theorem stands_commission (s : State) : Stands s (commission s) := by
  obtain ⟨m, u, he⟩ := modeTaken_entered s
  rw [commission_eq, he]
  exact ⟨by simp [updateGate], by simp [updateGate], by simp [updateGate], by simp [updateGate]⟩

theorem installConstants_frame (c : Constants) (s : State) : (installConstants c s).store.constants = some c ∧
    (installConstants c s).ring = s.ring ∧ (installConstants c s).plan = s.plan ∧
    (installConstants c s).modes = s.modes ∧ (installConstants c s).grout = s.grout ∧
    (installConstants c s).stack = s.stack ∧ (installConstants c s).links = s.links :=
  ⟨rfl, rfl, rfl, rfl, rfl, rfl, rfl⟩

theorem updateMean_mean (s : State) : (updateTorque (updateMean s)).account.thrustMean =
    meanOfThrust (updateTorque (updateMean s)).groups := rfl

theorem updateTorque_ceiling (s : State) : (updateTorque s).cutter.torqueCeiling = torqueCeilingOf (updateTorque s) := by
  have hin : inMotors (updateTorque s).cutter = inMotors s.cutter := rfl
  exact (torqueCeilingOf_congr (s := s) rfl rfl hin).symm

theorem installConstants_groups (c : Constants) (s : State) (g : Fin 16) : (installConstants c s).groups[g] =
    { s.groups[g] with lastStroke := min s.groups[g].lastStroke c.strokeMax } := by
  simp [installConstants, updateTorque, updateMean]

theorem installConstants_prev (c : Constants) (s : State) (g : Fin 16) : (installConstants c s).account.prev[g] =
    s.account.prev[g].map fun q => { q with stroke := min q.stroke c.strokeMax } := by
  simp [installConstants, updateTorque, updateMean]

/-- New constants alter no HALT-class condition (R169). -/
theorem installConstants_activeHalts (c : Constants) (s : State) :
    activeHalts (installConstants c s) = [] ↔ activeHalts s = [] := by
  rw [← not_iff_not]
  show activeHalts _ ≠ [] ↔ activeHalts _ ≠ []
  rw [activeHalts_ne_nil_iff, activeHalts_ne_nil_iff]
  exact Iff.rfl

theorem constantsTaken_frame (c : Constants) (s : State) : (constantsTaken c s).store.constants = some c ∧
    (constantsTaken c s).groups = (installConstants c s).groups ∧
    (constantsTaken c s).account.prev = (installConstants c s).account.prev ∧ (constantsTaken c s).ring = s.ring ∧
    (constantsTaken c s).plan = s.plan := by
  unfold constantsTaken
  split
  · obtain ⟨hconst, hgroups, hprev, hring, hplan⟩ := commission_frame (installConstants c s)
    exact ⟨hconst, hgroups, hprev, hring, hplan⟩
  · exact ⟨rfl, rfl, rfl, rfl, rfl⟩

theorem stands_constantsTaken (c : Constants) (s : State) : Stands s (constantsTaken c s) := by
  unfold constantsTaken
  split
  · obtain ⟨hpow, hnow, hpend, hch⟩ := stands_commission (installConstants c s)
    exact ⟨hpow, hnow, hpend, hch⟩
  · exact ⟨rfl, rfl, rfl, rfl⟩

theorem constantsTaken_mode (h : s.modes.mode = .uncommissioned) : (constantsTaken c s).modes.mode =
    if activeHalts s = [] then derivedMode s.modes.advance s.modes.build else .halted := by
  have htaken : (constantsTaken c s).modes.mode = (modeTaken (installConstants c s)).modes.mode := by
    unfold constantsTaken
    rw [if_pos h]
    rfl
  rw [htaken, modeTaken_mode (s := installConstants c s) h]
  simp only [installConstants_activeHalts]
  rfl

theorem constantsTaken_commissioned (c : Constants) (s : State) : commissioned (constantsTaken c s) = true := by
  rw [commissioned_iff]
  by_cases hmode : s.modes.mode = .uncommissioned
  · rw [constantsTaken_mode hmode]
    split
    · exact derivedMode_ne_uncommissioned _ _
    · nofun
  · unfold constantsTaken
    rw [if_neg hmode]
    exact hmode

end Constants

/-- Settles O22. -/
theorem constantsWritten : Obligations.ConstantsWritten := by
  intro s f c hasks
  have hx := exec_constantsWrite .cabin s
  refine ⟨fun h => exec_answers hx hasks rfl (.inr rfl) (takeConstants_of_state (s := taken .cabin s) h),
    fun h hc => exec_answers hx hasks rfl (.inr rfl) (takeConstants_of_range (s := taken .cabin s) h hc),
    fun h hc => ?_⟩
  obtain ⟨t, ht, hstands, hsent, hcarries, -⟩ := exec_works hx hasks rfl (.inr rfl)
    (takeConstants_of_valid (s := taken .cabin s) h hc) (stands_constantsTaken c (taken .cabin s))
  obtain ⟨hconst, hgroups, hprev, hring, hplan⟩ := constantsTaken_frame c (taken .cabin s)
  refine ⟨t, ht, hsent, hstands, by rw [hcarries.store, hconst], fun g => ?_, fun g => ?_, ?_, hcarries.ring.trans hring,
    hcarries.plan.trans hplan, fun hmode => ?_, fun hmode ha hb => ?_⟩
  · rw [hcarries.groups, hgroups]
    exact installConstants_groups c (taken .cabin s) g
  · rw [hcarries.account, hprev]
    exact installConstants_prev c (taken .cabin s) g
  · rw [commissioned, hcarries.modes]
    exact constantsTaken_commissioned c (taken .cabin s)
  · have htaken : constantsTaken c (taken .cabin s) = installConstants c (taken .cabin s) :=
      if_neg fun hc => by simp [hmode] at hc
    rw [htaken] at hcarries
    refine ⟨hcarries.modes, hcarries.grout, hcarries.stack, ?_, ?_⟩
    · rw [hcarries.account, hcarries.groups]
      exact updateMean_mean _
    · rw [hcarries.torqueCeilingOf, hcarries.cutter]
      exact updateTorque_ceiling _
  · rw [hcarries.modes, constantsTaken_mode (s := taken .cabin s) hmode, activeHalts_taken]
    show (if _ then derivedMode s.modes.advance s.modes.build else _) = _
    rw [ha, hb]
    rfl

/-! ## Supply (R14, R194) -/

theorem lookupRow_filter (rows : List (Nat × PlanRow)) (bad : List Nat) (i : Nat) :
    lookupRow (rows.filter fun r => !bad.contains r.1) i = if i ∈ bad then none else lookupRow rows i := by
  induction rows with
  | nil => simp [lookupRow]
  | cons r rows ih =>
    unfold lookupRow at *
    by_cases hbad : r.1 ∈ bad
    · by_cases hi : r.1 = i
      · subst hi
        simp [hbad] at ih ⊢
        exact ih
      · simp [hbad, hi] at ih ⊢
        exact ih
    · by_cases hi : r.1 = i
      · subst hi
        simp [hbad]
      · simp [hbad, hi] at ih ⊢
        exact ih

section Power
variable (failed : StoredFailures) (s : State)

theorem powerUp_plan : (powerUp failed s).plan = s.plan.atPowerOn failed := rfl

theorem atPowerOn_of_blank {k : PlanStore} (h : failed.base = true ∨ failed.cursor = true) :
    (k.atPowerOn failed).rows = [] ∧ (k.atPowerOn failed).base = 1 ∧ (k.atPowerOn failed).cursor = 1 ∧
      (k.atPowerOn failed).written = 0 := by
  have hblank : (failed.base || failed.cursor) = true := by simpa using h
  simp [PlanStore.atPowerOn, PlanStore.rowsAtPowerOn, PlanStore.writtenAtPowerOn, hblank]

theorem atPowerOn_of_kept {k : PlanStore} (hb : failed.base = false) (hc : failed.cursor = false) :
    (k.atPowerOn failed).base = k.base ∧ (k.atPowerOn failed).cursor = k.cursor ∧
      (k.atPowerOn failed).written =
        (if failed.written = true ∨ failed.rows ≠ [] then (k.atPowerOn failed).rows.length else k.written) ∧
      ∀ i, lookupRow (k.atPowerOn failed).rows i = if i ∈ failed.rows then none else lookupRow k.rows i := by
  refine ⟨?_, ?_, ?_, fun i => ?_⟩
  · simp [PlanStore.atPowerOn, hb, hc]
  · simp [PlanStore.atPowerOn, hb, hc]
  · simp [PlanStore.atPowerOn, PlanStore.writtenAtPowerOn, hb, hc]
  · rw [← lookupRow_filter]
    simp [PlanStore.atPowerOn, PlanStore.rowsAtPowerOn, hb, hc]

theorem powerUp_level (name : CondName) (subject : Option Nat) :
    level (powerUp failed s) name subject = level (blocksAtPowerOn failed s) name subject := by
  cases name <;> rfl

theorem powerUp_classOf (name : CondName) (subject : Option Nat) :
    classOf (powerUp failed s) name subject = classOf (blocksAtPowerOn failed s) name subject := by
  cases name <;> rfl

end Power

/-- Without supply no command but a power-on does anything (log 7). -/
theorem exec_of_unpowered {c : Instr} {s : State} (h : s.powered = false) (hc : ∀ failed, c ≠ .powerOn failed) :
    exec c s = .next (quiet s) := by
  have hserve : ∀ n carry p, serve n carry p s = quiet s := fun n carry p => by simp [serve, h]
  have hevent : ∀ effect : State → State, event effect s = quiet s := fun effect => by simp [event, h]
  have hexpiry : ∀ (due : Bool) (effect : State → State), expiry due effect s = quiet s := fun due effect => by
    simp [expiry, hevent]
  have harrival : ∀ p effect, arrival p effect s = quiet s := fun p effect => by simp [arrival, h]
  cases hn : requestId c with
  | some n =>
    obtain ⟨p, hp⟩ : ∃ p, portOf c = some p := by
      cases c <;> cases hn <;> exact ⟨_, rfl⟩
    obtain ⟨carry, hx⟩ := exists_serve hn hp s
    rw [hx, hserve]
  | none =>
    cases c
    case powerOn failed => exact absurd rfl (hc failed)
    case resetInput ms => exact congrArg _ (hevent _)
    case revolutionIndexPulse ms => exact congrArg _ (hevent _)
    case frameReceive p bytes => exact congrArg _ (harrival _ _)
    case frameTimeout p =>
      show Host.Outcome.next (if frameTimeoutDue p s then arrival p (receive p) s else quiet s) = _
      rw [harrival, ite_self]
    case unknownRequest p =>
      show Host.Outcome.next (if s.powered then answerUnknown p (quiet s) else quiet s) = _
      rw [h]
      rfl
    case supplyLoss =>
      show Host.Outcome.next { quiet s with powered := false } = _
      rw [← h]
      rfl
    case linkSilenceExpiry | retractTimerExpiry | releaseTimerExpiry | advanceSpeedExpiry | estimateLossExpiry |
      rampStep | deviationTimerExpiry | indexWatchExpiry | jamTimerExpiry | reversePhaseExpiry | forwardPhaseExpiry |
      eraseCompletion | rowCompletion =>
      exact congrArg _ (hexpiry _ _)
    all_goals cases hn

/-- Settles O20. -/
theorem supplyComesAndGoes : Obligations.SupplyComesAndGoes := by
  refine ⟨fun failed s => ⟨powerUp failed s, rfl, rfl, rfl, rfl, rfl, fun i => ?_, rfl, rfl, rfl, rfl,
    atPowerOn_of_blank failed, atPowerOn_of_kept failed, rfl, rfl, rfl, rfl, rfl, rfl, fun g => ?_, rfl, rfl, rfl, rfl, rfl, rfl,
    rfl, rfl, rfl, ?_, ?_, fun e he => ?_, fun p => ?_, rfl⟩, fun s => ⟨loseSupply s, rfl, rfl, rfl, ?_, rfl, rfl, rfl, rfl⟩,
    fun c s h hc => exec_of_unpowered h hc⟩
  · show (s.store.atPowerOn failed).profiles[i] = _
    simp [Store.atPowerOn]
  · simp [powerUp, blocksAtPowerOn]
  · exact (derivedFollow_powerUp failed s).permits
  · exact (derivedFollow_powerUp failed s).keys
  · obtain ⟨k, -, rfl⟩ := List.mem_map.mp (show e ∈ condKeys.map (entryAtPowerOn (blocksAtPowerOn failed s)) from he)
    exact ⟨(powerUp_level failed s _ _).symm, (powerUp_classOf failed s _ _).symm, rfl, rfl⟩
  · simp [linkOf, powerUp, blocksAtPowerOn]
  · intro b _
    cases b with
    | chamber => exact .inl rfl
    | _ => rfl

end Sys2Proof.Machine

/-! Ground profiles (chapter 1): PROFILE WRITE, PROFILE SELECT and the switch of a part that stands. -/

namespace Sys2Proof.Machine

set_option Elab.async false

/-! ## The screw of a part that does not advance (R126) -/

/-- The chamber record of a part that does not advance, once its permits are computed: held down while the cutterhead is
STOPPED. -/
def standingChamber (s : State) : Chamber := if s.cutter.run = .stopped then heldDown s s else s.chamber

theorem advancePermitOf_of_standing {s : State} (h : advancing s.modes.mode = false) :
    (advancePermitOf s).allowed = false := by
  have hceil : speedCeiling s = 0 := if_pos (by simp [advanceBlocked, h])
  simp [advancePermitOf, hceil]

theorem standingChamber_congr {s t : State} (hrun : t.cutter.run = s.cutter.run) (hchamber : t.chamber = s.chamber)
    (hprofile : activeProfile t = activeProfile s) : standingChamber t = standingChamber s := by
  simp only [standingChamber, heldDown, hrun, hchamber, hprofile]

/-- What a recomputation of the permits, or the end of the event, makes of the screw of a part that does not advance. -/
theorem standingChamber_closed {s t : State} (h : advancing s.modes.mode = false) (hin : SameInputs s t)
    (hp : t.permits = permitsOf t) (hc : t.chamber = if standstillLimit t then heldDown s t else s.chamber) :
    t.chamber = standingChamber s := by
  have hallow : (advancePermitOf t).allowed = false := advancePermitOf_of_standing (by rw [hin.modes, h])
  rw [hc, standstillLimit_of_permits hp, hallow, hin.cutter]
  simp only [standingChamber, heldDown, hin.profile]
  by_cases hrun : s.cutter.run = .stopped <;> simp [hrun]

theorem refresh_standing {s : State} (h : advancing s.modes.mode = false) :
    (refresh s).chamber = standingChamber s :=
  standingChamber_closed h (sameInputs_refresh s) (refresh_permits s) (refresh_chamber s)

theorem standingChamber_twice {s t : State} (hrun : t.cutter.run = s.cutter.run)
    (hprofile : activeProfile t = activeProfile s) (hchamber : t.chamber = standingChamber s) :
    standingChamber t = standingChamber s := by
  simp only [standingChamber, heldDown, hrun, hprofile, hchamber]
  by_cases h : s.cutter.run = .stopped <;> simp [h]

theorem standingChamber_refresh {s : State} (h : advancing s.modes.mode = false) :
    standingChamber (refresh s) = standingChamber s :=
  standingChamber_twice (by simp) (sameInputs_refresh s).profile (refresh_standing h)

theorem standingChamber_closeWhile (fuel : Nat) {s : State} (h : advancing s.modes.mode = false) :
    standingChamber (closeWhile fuel s) = standingChamber s := by
  induction fuel generalizing s with
  | zero => rfl
  | succ k ih =>
    unfold closeWhile
    split
    · have hclose : standingChamber (closureEffects s) = standingChamber s :=
        standingChamber_congr (by simp) (by simp) (by simp [activeProfile])
      rw [ih (by simpa [closeIncrement] using h), closeIncrement, standingChamber_refresh (by simpa using h), hclose]
    · rfl

/-- The screw after the switch of a part that does not advance: what the switch's own units give it, held down while the
cutterhead is STOPPED. -/
theorem makeSwitch_standing (n : Fin 4) {s : State} (h : advancing s.modes.mode = false) :
    (makeSwitch n s).chamber = standingChamber (switchUnits n s) := by
  have hkeep : ∀ u : State, advancing u.modes.mode = false → disallowContinuous u = u := by
    intro u hu
    refine if_neg fun hc => ?_
    rw [hc.1] at hu
    exact absurd hu (by decide)
  rw [makeSwitch_eq, hkeep _ (by simpa [judgeDebt] using h), refresh_standing (by simpa [judgeDebt] using h),
    standingChamber_closeWhile _ (by simpa [judgeDebt] using h)]
  exact standingChamber_congr (by simp [judgeDebt]) (by simp [judgeDebt]) (by simp [judgeDebt, activeProfile])

theorem Carries.standing {t r : State} (h : Carries t r) (hs : advancing t.modes.mode = false) :
    r.chamber = standingChamber t := by
  have hceil : (advancePermitOf t).allowed = false := advancePermitOf_of_standing hs
  have hlimit : standstillLimit r = decide (t.cutter.run = .stopped) := by
    simp [standstillLimit, h.permits, permitsOf, hceil, h.cutter]
  rw [h.chamber, hlimit]
  simp only [standingChamber, heldDown, h.profile]
  by_cases hrun : t.cutter.run = .stopped <;> simp [hrun]

/-! ## The units of a switch (R11) -/

section Units
variable {n : Fin 4} {s : State}

/-- The state in which a switch brings the units into line: the profile in force, the selection cleared. -/
def selected (n : Fin 4) (s : State) : State :=
  { s with store := { s.store with active := n, pendingProfile := none } }

theorem screwAtSwitch_chamber (s : State) :
    (screwAtSwitch s).chamber.integrator = min s.chamber.integrator (1000 * (activeProfile s).screwMax) ∧
    (screwAtSwitch s).chamber.snapshot = s.chamber.snapshot.map (min · (1000 * (activeProfile s).screwMax)) := by
  unfold screwAtSwitch limitSetpoint computeSetpoint
  simp only
  split <;> exact ⟨rfl, rfl⟩

theorem screwAtSwitch_lost (h : s.chamber.status = .lost) :
    (screwAtSwitch s).chamber.setpoint = min s.chamber.setpoint (activeProfile s).standstillCeiling :=
  congrArg (fun u : State => u.chamber.setpoint) (if_pos h)

/-- The setpoint of R124 with the integrator already clamped; the standstill limit that applied before may already hold
it down. -/
theorem screwAtSwitch_known (h : s.chamber.status ≠ .lost) {p : Profile} (hp : activeProfile s = p) {v : Int}
    (hv : v = roundHalfUp (p.kp * (s.chamber.estimate - p.faceTarget)
      + (min s.chamber.integrator (1000 * p.screwMax) : Nat) + p.kf * s.account.speed) 1000) :
    (screwAtSwitch s).chamber.setpoint =
      if standstillLimit s then min (min v.toNat p.screwMax) p.standstillCeiling else min v.toNat p.screwMax := by
  subst hp hv
  have heq : screwAtSwitch s = computeSetpoint { s with chamber :=
      { s.chamber with
        integrator := min s.chamber.integrator (1000 * (activeProfile s).screwMax)
        snapshot := s.chamber.snapshot.map fun v => min v (1000 * (activeProfile s).screwMax) } } := if_neg h
  rw [heq]
  rfl

/-- The stop of a cutterhead leaves of the screw all but the snapshot, which a RUNNING one takes (R127). -/
theorem stopIfMotorsLow_chamber (s : State) : (stopIfMotorsLow s).chamber = { s.chamber with
    snapshot := if s.cutter.run = .running ∧ motorsLow s = true then some s.chamber.integrator
      else s.chamber.snapshot } := by
  obtain ⟨hlow, e⟩ | ⟨hlow, e⟩ := stopIfMotorsLow_cases s
  · simp [e, hlow]
  · rw [e]
    obtain ⟨e, hm⟩ | ⟨hturn, e⟩ | ⟨hrock, e⟩ := forcedStop_cases s
    · have hrun : s.cutter.run ≠ .running := by
        rintro hc
        simp [moving, turning, hc] at hm
      simp [e, hrun]
    · by_cases hrun : s.cutter.run = .running <;> simp [e, enterStopping, leaveIfRunning, leaveRunning, hrun, hlow]
    · simp [e, enterRest, leaveIfRunning, hrock]

theorem switchUnits_chamber : (switchUnits n s).chamber = { (screwAtSwitch (selected n s)).chamber with
    snapshot := if s.cutter.run = .running ∧ motorsLow (selected n s) = true then
        some (screwAtSwitch (selected n s)).chamber.integrator
      else (screwAtSwitch (selected n s)).chamber.snapshot } := by
  have hlow : motorsLow (updateTorque (screwAtSwitch (selected n s))) = motorsLow (selected n s) :=
    motorsLow_congr (by simp [activeProfile]) (by simp [inMotors, updateTorque])
  have hrun : (updateTorque (screwAtSwitch (selected n s))).cutter.run = s.cutter.run := by
    simp [updateTorque, selected]
  have hchamber : (updateTorque (screwAtSwitch (selected n s))).chamber = (screwAtSwitch (selected n s)).chamber := by
    simp
  have hstop := stopIfMotorsLow_chamber (updateTorque (screwAtSwitch (selected n s)))
  rwa [hlow, hrun, hchamber] at hstop

/-- No stop brings a cutterhead to STOPPED (R146). -/
theorem switchUnits_stopped : (switchUnits n s).cutter.run = .stopped ↔ s.cutter.run = .stopped := by
  have hrun : (updateTorque (screwAtSwitch (selected n s))).cutter.run = s.cutter.run := by
    simp [updateTorque, selected]
  have hrec := (stopIfMotorsLow_record (updateTorque (screwAtSwitch (selected n s)))).2.1
  rw [hrun] at hrec
  have hunits : (switchUnits n s).cutter.run = _ := hrec
  rw [hunits]
  cases s.cutter.run <;> simp [turning] <;> split <;> simp

theorem switchUnits_motors : inMotors (switchUnits n s).cutter = inMotors s.cutter := by
  have hstop := inMotors_stopIfMotorsLow (updateTorque (screwAtSwitch (selected n s)))
  exact hstop.trans (by simp [inMotors, updateTorque, selected])

theorem switchUnits_torqueCeiling : (switchUnits n s).cutter.torqueCeiling = torqueCeilingOf (switchUnits n s) := by
  have hrec := (stopIfMotorsLow_record (updateTorque (screwAtSwitch (selected n s)))).1
  rw [updateTorque_ceiling] at hrec
  refine hrec.trans (torqueCeilingOf_congr ?_ ?_ ?_)
  · simp [activeProfile, selected]
  · simp [constantsOf, selected]
  · exact (inMotors_stopIfMotorsLow _).symm

end Units

/-! ## What a switch at standstill leaves at the end of the event -/

section Ended
variable {n : Fin 4} {s r : State}

theorem activeProfile_makeSwitch : activeProfile (makeSwitch n s) = s.store.profiles[n] := by
  simp only [activeProfile, makeSwitch_store]

theorem activeProfile_switchUnits : activeProfile (switchUnits n s) = s.store.profiles[n] := by
  simp only [activeProfile, switchUnits_store]

theorem inMotors_makeSwitch (h : advancing s.modes.mode = false) :
    inMotors (makeSwitch n s).cutter = inMotors s.cutter := by
  rw [makeSwitch_cutter n (s := s) (by rintro hc; simp [hc, advancing] at h), switchUnits_motors]

/-- The screw at the end of the event: what the switch's own units give it (R11, R126). -/
theorem Carries.switch_chamber (h : Carries (makeSwitch n s) r) (hm : advancing s.modes.mode = false) :
    r.chamber = standingChamber (switchUnits n s) := by
  have hne : s.modes.mode ≠ .continuous := by
    rintro hc
    simp [hc, advancing] at hm
  rw [h.standing (by rwa [makeSwitch_modes n hne]), standingChamber_twice]
  · rw [makeSwitch_cutter n hne]
  · rw [activeProfile_makeSwitch, activeProfile_switchUnits]
  · exact makeSwitch_standing n hm

theorem standingChamber_frame (s : State) :
    (standingChamber s).integrator = s.chamber.integrator ∧ (standingChamber s).snapshot = s.chamber.snapshot ∧
    (standingChamber s).setpoint = (if s.cutter.run = .stopped then
      min s.chamber.setpoint (activeProfile s).standstillCeiling else s.chamber.setpoint) := by
  unfold standingChamber heldDown
  split <;> exact ⟨rfl, rfl, rfl⟩

theorem Carries.switch_integrator (h : Carries (makeSwitch n s) r) (hm : advancing s.modes.mode = false) :
    r.chamber.integrator = min s.chamber.integrator (1000 * (activeProfile r).screwMax) := by
  rw [h.switch_chamber hm, (standingChamber_frame _).1, switchUnits_chamber, h.profile, activeProfile_makeSwitch]
  exact (screwAtSwitch_chamber (selected n s)).1

theorem Carries.switch_snapshot (h : Carries (makeSwitch n s) r) (hm : advancing s.modes.mode = false) :
    r.chamber.snapshot = if s.cutter.run = .running ∧ motorsLow r = true then some r.chamber.integrator
      else s.chamber.snapshot.map (min · (1000 * (activeProfile r).screwMax)) := by
  have hlow : motorsLow r = motorsLow (selected n s) :=
    motorsLow_congr (h.profile.trans activeProfile_makeSwitch) (by rw [h.cutter, inMotors_makeSwitch hm]; rfl)
  obtain ⟨hint, hsnap, -⟩ := standingChamber_frame (switchUnits n s)
  rw [h.switch_chamber hm, hsnap, hint, switchUnits_chamber, hlow, h.profile, activeProfile_makeSwitch]
  simp only [(screwAtSwitch_chamber (selected n s)).2]
  rfl

theorem Carries.switch_setpoint (h : Carries (makeSwitch n s) r) (hm : advancing s.modes.mode = false) :
    r.chamber.setpoint = if s.cutter.run = .stopped then
      min (screwAtSwitch (selected n s)).chamber.setpoint s.store.profiles[n].standstillCeiling
      else (screwAtSwitch (selected n s)).chamber.setpoint := by
  rw [h.switch_chamber hm, (standingChamber_frame _).2.2, switchUnits_chamber]
  simp only [switchUnits_stopped, activeProfile, switchUnits_store]

/-- A LOST estimate's setpoint is limited to the new standstill ceiling (R11, R125). -/
theorem Carries.switch_lost (h : Carries (makeSwitch n s) r) (hm : advancing s.modes.mode = false)
    (hlost : s.chamber.status = .lost) :
    r.chamber.setpoint = min s.chamber.setpoint (activeProfile r).standstillCeiling := by
  have hset : (screwAtSwitch (selected n s)).chamber.setpoint =
      min s.chamber.setpoint s.store.profiles[n].standstillCeiling := screwAtSwitch_lost (s := selected n s) hlost
  rw [h.switch_setpoint hm, hset, h.profile, activeProfile_makeSwitch, min_assoc, min_self, ite_self]

/-- The setpoint of a known estimate is that of R124 with the new profile (R11, R126). -/
theorem Carries.switch_known (h : Carries (makeSwitch n s) r) (hm : advancing s.modes.mode = false)
    (hlost : s.chamber.status ≠ .lost) {p : Profile} (hp : p = s.store.profiles[n]) {v : Int}
    (hv : v = roundHalfUp (p.kp * (s.chamber.estimate - p.faceTarget) + r.chamber.integrator
      + p.kf * s.account.speed) 1000) :
    r.chamber.setpoint = if s.cutter.run = .stopped then min (min v.toNat p.screwMax) p.standstillCeiling
      else min v.toNat p.screwMax := by
  rw [h.switch_integrator hm, h.profile, activeProfile_makeSwitch, ← hp] at hv
  have hset := screwAtSwitch_known (s := selected n s) hlost hp.symm hv
  rw [h.switch_setpoint hm, hset, ← hp]
  by_cases hrun : s.cutter.run = .stopped
  · rw [if_pos hrun, if_pos hrun]
    split
    · rw [min_assoc, min_self]
    · rfl
  · rw [if_neg hrun, if_neg hrun, if_neg]
    simp [standstillLimit, selected, hrun]

theorem Carries.switch_torqueCeiling (h : Carries (makeSwitch n s) r) (hm : advancing s.modes.mode = false) :
    r.cutter.torqueCeiling = Machine.torqueCeilingOf r := by
  have hne : s.modes.mode ≠ .continuous := by
    rintro hc
    simp [hc, advancing] at hm
  rw [h.cutter, makeSwitch_cutter n hne, switchUnits_torqueCeiling, h.torqueCeilingOf]
  refine torqueCeilingOf_congr (s := makeSwitch n s) (t := switchUnits n s) ?_ ?_ ?_
  · rw [activeProfile_makeSwitch, activeProfile_switchUnits]
  · simp only [Machine.constantsOf, makeSwitch_store, switchUnits_store]
  · rw [switchUnits_motors, inMotors_makeSwitch hm]

end Ended

/-! ## PROFILE WRITE (R7) -/

theorem exec_profileWrite (p : Port) (s : State) :
    exec (.profileWrite p) s = .next (request 26 [.cabin] true readProfileWrite takeProfileWrite p s) := rfl

theorem exec_profileSelect (p : Port) (s : State) :
    exec (.profileSelect p) s = .next (request 27 [.cabin] true readByte takeProfileSelect p s) := rfl

theorem acts_of_store (k : Store) (s : State) : BlocksAct [] [.store] s { s with store := k } where
  alters := {}

section Write
variable {n : Nat} {q : Profile} {s : State}

theorem takeProfileWrite_of_protected
    (h : n = s.store.active.val ∨ s.store.pendingProfile.map (·.val) = some n) :
    takeProfileWrite (n, q) s = .answer .active [] :=
  if_pos (by simpa [profileProtected] using h)

theorem not_profileProtected (ha : n ≠ s.store.active.val) (hp : s.store.pendingProfile.map (·.val) ≠ some n) :
    ¬ profileProtected s.store n = true := by
  simp only [profileProtected, Bool.or_eq_true, decide_eq_true_eq]
  exact not_or.mpr ⟨ha, hp⟩

theorem takeProfileWrite_of_range (ha : n ≠ s.store.active.val)
    (hp : s.store.pendingProfile.map (·.val) ≠ some n) (h : 4 ≤ n ∨ profileValid q = false) :
    takeProfileWrite (n, q) s = .answer .range [] := by
  unfold takeProfileWrite
  rw [if_neg (not_profileProtected ha hp)]
  split
  · obtain h | h := h
    · omega
    · simp [h]
  · rfl

theorem takeProfileWrite_of_valid (ha : n ≠ s.store.active.val)
    (hp : s.store.pendingProfile.map (·.val) ≠ some n) (hq : profileValid q = true) (h : n < 4) :
    takeProfileWrite (n, q) s =
      .act { s with store := { s.store with profiles := s.store.profiles.set n q h } } .done [] := by
  unfold takeProfileWrite
  rw [if_neg (not_profileProtected ha hp)]
  simp [h, hq]

end Write

/-! ## PROFILE SELECT (R8) -/

section Select
variable {n : Fin 4} {s : State}

theorem takeProfileSelect_of_index :
    takeProfileSelect n.val s = .act (selectProfile n s).1 .done [.u8 (selectProfile n s).2] := dif_pos n.isLt

theorem selectProfile_of_active (h : n = s.store.active) :
    selectProfile n s = ({ s with store := { s.store with pendingProfile := none } }, 0) := if_pos h

/-- The part with a selection raised. -/
def raised (n : Fin 4) (s : State) : State := { s with store := { s.store with pendingProfile := some n } }

theorem selectProfile_of_waiting (h : n ≠ s.store.active)
    (hwait : stands s.modes.mode = false ∨ releaseLimitIn s.store.profiles[n] s.modes.mode < heldGroups s) :
    selectProfile n s = (raised n s, 2) := by
  have htest : (if stands (raised n s).modes.mode then switchTest (raised n s) else raised n s) = raised n s := by
    split
    · rename_i hm
      obtain hwait | hwait := hwait
      · exact absurd (hwait.symm.trans hm) Bool.false_ne_true
      · exact switchTest_of_deferred rfl hwait
    · rfl
  have hsel : selectProfile n s = ((if stands (raised n s).modes.mode then switchTest (raised n s) else raised n s),
      if (if stands (raised n s).modes.mode then switchTest (raised n s) else raised n s).store.pendingProfile = none
        then 1 else 2) := if_neg h
  rw [hsel, htest]
  rfl

theorem selectProfile_of_due (h : n ≠ s.store.active) (hm : stands s.modes.mode = true)
    (hheld : heldGroups s ≤ releaseLimitIn s.store.profiles[n] s.modes.mode) :
    selectProfile n s = (makeSwitch n (raised n s), 1) := by
  have htest : (if stands (raised n s).modes.mode then switchTest (raised n s) else raised n s) =
      makeSwitch n (raised n s) := (if_pos hm).trans (switchTest_of_due rfl hheld)
  have hsel : selectProfile n s = ((if stands (raised n s).modes.mode then switchTest (raised n s) else raised n s),
      if (if stands (raised n s).modes.mode then switchTest (raised n s) else raised n s).store.pendingProfile = none
        then 1 else 2) := if_neg h
  rw [hsel, htest, makeSwitch_store]
  rfl

end Select

theorem not_advancing_of_stands {m : Mode} (h : stands m = true) : advancing m = false := by
  cases m <;> simp_all [stands, advancing]

theorem stands_makeSwitch (n : Fin 4) (s : State) : Stands s (makeSwitch n (raised n s)) := by
  constructor <;> simp [raised]

/-- Settles O23: PROFILE WRITE stores or refuses; PROFILE SELECT clears, waits, or makes the switch, whose screw is that
of its own units because a part that stands does not advance. -/
theorem profilesWrittenAndSelected : Obligations.ProfilesWrittenAndSelected := by
  refine ⟨fun s f n q hasks => ?_, fun s f n hasks hn => ?_, fun s f n hasks => ?_⟩
  · have hx := exec_profileWrite .cabin s
    refine ⟨fun h => exec_answers hx hasks rfl (.inr rfl) (takeProfileWrite_of_protected (s := taken .cabin s) h),
      fun ha hp h => exec_answers hx hasks rfl (.inr rfl) (takeProfileWrite_of_range (s := taken .cabin s) ha hp h),
      fun ha hp hq h => ?_⟩
    obtain ⟨r, hr, hserved, hconds, hcarries⟩ := exec_acts hx hasks rfl (.inr rfl)
      (takeProfileWrite_of_valid (s := taken .cabin s) ha hp hq h) (acts_of_store _ _) (by simp)
    exact ⟨r, hr, hserved, hconds, hcarries.store⟩
  · exact exec_answers (exec_profileSelect .cabin s) hasks rfl (.inr rfl) (dif_neg (by omega))
  · have hx := exec_profileSelect .cabin s
    have hindex := takeProfileSelect_of_index (n := n) (s := taken .cabin s)
    refine ⟨fun h => ?_, fun hne hwait => ?_, fun hne hm hheld => ?_⟩
    · have hsel := selectProfile_of_active (n := n) (s := taken .cabin s) h
      rw [hsel] at hindex
      obtain ⟨r, hr, hserved, -, hcarries⟩ := exec_acts hx hasks rfl (.inr rfl) hindex (acts_of_store _ _) (by simp)
      exact ⟨r, hr, hserved, hcarries.store⟩
    · have hsel := selectProfile_of_waiting (n := n) (s := taken .cabin s) hne hwait
      rw [hsel] at hindex
      obtain ⟨r, hr, hserved, -, hcarries⟩ := exec_acts hx hasks rfl (.inr rfl) hindex (acts_of_store _ _) (by simp)
      exact ⟨r, hr, hserved, hcarries.store⟩
    · have hsel := selectProfile_of_due (n := n) (s := taken .cabin s) hne hm hheld
      have hstand : advancing (raised n (taken .cabin s)).modes.mode = false := not_advancing_of_stands hm
      simp only [hsel] at hindex
      obtain ⟨r, hr, hs, hsent, hcarries, -⟩ := exec_works hx hasks rfl (.inr rfl) hindex
        (stands_makeSwitch n (taken .cabin s))
      have hchamber : (raised n (taken .cabin s)).chamber = s.chamber := rfl
      have hcutter : (raised n (taken .cabin s)).cutter = s.cutter := rfl
      have hint := hcarries.switch_integrator hstand
      have hsnap := hcarries.switch_snapshot hstand
      have hlost := hcarries.switch_lost hstand
      have hknown := @Carries.switch_known n _ r hcarries hstand
      rw [hchamber] at hint hlost
      rw [hchamber, hcutter] at hsnap hknown
      refine ⟨r, hr, hsent, hs, ?_, ?_, ?_, ?_, ?_, ?_, hint, hsnap, hlost,
        fun hne p v hp hv => hknown hne hp hv, hcarries.switch_torqueCeiling hstand⟩
      · exact hcarries.store.trans (makeSwitch_store n _)
      · exact hcarries.profile.trans activeProfile_makeSwitch
      · have hkeep : (makeSwitch n (raised n (taken .cabin s))).groups = s.groups := by simp [raised]
        exact hcarries.groups.trans hkeep
      · have hkeep : (makeSwitch n (raised n (taken .cabin s))).ring = s.ring := by simp [raised]
        exact hcarries.ring.trans hkeep
      · have hkeep : (makeSwitch n (raised n (taken .cabin s))).plan = s.plan := by simp [raised]
        exact hcarries.plan.trans hkeep
      · exact hcarries.modes.trans (makeSwitch_modes n (not_continuous_of_stands hm))

end Sys2Proof.Machine

/-! The warm reset (R204, R205): what it leaves of every block, and the selection that it makes active. -/

namespace Sys2Proof.Machine

set_option Elab.async false

/-! ## The event -/

theorem exec_warmReset (p : Port) (s : State) :
    exec (.warmReset p) s = .next (request 38 [.cabin] true readNothing takeWarmReset p s) := rfl

theorem exec_resetInput (ms : Nat) (s : State) :
    exec (.resetInput ms) s = .next (event (fun s => if 1 ≤ ms then warmReset s else s) s) := rfl

/-- The two ways of causing a warm reset (R204). -/
def CausesReset (i : Instr) (s : State) : Prop :=
  (i = .warmReset .cabin ∧ ∃ f, Asks s .cabin 38 readNothing f ()) ∨
    (s.powered = true ∧ ∃ ms, 1 ≤ ms ∧ i = .resetInput ms)

/-- The state in which the blocks are reset: nothing sent yet, a WARM RESET taken from its list. -/
def resetFrom (l : Vector LinkRec 5) (s : State) : State := { s with links := l, sent := [] }

theorem stands_warmReset (s : State) : Stands s (warmReset s) := by
  constructor <;> simp [warmReset, resetBlocks]

/-- The reset empties every list, whatever has been taken from it (R196). -/
theorem linkOf_resetBlocks (s : State) (q : Port) : linkOf (resetBlocks s) q = (linkOf s q).reset := by
  simp [linkOf, resetBlocks]

theorem reset_dropHead (p q : Port) (s : State) : (linkOf (dropHead p s) q).reset = (linkOf s q).reset := by
  by_cases h : q = p
  · subst h
    rw [linkOf_dropHead_same]
    rfl
  · rw [linkOf_dropHead_other (Ne.symm h)]

theorem warmReset_links (s : State) : (warmReset s).links = (resetBlocks s).links := by
  simp [warmReset]

theorem warmReset_held (s : State) : (warmReset s).held = Vector.replicate 5 none := by
  simp [warmReset, resetBlocks]

theorem Carries.of_refresh {t r : State} (h : Carries (refresh t) r) : Carries t r where
  store := h.store.trans (by simp)
  account := h.account.trans (by simp)
  groups := h.groups.trans (by simp)
  stack := h.stack.trans (by simp)
  ring := h.ring.trans (by simp)
  plan := h.plan.trans (by simp)
  grout := h.grout.trans (by simp)
  cutter := h.cutter.trans (by simp)
  modes := h.modes.trans (by simp)
  level name subject := (h.level name subject).trans ((sameInputs_refresh t).level name subject)
  classOf name subject := (h.classOf name subject).trans ((sameInputs_refresh t).classOf name subject)
  permits := h.permits.trans (sameInputs_refresh t).permitsOf
  chamber := by
    have hperm : r.permits = (refresh t).permits := by rw [h.permits, refresh_permits]
    have hlimit : standstillLimit (refresh t) = standstillLimit r := by
      simp [standstillLimit, hperm, h.cutter]
    have hprof : activeProfile (refresh t) = activeProfile r := h.profile.symm
    rw [h.chamber]
    simp only [heldDown, refresh_chamber t, hlimit, hprof]
    split <;> simp

/-- A warm reset, by request or by the input. -/
theorem exec_reset {i : Instr} {s : State} (hi : CausesReset i s) :
    ∃ l r, (∀ q, (linkOf (resetFrom l s) q).reset = (linkOf s q).reset) ∧ exec i s = .next r ∧ Stands s r ∧
      Carries (switchTest (evalConditions (resetBlocks (resetFrom l s)))) r ∧
      (∀ q, linkOf r q = (linkOf s q).reset) ∧ r.held = Vector.replicate 5 none ∧
      r.conds = (warmReset (resetFrom l s)).conds.map (evalEntry r) := by
  have hlinks : ∀ {u r : State}, (∀ q, (linkOf u q).reset = (linkOf s q).reset) → r.links = (warmReset u).links →
      ∀ q, linkOf r q = (linkOf s q).reset := by
    intro u r hu hr q
    rw [linkOf_of_links (hr.trans (warmReset_links u)), linkOf_resetBlocks, hu]
  obtain ⟨rfl, f, hasks⟩ | ⟨hp, ms, hms, rfl⟩ := hi
  · have hreset : ∀ q, (linkOf (resetFrom (taken .cabin s).links s) q).reset = (linkOf s q).reset :=
      fun q => reset_dropHead .cabin q (quiet s)
    obtain ⟨r, hr, hs, -, hcarries, hl, hh, hc⟩ := exec_works (exec_warmReset .cabin s) hasks rfl (.inr rfl)
      (t := warmReset (taken .cabin s)) (code := .done) (fields := [.u8 (warmReset (taken .cabin s)).modes.mode.code])
      rfl (stands_warmReset _)
    refine ⟨(taken .cabin s).links, r, hreset, hr, hs, hcarries.of_refresh, hlinks hreset hl, ?_, hc⟩
    rw [hh, afterAnswer_idle]
    · exact warmReset_held _
    · simp [warmReset_held]
  · have heffect : (if 1 ≤ ms then warmReset (quiet s) else quiet s) = warmReset (quiet s) := if_pos hms
    obtain ⟨r, hr, hs, hcarries, hl, hh, hc⟩ := exec_event_works (exec_resetInput ms s) hp
      (by simpa only [heffect] using stands_warmReset (quiet s))
    simp only [heffect] at hcarries hl hh hc
    exact ⟨s.links, r, fun q => rfl, hr, hs, hcarries.of_refresh, hlinks (u := quiet s) (fun q => rfl) hl,
      hh.trans (warmReset_held _), hc⟩

/-! ## The blocks (R205) -/

theorem groupReset (s : State) (g : Fin 16) : (resetBlocks s).groups[g] =
    if s.groups[g].state = .retracting ∨ s.groups[g].state = .returning then
      { s.groups[g] with state := .uncertain, stateTime := s.now, slow := false }
    else { s.groups[g] with slow := false } := by
  simp only [resetBlocks, Fin.getElem_fin, getElem_updateEach]
  rfl

theorem heldGroups_resetBlocks (s : State) : heldGroups (resetBlocks s) = heldGroups s := by
  refine countWhere_updateEach _ _ _ fun g r => ?_
  unfold GroupRec.reset GroupRec.enter
  split <;> rfl

theorem reset_not_advancing (m : Mode) : advancing m.reset = false := by cases m <;> rfl

theorem reset_not_moving (r : RunState) : moving r.reset = false := by cases r <;> rfl

theorem releaseLimitIn_reset (p : Profile) (m : Mode) : releaseLimitIn p m.reset = p.releaseBuild :=
  releaseLimitIn_of_not_continuous (by cases m <;> simp [Mode.reset])

/-- A reset whose selection the held groups defer, or with none, ends with the blocks (R10, R15). -/
theorem switchTest_resetBlocks {s : State}
    (h : ∀ n, s.store.pendingProfile = some n → s.store.profiles[n].releaseBuild < heldGroups s) :
    switchTest (evalConditions (resetBlocks s)) = evalConditions (resetBlocks s) := by
  refine switchTest_of_waiting fun n hn => ?_
  have hheld : heldGroups (evalConditions (resetBlocks s)) = heldGroups s := heldGroups_resetBlocks s
  rw [hheld]
  exact lt_of_eq_of_lt (releaseLimitIn_reset _ s.modes.mode) (h n hn)

theorem switchTest_resetBlocks_of_due {s : State} {n : Fin 4} (hpend : s.store.pendingProfile = some n)
    (h : heldGroups s ≤ s.store.profiles[n].releaseBuild) :
    switchTest (evalConditions (resetBlocks s)) = makeSwitch n (evalConditions (resetBlocks s)) := by
  refine switchTest_of_due hpend ?_
  have hheld : heldGroups (evalConditions (resetBlocks s)) = heldGroups s := heldGroups_resetBlocks s
  rw [hheld]
  exact le_of_le_of_eq h (releaseLimitIn_reset _ s.modes.mode).symm

/-- The setpoint of a screw that stands at 0 is not held down. -/
theorem standingChamber_of_zero {s : State} (h : s.chamber.setpoint = 0) : standingChamber s = s.chamber := by
  have hheld : heldDown s s = s.chamber := by
    rw [heldDown, h, Nat.zero_min, ← h]
  rw [standingChamber, hheld, ite_self]

theorem evalEntry_congr {s t : State} (hlevel : ∀ name subject, level t name subject = level s name subject)
    (hclass : ∀ name subject, classOf t name subject = classOf s name subject) (hnow : t.now = s.now) :
    evalEntry t = evalEntry s := by
  funext e
  simp [evalEntry, hlevel, hclass, hnow]

/-- The condition table after a reset that makes no switch. -/
theorem conds_of_reset {s r : State} (hin : evalEntry r = evalEntry (resetBlocks s))
    (h : r.conds = (refresh (evalConditions (resetBlocks s))).conds.map (evalEntry r)) :
    r.conds = s.conds.map (evalEntry r) := by
  have hfirst : SameInputs (resetBlocks s) (evalConditions (resetBlocks s)) := sameInputs_evalConditions _
  have hrefresh := sameInputs_refresh (evalConditions (resetBlocks s))
  rw [h, refresh_conds, hrefresh.evalEntry, hfirst.evalEntry, hin]
  simp [evalConditions, resetBlocks, Function.comp_def, evalEntry_twice]

/-! ## The statement -/

/-- The permits at the end of an event are those of its records. -/
theorem Carries.permits_follow {t r : State} (h : Carries t r) : r.permits = permitsOf r := by
  have hblocked : advanceBlocked r = advanceBlocked t := by
    simp only [advanceBlocked, someGroupIs, h.level, h.modes, h.cutter, h.groups]
  have hgoverned : governedSpeed r = governedSpeed t := by
    simp only [governedSpeed, h.profile, h.cutter]
  have hceiling : speedCeiling r = speedCeiling t := by
    simp only [speedCeiling, hblocked, hgoverned, h.level, h.profile]
  have hthrust : thrustCeiling r = thrustCeiling t := by
    simp only [thrustCeiling, thrustGroups, h.groups, h.profile]
  have hlimiting : limitingConditions r = limitingConditions t := by
    simp only [limitingConditions, h.level, h.classOf]
  have hcommissioned : commissioned r = commissioned t := by
    simp only [commissioned, h.modes]
  rw [h.permits]
  simp only [permitsOf, advancePermitOf, cutterPermitOf, buildPermitOf, groutPermitOf, hceiling, hthrust, hlimiting,
    hcommissioned, h.account, h.cutter, h.modes, h.stack, h.profile]

/-- A reset that makes no switch leaves every block at its warm reset values (R205). -/
theorem Carries.reset {s r : State} (h : Carries (evalConditions (resetBlocks s)) r) :
    r.chamber = s.chamber.reset ∧ r.cutter = s.cutter.reset ∧ r.modes = s.modes.reset ∧
    r.account = s.account.reset ∧ r.stack = s.stack.reset s.now ∧ r.groups = (resetBlocks s).groups ∧
    r.store = s.store ∧ r.ring = s.ring ∧ r.plan = s.plan ∧ r.grout = s.grout := by
  have hchamber : r.chamber = s.chamber.reset := by
    rw [h.standing (reset_not_advancing s.modes.mode)]
    exact standingChamber_of_zero (s := evalConditions (resetBlocks s)) rfl
  exact ⟨hchamber, h.cutter, h.modes, h.account, h.stack, h.groups, h.store, h.ring, h.plan, h.grout⟩

theorem standingChamber_estimate (s : State) :
    (standingChamber s).status = s.chamber.status ∧ (standingChamber s).gateAllowed = s.chamber.gateAllowed := by
  unfold standingChamber heldDown
  split <;> exact ⟨rfl, rfl⟩

theorem screwAtSwitch_gate (s : State) : (screwAtSwitch s).chamber.gateAllowed = s.chamber.gateAllowed := by
  unfold screwAtSwitch limitSetpoint computeSetpoint
  simp only
  split <;> rfl

/-- A cutterhead that does not move is not stopped by a switch (R11, R146). -/
theorem switchUnits_still {n : Fin 4} {s : State} (h : moving s.cutter.run = false) :
    (switchUnits n s).cutter.governor = s.cutter.governor ∧
    (switchUnits n s).cutter.reference = s.cutter.reference := by
  have hunits : (updateTorque (screwAtSwitch (selected n s))).cutter.governor = s.cutter.governor ∧
      (updateTorque (screwAtSwitch (selected n s))).cutter.reference = s.cutter.reference ∧
      (updateTorque (screwAtSwitch (selected n s))).cutter.run = s.cutter.run := by
    simp [updateTorque, selected]
  obtain ⟨hgov, href, hrun⟩ := hunits
  have hstop : switchUnits n s = updateTorque (screwAtSwitch (selected n s)) := by
    obtain ⟨-, e⟩ | ⟨-, e⟩ := stopIfMotorsLow_cases (updateTorque (screwAtSwitch (selected n s)))
    · exact e
    · rw [← hrun] at h
      obtain ⟨e', -⟩ | ⟨hturn, -⟩ | ⟨hrock, -⟩ := forcedStop_cases (updateTorque (screwAtSwitch (selected n s)))
      · exact e.trans e'
      · rw [moving, hturn, Bool.true_or] at h
        exact absurd h (by decide)
      · rw [hrock] at h
        exact absurd h (by decide)
  rw [hstop]
  exact ⟨hgov, href⟩

/-- A selection that a reset makes active (R10, R15, R205). -/
theorem Carries.reset_switch {s r : State} {n : Fin 4} (h : Carries (makeSwitch n (evalConditions (resetBlocks s))) r) :
    r.chamber.status = .lost ∧ r.chamber.setpoint = 0 ∧ r.chamber.gateAllowed = false ∧
    r.chamber.integrator = min s.chamber.integrator (1000 * s.store.profiles[n].screwMax) ∧
    r.chamber.snapshot = some (min s.chamber.integrator (1000 * s.store.profiles[n].screwMax)) ∧
    r.cutter.governor = 1000 ∧ r.cutter.reference = 0 ∧ r.cutter.torqueCeiling = Machine.torqueCeilingOf r ∧
    r.modes = s.modes.reset := by
  have hm : advancing (evalConditions (resetBlocks s)).modes.mode = false := reset_not_advancing s.modes.mode
  have hne : (evalConditions (resetBlocks s)).modes.mode ≠ .continuous := by
    rintro hc
    exact absurd (hc ▸ hm) (by decide)
  have hlost : (evalConditions (resetBlocks s)).chamber.status = .lost := rfl
  have hstill : moving (evalConditions (resetBlocks s)).cutter.run = false := reset_not_moving s.cutter.run
  have hprofile : activeProfile r = s.store.profiles[n] := h.profile.trans activeProfile_makeSwitch
  obtain ⟨hstatus, hgate⟩ := standingChamber_estimate (switchUnits n (evalConditions (resetBlocks s)))
  obtain ⟨hgovernor, hreference⟩ := switchUnits_still (n := n) hstill
  have hset := h.switch_lost hm hlost
  have hint := h.switch_integrator hm
  have hsnap := h.switch_snapshot hm
  have hrun : ¬ ((evalConditions (resetBlocks s)).cutter.run = .running ∧ motorsLow r = true) := by
    rintro ⟨hc, -⟩
    exact absurd (hc ▸ hstill) (by decide)
  rw [hprofile] at hset hint hsnap
  rw [if_neg hrun] at hsnap
  refine ⟨?_, ?_, ?_, hint, hsnap, ?_, ?_, h.switch_torqueCeiling hm, ?_⟩
  · rw [h.switch_chamber hm, hstatus, switchUnits_chamber]
    exact (screwAtSwitch_status _).trans hlost
  · exact hset.trans (Nat.zero_min _)
  · rw [h.switch_chamber hm, hgate, switchUnits_chamber]
    exact screwAtSwitch_gate (selected n (evalConditions (resetBlocks s)))
  · rw [h.cutter, makeSwitch_cutter n hne, hgovernor]
    rfl
  · rw [h.cutter, makeSwitch_cutter n hne, hreference]
    rfl
  · rw [h.modes, makeSwitch_modes n hne]
    rfl

/-- Settles O21: the reset brings each block to its values; a selection that the held groups do not defer is then made
active by a part that does not advance, whose cutterhead does not turn and whose estimate is LOST. -/
theorem warmResetOfBlocks : Obligations.WarmResetOfBlocks := by
  refine ⟨fun s i hi hwait => ?_, fun s i n p hi hpend hp hheld => ?_, fun s f hasks => ?_, fun s hp => ?_⟩
  · obtain ⟨l, r, -, hr, hs, hcarries, hlinks, horders, hconds⟩ := exec_reset hi
    have htest := switchTest_resetBlocks (s := resetFrom l s) hwait
    have hkeep : warmReset (resetFrom l s) = refresh (evalConditions (resetBlocks (resetFrom l s))) :=
      congrArg refresh htest
    rw [htest] at hcarries
    rw [hkeep] at hconds
    have heval : evalEntry r = evalEntry (resetBlocks (resetFrom l s)) :=
      evalEntry_congr hcarries.level hcarries.classOf hs.now
    obtain ⟨hchamber, hcutter, hmodes, haccount, hstack, hgroups, hstore, hring, hplan, hgrout⟩ := hcarries.reset
    refine ⟨r, hr, hs, hstore, hring, hplan, hgrout, haccount, fun g => ?_, hstack, fun k => ?_, ?_, fun m => ?_, ?_,
      ?_, ?_, ?_, ?_, ?_, hlinks, horders, hcarries.permits_follow, conds_of_reset (s := resetFrom l s) heval hconds⟩
    · rw [hgroups]
      exact groupReset (resetFrom l s) g
    · rw [hchamber]
      simp only [Chamber.reset, Fin.getElem_fin, getElem_updateEach]
      rfl
    · rw [hchamber]
      rfl
    · rw [hcutter]
      simp only [Cutter.reset, Fin.getElem_fin, getElem_updateEach]
      rfl
    · rw [hcutter]
      cases hrun : s.cutter.run <;> simp [Cutter.reset, restCutter, RunState.reset, resetFrom, hrun]
    · rw [hmodes]
      rfl
    · rw [hmodes]
      rfl
    · rw [hmodes]
      rfl
    · rw [hmodes]
      rfl
    · rw [hmodes]
      cases hmode : s.modes.mode <;> simp [ModeUnit.reset, Mode.reset, resetFrom, hmode]
  · subst hp
    obtain ⟨l, r, -, hr, hs, hcarries, -⟩ := exec_reset hi
    rw [switchTest_resetBlocks_of_due (s := resetFrom l s) hpend hheld] at hcarries
    obtain ⟨hstatus, hset, hgate, hint, hsnap, hgov, href, htorque, hmodes⟩ := hcarries.reset_switch
    have hgroups : r.groups = (resetBlocks (resetFrom l s)).groups := hcarries.groups.trans (by simp)
    refine ⟨r, hr, hs, hcarries.store.trans (makeSwitch_store n _), hcarries.ring.trans ?_, hcarries.plan.trans ?_,
      hstatus, hset, hgate, hint, hsnap, hgov, href, htorque, ?_, ?_, fun g => ?_⟩
    · simp [resetBlocks, resetFrom]
    · simp [resetBlocks, resetFrom]
    · rw [hmodes]
      rfl
    · rw [hmodes]
      rfl
    · rw [hgroups, groupReset (resetFrom l s) g]
      split <;> rfl
  · obtain ⟨r, hr, -, hsent, hcarries, -⟩ := exec_works (exec_warmReset .cabin s) hasks rfl (.inr rfl)
      (t := warmReset (taken .cabin s)) (code := .done) (fields := [.u8 (warmReset (taken .cabin s)).modes.mode.code])
      rfl (stands_warmReset _)
    exact ⟨r, hr, by rw [hsent, hcarries.modes]⟩
  · obtain ⟨r, hr, hmade, -⟩ := exec_event (exec_resetInput 0 s) hp (.refl [] (quiet s)) (by simp)
    exact ⟨r, hr, hmade⟩

end Sys2Proof.Machine

/-! The receiver (R197, R203), a link's silence (R202), and the answer for which an activation's notices wait (R66,
R178; log 28). -/

namespace Sys2Proof.Machine

set_option Elab.async false

/-! ## The receiver's search (R197) -/

theorem scanBytes_of_no_marker {fuel now : Nat} {rx : List TimedByte} (h : ∀ b ∈ rx, b.1 ≠ startMarker)
    (hfuel : rx.length < fuel) : scanBytes fuel now rx = ([], []) := by
  induction rx generalizing fuel with
  | nil =>
    obtain ⟨k, rfl⟩ := Nat.exists_eq_succ_of_ne_zero (Nat.ne_of_gt hfuel)
    rfl
  | cons b rest ih =>
    obtain ⟨k, rfl⟩ := Nat.exists_eq_succ_of_ne_zero (Nat.ne_of_gt (Nat.zero_lt_of_lt hfuel))
    obtain ⟨hb, hrest⟩ := List.forall_mem_cons.mp h
    rw [scanBytes, if_neg hb]
    exact ih hrest (Nat.lt_of_succ_lt_succ hfuel)

/-- A frame of which bytes are missing when its 20 ms have run is discarded. -/
theorem frameAt_of_late {now start : Nat} {rest : List TimedByte}
    (hpart : ∀ h l tail, rest = h :: l :: tail → tail.length < h.1.toNat * 256 + l.1.toNat + 4)
    (hlate : start + Config.frameTimeout < now) : frameAt now start rest = .discard := by
  match rest, hpart with
  | [], _ => exact if_pos hlate
  | [_], _ => exact if_pos hlate
  | (high, th) :: (low, tl) :: tail, hpart =>
    have hshort := hpart _ _ _ rfl
    have hbytes : (tail.take (high.toNat * 256 + low.toNat + 4)).length < high.toNat * 256 + low.toNat + 4 := by
      simpa using hshort
    simp only [frameAt, hbytes, hlate, if_true, ite_self]

theorem scanBytes_of_late {now start : Nat} {rest : List TimedByte} (h : ∀ b ∈ rest, b.1 ≠ startMarker)
    (hpart : ∀ h l tail, rest = h :: l :: tail → tail.length < h.1.toNat * 256 + l.1.toNat + 4)
    (hlate : start + Config.frameTimeout < now) {fuel : Nat} (hfuel : rest.length + 1 < fuel) :
    scanBytes fuel now ((startMarker, start) :: rest) = ([], []) := by
  obtain ⟨k, rfl⟩ := Nat.exists_eq_succ_of_ne_zero (Nat.ne_of_gt (Nat.zero_lt_of_lt hfuel))
  rw [scanBytes, if_pos rfl, frameAt_of_late hpart hlate]
  exact scanBytes_of_no_marker h (Nat.lt_of_succ_lt_succ hfuel)

/-- The two length bytes give the length again (R206). -/
theorem length_of_bytes {n : Nat} (h : n ≤ 1024) :
    (BitVec.ofNat 8 (n / 256 ^ 1)).toNat * 256 + (BitVec.ofNat 8 (n / 256 ^ 0)).toNat = n := by
  simp only [BitVec.toNat_ofNat]
  omega

/-- A frame whose bytes arrive together is found, and nothing after it. -/
theorem frameAt_bytes {f : Frame} (now : Nat) (hlow : 1 ≤ f.body.length) (hhigh : f.body.length ≤ 1024) :
    frameAt now now (f.bytes.tail.map fun b => (b, now)) = .valid f now [] := by
  have hlength := length_of_bytes hhigh
  set high : Byte := BitVec.ofNat 8 (f.body.length / 256 ^ 1) with hhi
  set low : Byte := BitVec.ofNat 8 (f.body.length / 256 ^ 0) with hlo
  set crc := bigEndian 2 (crc16 (high :: low :: f.kind :: f.tag :: f.body)).toNat with hcrc
  have hbytes : f.bytes.tail = high :: low :: (f.kind :: f.tag :: (f.body ++ crc)) := by
    simp [Frame.bytes, bigEndian, hhi, hlo, hcrc]
  have hcount : (f.kind :: f.tag :: (f.body ++ crc)).length = f.body.length + 4 := by
    simp [hcrc, bigEndian]
  have hlast : (((f.kind :: f.tag :: (f.body ++ crc)).map fun b => (b, now)).getLast?.map (·.2)).getD now = now := by
    simp [List.getLast?_map, List.getLast?_cons]
  have hcheck : checkedFrame high low f.body.length (f.kind :: f.tag :: (f.body ++ crc)) = some f := by
    simp [checkedFrame, hcrc]
  have htake : ((f.kind :: f.tag :: (f.body ++ crc)).map fun b => (b, now)).take (f.body.length + 4) =
      (f.kind :: f.tag :: (f.body ++ crc)).map fun b => (b, now) := List.take_of_length_le (by simp [hcrc, bigEndian])
  rw [hbytes]
  show frameAt now now ((high, now) :: (low, now) :: (f.kind :: f.tag :: (f.body ++ crc)).map fun b => (b, now)) = _
  simp only [frameAt, hlength, htake, hlast]
  rw [if_neg (by omega), if_neg (by rw [List.length_map, hcount]; exact lt_irrefl _), if_neg (by omega)]
  simp only [List.map_map, Function.comp_def, List.map_id', hcheck]
  rw [List.drop_of_length_le (by rw [List.length_map, hcount])]

theorem scanBytes_bytes {f : Frame} (now : Nat) (hlow : 1 ≤ f.body.length) (hhigh : f.body.length ≤ 1024) (fuel : Nat) :
    scanBytes (fuel + 1) now (f.bytes.map fun b => (b, now)) = ([(f, now)], []) := by
  have hbytes : f.bytes.map (fun b => (b, now)) = (startMarker, now) :: f.bytes.tail.map fun b => (b, now) := rfl
  rw [hbytes, scanBytes, if_pos rfl, frameAt_bytes now hlow hhigh]
  cases fuel <;> rfl

/-! ## What an arrival leaves -/

/-- An arrival closed, whatever of its frames is held back: the records stay, but for the link's own. -/
theorem arrived_frame {p : Port} {s e : State} (h : AltersOn (fun q => decide (p = q)) [] (quiet s) e)
    (hp : e.powered = s.powered) (held : Vector (Option Held) 5) (sent : List Sent) {t : State}
    (ht : t = { finish s [] e with held, sent }) :
    Stands s t ∧ OnlyChanges [] s t ∧ (∀ q, q ≠ p → linkOf t q = linkOf s q) ∧ linkOf t p = linkOf e p := by
  have hlinks : ∀ q, linkOf t q = linkOf e q := by
    intro q
    rw [ht]
    exact linkOf_of_links (finish_frame s [] e).2.2.1 q
  have hcarries := carries_finish s [] e
  subst ht
  refine ⟨⟨?_, ?_, ?_, ?_⟩, ?_, fun q hq => ?_, hlinks p⟩
  · simp [hp]
  · simp [h.now]
  · simp [h.pending]
  · simp [h.choices]
  · intro b hb
    have hkeeps := hcarries.onlyChanges h.onlyChanges (fun hc => h.chamber hc) b hb
    cases b <;> exact hkeeps
  · rw [hlinks q, h.links q (by simpa using Ne.symm hq)]
    rfl

/-! ## A frame's time is over (R197) -/

theorem exec_frameTimeout_of_due {p : Port} {s : State} (hp : s.powered = true) (h : frameTimeoutDue p s = true) :
    exec (.frameTimeout p) s = .next (holdBack p s (finish s [] (receive p (quiet s)))) := by
  have hx : exec (.frameTimeout p) s = .next (if frameTimeoutDue p s then arrival p (receive p) s else quiet s) := rfl
  have harr : arrival p (receive p) s = holdBack p s (event (receive p) s) := if_pos hp
  have hev : event (receive p) s = finish s [] (receive p (quiet s)) := if_pos hp
  rw [hx, if_pos h, harr, hev]

/-- Nothing is held back on a link that the arrival does not make ACTIVE (log 28). -/
theorem holdBack_of_active {p : Port} {s t : State} (h : (linkOf t p).active = (linkOf s p).active) :
    holdBack p s t = t := by
  unfold holdBack
  split
  · rw [if_neg]
    rintro ⟨hs, ht, -⟩
    rw [h, hs] at ht
    exact Bool.noConfusion ht
  · rfl

/-- Settles O18: the search drops the start marker of the late frame, finds no other, and leaves nothing. -/
theorem frameTimesOut : Obligations.FrameTimesOut := by
  intro s p at_ rest hp hrx hmarker hpart hlate
  have hdue : frameTimeoutDue p s = true := by
    simp [frameTimeoutDue, hrx, Config.frameTimeout, hlate]
  have hscan : scanBytes ((linkOf s p).rx.length + 1) s.now (linkOf s p).rx = ([], []) := by
    rw [hrx]
    exact scanBytes_of_late hmarker hpart hlate (Nat.lt_succ_self _)
  have hreceive : receive p (quiet s) = setLink p { linkOf s p with rx := [] } (quiet s) := by
    have h : receive p (quiet s) = (scanBytes ((linkOf s p).rx.length + 1) s.now (linkOf s p).rx).1.foldl (deliver p)
        (setLink p { linkOf s p with rx := (scanBytes ((linkOf s p).rx.length + 1) s.now (linkOf s p).rx).2 } (quiet s)) :=
      rfl
    rw [h, hscan]
    rfl
  have hpow : (receive p (quiet s)).powered = s.powered := by rw [hreceive]; rfl
  obtain ⟨hstands, honly, hother, hlink⟩ :=
    arrived_frame (receive_alters p (quiet s)) hpow (finish s [] (receive p (quiet s))).held
      (finish s [] (receive p (quiet s))).sent rfl
  have hsame : linkOf (finish s [] (receive p (quiet s))) p = { linkOf s p with rx := [] } :=
    hlink.trans (by rw [hreceive, linkOf_setLink_same])
  exact ⟨_, by rw [exec_frameTimeout_of_due hp hdue, holdBack_of_active (by rw [hsame])], hsame, hstands, honly, hother⟩

/-! ## A link's silence (R202) -/

theorem exec_linkSilence (p : Port) (s : State) :
    exec (.linkSilenceExpiry p) s = .next (expiry (silenceDue p s) (silenceLink p) s) := rfl

section Silence
variable {p : Port} {s : State}

/-- The part with one link SILENT. -/
def silenced (p : Port) (s : State) : State := setLink p { linkOf s p with active := false } s

/-- The part without previous strokes (R40). -/
def strokesLost (s : State) : State := { s with account := { s.account with prev := Vector.replicate 16 none } }

theorem silenceLink_of_other (h : p ≠ .drive) : silenceLink p s = silenced p s := if_neg h

theorem silenceLink_drive : silenceLink .drive s = haltMachine (strokesLost (silenced .drive s)) := by
  unfold silenceLink
  exact if_pos rfl

theorem silenceLink_links (p : Port) (s : State) : (silenceLink p s).links = (silenced p s).links := by
  by_cases h : p = .drive
  · subst h
    rw [silenceLink_drive]
    simp [strokesLost]
  · rw [silenceLink_of_other h]

theorem stands_silenceLink (p : Port) (s : State) : Stands s (silenceLink p s) := by
  have h := silenceLink_alters p s
  refine ⟨?_, h.now, h.pending, h.choices⟩
  by_cases hp : p = .drive
  · subst hp
    rw [silenceLink_drive]
    simp [strokesLost, silenced]
  · rw [silenceLink_of_other hp]
    rfl

theorem haltMachine_prev (s : State) : (haltMachine s).account.prev = s.account.prev := by
  unfold haltMachine
  split
  · rfl
  · exact enterMode_prev (s := { s with modes := s.modes.claimsAtHalt })

theorem haltMachine_of_uncommissioned (h : s.modes.mode = .uncommissioned) : haltMachine s = s := if_pos (.inl h)

/-- What the silence of the Drive link leaves of a part that is not to be halted (R169). -/
theorem silenced_changes (p : Port) (s : State) : OnlyChanges [.account] s (strokesLost (silenced p s)) := by
  intro b hb
  cases b with
  | account => exact absurd (List.mem_singleton_self _) hb
  | chamber => exact .inl rfl
  | _ => rfl

end Silence

/-- Settles O19: a SILENT link changes its own record; on the Drive link the strokes are lost and the machine halts. -/
theorem linkGoesSilent : Obligations.LinkGoesSilent := by
  intro s p at_ hp hactive hlast hlate
  have hdue : silenceDue p s = true := by simp [silenceDue, hactive, hlast, Config.silenceTimeout, hlate]
  obtain ⟨r, hr, hs, hcarries, hlinks, -, -⟩ := exec_event_works
    (by rw [exec_linkSilence, expiry_due hdue]) hp (stands_silenceLink p (quiet s))
  have hrecord : ∀ q, linkOf r q = linkOf (silenced p (quiet s)) q :=
    linkOf_of_links (hlinks.trans (silenceLink_links p (quiet s)))
  refine ⟨r, hr, hs, (hrecord p).trans (linkOf_setLink_same _ _ _), fun q hq =>
    (hrecord q).trans (linkOf_setLink_other (Ne.symm hq) _ _), fun hne => ?_, fun hdrive => ?_⟩
  · rw [silenceLink_of_other hne] at hcarries
    have hkeep : OnlyChanges [] s (silenced p (quiet s)) := by
      intro b _
      cases b with
      | chamber => exact .inl rfl
      | _ => rfl
    exact hcarries.onlyChanges hkeep fun _ => rfl
  · subst hdrive
    rw [silenceLink_drive] at hcarries
    refine ⟨fun g => ?_, fun hcomm hhalt => ?_, fun h => ?_⟩
    · rw [hcarries.account, haltMachine_prev]
      simp [strokesLost]
    · have hearly := (commissioned_iff s).mp hcomm
      have hmodes : r.modes = s.modes.claimsAtHalt.entered .halted .halt :=
        hcarries.modes.trans (haltMachine_modes (s := strokesLost (silenced .drive (quiet s))) hearly hhalt)
      have hsel := (haltMachine_selection (s := strokesLost (silenced .drive (quiet s))) hearly).congr
        (s' := s) (t' := r) Iff.rfl rfl rfl hcarries.store
      rw [hmodes]
      exact ⟨rfl, rfl, rfl, rfl, fun n hn => hsel.due n hn hhalt, fun hwait => hsel.waiting fun n hn _ => hwait n hn⟩
    · have hkeep : haltMachine (strokesLost (silenced .drive (quiet s))) = strokesLost (silenced .drive (quiet s)) := by
        obtain h | h := h
        · have hmode : s.modes.mode = .uncommissioned := by simpa [commissioned] using h
          exact haltMachine_of_uncommissioned hmode
        · exact haltMachine_of_halted h
      rw [hkeep] at hcarries
      have honly := hcarries.onlyChanges (silenced_changes .drive (quiet s)) fun _ => rfl
      intro b hb
      cases b <;> exact honly _ hb

end Sys2Proof.Machine

/-! The arrival of a frame (R197, R198, R203), and what waits for its answer (R66, R178; log 28). -/

namespace Sys2Proof.Machine

set_option Elab.async false

/-! ## The links -/

theorem setLink_setLink (p : Port) (a b : LinkRec) (s : State) : setLink p a (setLink p b s) = setLink p a s := by
  simp [setLink]

theorem setLink_linkOf (p : Port) (s : State) : setLink p (linkOf s p) s = s := by
  simp [setLink, linkOf]

/-! ## The frame found (R197) -/

section Heard
variable {p : Port} {f : Frame} {s : State}

/-- The part with the frame in the link's list. -/
def heard (p : Port) (f : Frame) (s : State) : State := setLink p ((linkOf s p).receive f s.now) s

theorem receive_bytes (hrx : (linkOf s p).rx = []) (hlow : 1 ≤ f.body.length) (hhigh : f.body.length ≤ 1024) :
    receive p (addBytes p f.bytes s) =
      if (linkOf s p).active then heard p f s else onActive p (linkOf s p) (heard p f s) := by
  have hlink : linkOf (addBytes p f.bytes s) p = { linkOf s p with rx := f.bytes.map fun b => (b, s.now) } := by
    rw [addBytes, linkOf_setLink_same, hrx, List.nil_append]
  have hempty : { linkOf (addBytes p f.bytes s) p with rx := [] } = linkOf s p := by
    rw [hlink, ← hrx]
  have hscan : scanBytes ((linkOf (addBytes p f.bytes s) p).rx.length + 1) (addBytes p f.bytes s).now
      (linkOf (addBytes p f.bytes s) p).rx = ([(f, s.now)], []) := by
    rw [hlink]
    exact scanBytes_bytes s.now hlow hhigh _
  have hback : setLink p (linkOf s p) (addBytes p f.bytes s) = s := by
    rw [addBytes, setLink_setLink, setLink_linkOf]
  have hreceive : receive p (addBytes p f.bytes s) = deliver p s (f, s.now) := by
    unfold receive
    simp only [hscan, hempty, hback, List.foldl_cons, List.foldl_nil]
  rw [hreceive]
  rfl

theorem heard_link (hrx : (linkOf s p).rx = []) : linkOf (heard p f s) p =
    { active := true, ever := true, lastFrame := some s.now, rx := []
      requests := if (linkOf s p).requests.length < 8 then (linkOf s p).requests ++ [f] else (linkOf s p).requests } := by
  rw [heard, linkOf_setLink_same, LinkRec.receive, hrx]
  rfl

theorem exec_frameReceive {bytes : List Byte} (hp : s.powered = true) :
    exec (.frameReceive p bytes) s =
      .next (holdBack p s (finish s [] (receive p (addBytes p bytes (quiet s))))) := by
  have harr : arrival p (fun s => receive p (addBytes p bytes s)) s =
      holdBack p s (event (fun s => receive p (addBytes p bytes s)) s) := if_pos hp
  have hev : event (fun s => receive p (addBytes p bytes s)) s =
      finish s [] (receive p (addBytes p bytes (quiet s))) := if_pos hp
  have hx : exec (.frameReceive p bytes) s = .next (arrival p (fun s => receive p (addBytes p bytes s)) s) := rfl
  rw [hx, harr, hev]

/-! ## What waits for the answer (R66, R203; log 28) -/

theorem onActive_of_room (h : (linkOf s p).requests.length < 8) (u : State) : onActive p (linkOf s p) u =
    setHeld p (some { after := (linkOf s p).requests.length + 1, orders := decide (p = .drive) && (linkOf s p).ever,
                      notices := (u.held[portIndex p].map (·.notices)).getD [] }) u := if_pos h

theorem onActive_of_full (h : 8 ≤ (linkOf s p).requests.length) (u : State) : onActive p (linkOf s p) u =
    if decide (p = .drive) && (linkOf s p).ever then reissueOrders u else u := if_neg (Nat.not_lt.mpr h)

theorem reissueOrders_sent (u : State) : (reissueOrders u).sent = u.sent ++ outstandingOrders u := by
  have e : ∀ x, (membersWhere u.groups fun g => g.state = x) = (List.finRange 16).filter fun g => u.groups[g].state = x :=
    fun _ => rfl
  simp only [reissueOrders, sendRetract, sendExtend, tell, e, orderItems, outstandingOrders, List.map_eq_nil_iff,
    List.isEmpty_iff]
  split_ifs <;> simp

theorem holdBack_of_room {t : State} {h : Held} (hheld : t.held[portIndex p] = some h)
    (hs : (linkOf s p).active = false) (ht : (linkOf t p).active = true) (hroom : (linkOf s p).requests.length < 8) :
    holdBack p s t = setHeld p (some { h with notices := h.notices ++ t.sent.filter (·.port = p) })
      { t with sent := t.sent.filter (·.port ≠ p) } := by
  unfold holdBack
  rw [hheld]
  exact if_pos ⟨hs, ht, hroom⟩

theorem holdBack_of_full {t : State} (hfull : 8 ≤ (linkOf s p).requests.length) : holdBack p s t = t := by
  unfold holdBack
  split
  · exact if_neg fun hc => Nat.not_lt.mpr hfull hc.2.2
  · rfl

/-- What the arrival leaves before the end of its event. -/
theorem heard_effect (hrx : (linkOf s p).rx = []) (hlow : 1 ≤ f.body.length) (hhigh : f.body.length ≤ 1024) {e : State}
    (he : e = if (linkOf s p).active then heard p f s else onActive p (linkOf s p) (heard p f s)) :
    AltersOn (fun q => decide (p = q)) [] s e ∧ e.powered = s.powered ∧ linkOf e p = linkOf (heard p f s) p := by
  have halters := (addBytes_alters p f.bytes s).trans (receive_alters p (addBytes p f.bytes s))
  rw [receive_bytes hrx hlow hhigh, ← he] at halters
  refine ⟨halters, ?_, linkOf_of_links ?_ p⟩ <;> rw [he] <;> split
  · rfl
  · unfold onActive
    simp only
    split
    · rfl
    · split <;> simp [heard, setLink]
  · rfl
  · exact onActive_links ..

end Heard

section Arrives
variable {p : Port} {f : Frame} {s : State}

/-- A frame on an ACTIVE link (R198). -/
theorem arrives_active (hp : s.powered = true) (hrx : (linkOf s p).rx = []) (hlow : 1 ≤ f.body.length)
    (hhigh : f.body.length ≤ 1024) (hactive : (linkOf s p).active = true) {t : State}
    (ht : t = finish s [] (heard p f (quiet s))) :
    exec (.frameReceive p f.bytes) s = .next t ∧ t.held = s.held ∧ t.sent = closingNotices [] s t := by
  have hreceive : receive p (addBytes p f.bytes (quiet s)) = heard p f (quiet s) :=
    (receive_bytes (s := quiet s) hrx hlow hhigh).trans (if_pos hactive)
  have hlink : linkOf t p = linkOf (heard p f (quiet s)) p := by
    rw [ht]
    exact linkOf_of_links (finish_frame s [] _).2.2.1 p
  have hkeep : holdBack p s t = t := by
    refine holdBack_of_active ?_
    rw [hlink, heard_link (s := quiet s) hrx, hactive]
  refine ⟨?_, ?_, ?_⟩
  · rw [exec_frameReceive hp, hreceive, ← ht, hkeep]
  · rw [ht]
    exact (finish_frame s [] _).2.2.2.1
  · rw [ht]
    exact finish_sent_once (told := []) rfl rfl (List.forall_mem_nil _)

/-- A frame that makes a link ACTIVE and joins its list (R66, R203; log 28). -/
theorem arrives_held (hp : s.powered = true) (hrx : (linkOf s p).rx = []) (hlow : 1 ≤ f.body.length)
    (hhigh : f.body.length ≤ 1024) (hsilent : (linkOf s p).active = false) (hroom : (linkOf s p).requests.length < 8)
    {e t : State} (he : e = onActive p (linkOf s p) (heard p f (quiet s)))
    (ht : t = setHeld p (some
        { after := (linkOf s p).requests.length + 1, orders := decide (p = .drive) && (linkOf s p).ever
          notices := ((s.held[portIndex p].map (·.notices)).getD []) ++
            (closingNotices [] s (finish s [] e)).filter (·.port = p) })
      { finish s [] e with sent := (closingNotices [] s (finish s [] e)).filter (·.port ≠ p), held := s.held }) :
    exec (.frameReceive p f.bytes) s = .next t := by
  have hreceive : receive p (addBytes p f.bytes (quiet s)) = e :=
    ((receive_bytes (s := quiet s) hrx hlow hhigh).trans (if_neg (by simpa using hsilent))).trans he.symm
  rw [onActive_of_room hroom] at he
  have hlink : linkOf (finish s [] e) p = linkOf (heard p f (quiet s)) p := by
    rw [he]
    exact linkOf_of_links (finish_frame s [] _).2.2.1 p
  have hheld : (finish s [] e).held = e.held := (finish_frame s [] e).2.2.2.1
  have hsent : (finish s [] e).sent = closingNotices [] s (finish s [] e) :=
    finish_sent_once (told := []) (by rw [he]; rfl) (by rw [he]; rfl) (List.forall_mem_nil _)
  rw [exec_frameReceive hp, hreceive, holdBack_of_room (h := _) (by rw [hheld, he]; simp [setHeld]; rfl) hsilent
    (by rw [hlink, heard_link (s := quiet s) hrx]) hroom, ht, hsent]
  simp only [setHeld, he, finish_frame, Vector.set_set]
  rfl

theorem arrives_waiting (hp : s.powered = true) (hrx : (linkOf s p).rx = []) (hlow : 1 ≤ f.body.length)
    (hhigh : f.body.length ≤ 1024) (hsilent : (linkOf s p).active = false)
    (hroom : (linkOf s p).requests.length < 8) :
    ∃ t, exec (.frameReceive p f.bytes) s = .next t ∧ linkOf t p = linkOf (heard p f (quiet s)) p ∧
      Stands s t ∧ OnlyChanges [] s t ∧ (∀ q, q ≠ p → linkOf t q = linkOf s q) ∧
      t.held = s.held.set (portIndex p).val
        (some
          { after := (linkOf s p).requests.length + 1
            orders := decide (p = .drive) && (linkOf s p).ever
            notices := ((s.held[portIndex p].map (·.notices)).getD []) ++
              (closingNotices [] s t).filter (·.port = p) }) (portIndex p).isLt ∧
      t.sent = (closingNotices [] s t).filter (·.port ≠ p) := by
  obtain ⟨e, he⟩ : ∃ e, e = onActive p (linkOf s p) (heard p f (quiet s)) := ⟨_, rfl⟩
  have hexec := arrives_held hp hrx hlow hhigh hsilent hroom he rfl
  obtain ⟨halters, hpow, hlink⟩ := heard_effect (s := quiet s) hrx hlow hhigh
    (he.trans (if_neg (by simpa using hsilent)).symm)
  obtain ⟨hstands, honly, hother, hsame⟩ := @arrived_frame p s e halters hpow _ _ _ rfl
  exact ⟨_, hexec, hsame.trans hlink, hstands, honly, hother, rfl, rfl⟩

/-- A frame that makes a link ACTIVE and is dropped (R66, R203; log 28). -/
theorem arrives_dropped (hp : s.powered = true) (hrx : (linkOf s p).rx = []) (hlow : 1 ≤ f.body.length)
    (hhigh : f.body.length ≤ 1024) (hsilent : (linkOf s p).active = false) (hfull : 8 ≤ (linkOf s p).requests.length)
    {e t : State} (he : e = onActive p (linkOf s p) (heard p f (quiet s))) (ht : t = finish s [] e) :
    exec (.frameReceive p f.bytes) s = .next t ∧ t.held = s.held ∧
      t.sent = (if p = .drive ∧ (linkOf s p).ever = true then outstandingOrders s else []) ++ closingNotices [] s t := by
  have hreceive : receive p (addBytes p f.bytes (quiet s)) = e :=
    ((receive_bytes (s := quiet s) hrx hlow hhigh).trans (if_neg (by simpa using hsilent))).trans he.symm
  rw [onActive_of_full hfull] at he
  have hheld : (finish s [] e).held = e.held := (finish_frame s [] e).2.2.2.1
  refine ⟨?_, ?_, ?_⟩
  · rw [exec_frameReceive hp, hreceive, holdBack_of_full hfull, ht]
  · rw [ht, hheld, he]
    split <;> simp [heard, setLink]
  · have hsent : e.sent = if p = .drive ∧ (linkOf s p).ever = true then outstandingOrders s else [] := by
      rw [he]
      by_cases h : p = .drive ∧ (linkOf s p).ever = true
      · rw [if_pos (by simpa using h), if_pos h, reissueOrders_sent]
        rfl
      · rw [if_neg (by simpa using h), if_neg h]
        rfl
    have hplace : ∀ x ∈ (if p = .drive ∧ (linkOf s p).ever = true then outstandingOrders s else []),
        x.message.place = 0 := by
      split
      · exact outstandingOrders_place s
      · exact List.forall_mem_nil _
    have hperm : e.permits = s.permits := by
      rw [he]
      split <;> simp [heard, setLink]
    rw [ht]
    exact finish_sent_once hsent hperm hplace

end Arrives

/-! ## An answer without an effect, and what follows it (R178, R199) -/

theorem answeredOnly_sent (p : Port) (f : Frame) (code : Code) (fields : List Field) (s : State) :
    (answeredOnly p f code fields s).sent = responseTo p f code fields :: afterResponse p [] [] s s := by
  have hsent : (afterAnswer p (taken p s)).sent = afterResponse p [] [] s s := by
    unfold afterAnswer afterResponse
    have hheld : (taken p s).held = s.held := rfl
    rw [hheld]
    cases s.held[portIndex p] with
    | none => rfl
    | some h =>
      by_cases hafter : 1 < h.after
      · simp [hafter, Nat.not_le.mpr hafter, setHeld]
      · have hout : outstandingOrders (setHeld p none (taken p s)) = outstandingOrders s :=
          outstandingOrders_congr rfl
        simp only [hafter, Nat.not_lt.mp hafter, if_true, if_false, sendHeld_sent, hout]
        simp [setHeld]
  exact congrArg _ hsent

theorem answeredOnly_held (p : Port) (f : Frame) (code : Code) (fields : List Field) (s : State) :
    (answeredOnly p f code fields s).held =
      match s.held[portIndex p] with
      | none => s.held
      | some h =>
        s.held.set (portIndex p).val (if 1 < h.after then some { h with after := h.after - 1 } else none)
          (portIndex p).isLt := by
  have hheld : (answeredOnly p f code fields s).held = (afterAnswer p (taken p s)).held := rfl
  rw [hheld]
  unfold afterAnswer
  have hsame : (taken p s).held = s.held := rfl
  rw [hsame]
  cases s.held[portIndex p] with
  | none => rfl
  | some h =>
    by_cases hafter : 1 < h.after
    · simp [hafter, Nat.not_le.mpr hafter, setHeld]
    · simp [hafter, Nat.not_lt.mp hafter, setHeld]

/-! ## The order of what waited (R178) -/

theorem arranged_filter (q : Sent → Bool) (l : List Sent) : arranged (l.filter q) = (arranged l).filter q := by
  simp [arranged, List.filter_filter, Bool.and_comm]

/-- Frames of place 0 go out before the others. -/
theorem arranged_first {first rest : List Sent} (h : ∀ x ∈ first, x.message.place = 0)
    (hrest : ∀ x ∈ rest, x.message.place ≠ 0) : arranged (rest ++ first) = first ++ arranged rest := by
  have hnone : (rest.filter fun x => x.message.place = 0) = [] :=
    List.filter_eq_nil_iff.mpr fun x hx => by simpa using hrest x hx
  simp [arranged, List.filter_append, filter_place h, hnone]

/-- The notices that close an event stand in the order of R178, none of them at the front. -/
theorem arranged_closing (s t : State) : arranged (closingNotices [] s t) = closingNotices [] s t := by
  simp [arranged, closingNotices, List.filter_append, filter_place screwNotices_place, filter_place modeNotices_place,
    filter_place conditionNotices_place, filter_place (otherPermits_place _ _), filter_place (cutterPermits_place _ _),
    -List.filter_filter]

theorem closingNotices_not_first (s t : State) : ∀ x ∈ closingNotices [] s t, x.message.place ≠ 0 := by
  intro x hx
  simp only [closingNotices, List.mem_append] at hx
  obtain (((h | h) | h) | h) | h := hx
  · simp [modeNotices_place x h]
  · simp [otherPermits_place _ _ x h]
  · simp [cutterPermits_place _ _ x h]
  · simp [screwNotices_place x h]
  · simp [conditionNotices_place x h]

/-- READ is answered from any link and in every mode, without an effect (R201). -/
theorem read_answered (p : Port) (f : Frame) (s : State) :
    ∃ code fields, handle allPorts true readSelector takeRead p f s = .answer code fields := by
  unfold handle
  split
  · exact ⟨_, _, rfl⟩
  · split
    · exact ⟨_, _, rfl⟩
    · split
      · exact ⟨_, _, rfl⟩
      · unfold takeRead
        split <;> exact ⟨_, _, rfl⟩

theorem exec_read_answered {p : Port} {f : Frame} {s : State} {rest : List Frame} (hp : s.powered = true)
    (hf : (linkOf s p).requests = f :: rest) (h : f.isRequest 39 = true) :
    ∃ code fields, exec (.read p) s = .next (answeredOnly p f code fields s) := by
  obtain ⟨code, fields, hread⟩ := read_answered p f (taken p s)
  have hhead : headRequest p 39 s = some f := by simp [headRequest, hf, h]
  refine ⟨code, fields, ?_⟩
  rw [exec_read, request, serve, if_pos hp, hhead]
  show Host.Outcome.next (answered s p f (taken p s) _) = _
  rw [hread]
  rfl

/-- What has waited on a link goes out with the answer (R66, R178). -/
theorem afterResponse_of_due {p : Port} {s : State} {h : Held} (hheld : s.held[portIndex p] = some h)
    (hafter : h.after = 1) :
    afterResponse p [] [] s s = arranged (h.notices ++ if h.orders then outstandingOrders s else []) := by
  unfold afterResponse
  rw [hheld]
  simp [hafter]

theorem answeredOnly_onlyChanges {p : Port} {f : Frame} {code : Code} {fields : List Field} {s t : State}
    (h : OnlyChanges [] s t) : OnlyChanges [] s (answeredOnly p f code fields t) := by
  intro b hb
  have hkeep := h b hb
  cases b with
  | chamber => simpa [Keeps, answeredOnly, standstillLimit, heldDown, activeProfile] using hkeep
  | _ => simpa [Keeps, answeredOnly] using hkeep

/-- Settles O17: the search finds the frame; what the activation's answer lets go stands in the order of R178, the orders
of R66 first. -/
theorem frameArrives : Obligations.FrameArrives := by
  refine ⟨fun s p f hp hrx hlow hhigh => ?_, fun p f code fields s =>
    ⟨answeredOnly_sent p f code fields s, answeredOnly_held p f code fields s⟩, ?_⟩
  · obtain ⟨e, he⟩ : ∃ e, e = if (linkOf s p).active then heard p f (quiet s)
      else onActive p (linkOf s p) (heard p f (quiet s)) := ⟨_, rfl⟩
    obtain ⟨halters, hpow, hlink⟩ := heard_effect (s := quiet s) hrx hlow hhigh he
    have hframe := @arrived_frame p s e halters hpow
    rw [hlink, heard_link (s := quiet s) hrx] at hframe
    cases hactive : (linkOf s p).active with
    | true =>
      rw [hactive, if_pos rfl] at he
      obtain ⟨hexec, hheld, hsent⟩ := arrives_active hp hrx hlow hhigh hactive rfl
      rw [← he] at hexec hheld hsent
      obtain ⟨hstands, honly, hother, hsame⟩ := hframe _ _ rfl
      exact ⟨_, hexec, hsame, hstands, honly, hother, fun _ => ⟨hheld, hsent⟩, nofun, nofun⟩
    | false =>
      rw [hactive, if_neg (by decide)] at he
      rcases Nat.lt_or_ge (linkOf s p).requests.length 8 with hroom | hfull
      · obtain ⟨t, hexec, hsame, hstands, honly, hother, hheld, hsent⟩ :=
          arrives_waiting hp hrx hlow hhigh hactive hroom
        rw [heard_link (s := quiet s) hrx] at hsame
        exact ⟨t, hexec, hsame, hstands, honly, hother, nofun, fun _ _ => ⟨hheld, hsent⟩,
          fun _ h => absurd hroom (Nat.not_lt.mpr h)⟩
      · obtain ⟨hexec, hheld, hsent⟩ := arrives_dropped hp hrx hlow hhigh hactive hfull he rfl
        obtain ⟨hstands, honly, hother, hsame⟩ := hframe _ _ rfl
        exact ⟨_, hexec, hsame, hstands, honly, hother, nofun, fun _ h => absurd h (Nat.not_lt.mpr hfull),
          fun _ _ => ⟨hheld, hsent⟩⟩
  · intro s f hp hlink hempty hnone hlow hhigh hread
    have hrx : (linkOf s .drive).rx = [] := congrArg LinkRec.rx hlink
    have hactive : (linkOf s .drive).active = false := congrArg LinkRec.active hlink
    have hroom : (linkOf s .drive).requests.length < 8 := by simp [hempty]
    obtain ⟨t, hexec, hsame, hstands, honly, -, hheld, -⟩ := arrives_waiting hp hrx hlow hhigh hactive hroom
    rw [heard_link (s := quiet s) hrx] at hsame
    have hpow : t.powered = true := hstands.powered.trans hp
    have hrequests : (linkOf t .drive).requests = f :: [] := by
      rw [hsame]
      simp [hempty]
    obtain ⟨code, fields, hread⟩ := exec_read_answered hpow hrequests hread
    have hwaits : t.held[portIndex .drive] = some
        { after := 1, orders := (linkOf s .drive).ever
          notices := (closingNotices [] s t).filter (·.port = .drive) } := by
      rw [hheld]
      simp [hempty, hnone]
    have hout : outstandingOrders t = outstandingOrders s := outstandingOrders_congr (honly .groups (List.not_mem_nil))
    refine ⟨t, _, code, fields, hexec, hread, ?_, answeredOnly_onlyChanges honly⟩
    rw [answeredOnly_sent, afterResponse_of_due hwaits rfl, hout, arranged_first, arranged_filter, arranged_closing]
    · split
      · exact outstandingOrders_place s
      · exact List.forall_mem_nil _
    · exact fun x hx => closingNotices_not_first s t x (List.mem_of_mem_filter hx)

end Sys2Proof.Machine

/-! DRIVE REPORT (R139): the motors, the run state, the share of torque and the jam timer. -/

namespace Sys2Proof.Machine

set_option Elab.async false

theorem exec_driveReport (p : Port) (s : State) :
    exec (.driveReport p) s = .next (request 2 [.drive] false readDrive takeDriveReport p s) := rfl

/-! ## The record of the report (R139, R140) -/

/-- The part with the report recorded and the torque ceiling following. -/
def reported (a : DriveArgs) (s : State) : State := updateTorque { s with cutter := recordReport a s.cutter }

/-- The part after the tests of the report. -/
def driven (b : State) : State := driveTests (stopIfMotorsLow b)

theorem takeDriveReport_eq (a : DriveArgs) (s : State) :
    takeDriveReport a s = .act (driven (reported a s)) .done (driveFields (driven (reported a s)).cutter) := rfl

theorem reported_motor (a : DriveArgs) (s : State) (m : Fin 8) :
    (reported a s).cutter.motors[m].ready = a.motors[m].1 ∧ (reported a s).cutter.motors[m].torque = a.motors[m].2 ∧
    (reported a s).cutter.motors[m].deviation = s.cutter.motors[m].deviation ∧
    (reported a s).cutter.motors[m].membership =
      if s.cutter.firstPending then (if a.motors[m].1 then .isIn else .out .notReady)
      else if s.cutter.motors[m].membership = .isIn ∧ a.motors[m].1 = false then .out .notReady
      else s.cutter.motors[m].membership := by
  have hmotor : (reported a s).cutter.motors[m] =
      { s.cutter.motors[m] with
        ready := a.motors[m].1, torque := a.motors[m].2
        membership := Motor.afterReport s.cutter.firstPending
          { s.cutter.motors[m] with ready := a.motors[m].1, torque := a.motors[m].2 } } := by
    simp only [reported, updateTorque, recordReport, Fin.getElem_fin, getElem_updateEach]
  rw [hmotor]
  refine ⟨rfl, rfl, rfl, ?_⟩
  simp [Motor.afterReport, Motor.isIn]

/-! ## What the tests of a report keep -/

/-- From `b` to `t` the motors, the ceiling and the requested speed stay as the report has them. -/
structure ReportKept (b t : State) : Prop where
  store        : t.store = b.store := by simp
  direction    : t.cutter.direction = b.cutter.direction := by simp
  requested    : t.cutter.requested = b.cutter.requested := by simp
  measured     : t.cutter.measured = b.cutter.measured := by simp
  firstPending : t.cutter.firstPending = b.cutter.firstPending := by simp
  ceiling      : t.cutter.torqueCeiling = b.cutter.torqueCeiling := by simp
  motors       : ∀ m : Fin 8, t.cutter.motors[m].ready = b.cutter.motors[m].ready ∧
    t.cutter.motors[m].torque = b.cutter.motors[m].torque ∧
    t.cutter.motors[m].membership = b.cutter.motors[m].membership

theorem ReportKept.refl (b : State) : ReportKept b b := ⟨rfl, rfl, rfl, rfl, rfl, rfl, fun _ => ⟨rfl, rfl, rfl⟩⟩

theorem ReportKept.trans {b t u : State} (h : ReportKept b t) (h' : ReportKept t u) : ReportKept b u where
  store := h'.store.trans h.store
  direction := h'.direction.trans h.direction
  requested := h'.requested.trans h.requested
  measured := h'.measured.trans h.measured
  firstPending := h'.firstPending.trans h.firstPending
  ceiling := h'.ceiling.trans h.ceiling
  motors m := by
    obtain ⟨hr, ht, hm⟩ := h.motors m
    obtain ⟨hr', ht', hm'⟩ := h'.motors m
    exact ⟨hr'.trans hr, ht'.trans ht, hm'.trans hm⟩

theorem reportKept_leaveIfRunning (b : State) : ReportKept b (leaveIfRunning b) := by
  unfold leaveIfRunning
  split
  · exact ⟨rfl, rfl, rfl, rfl, rfl, rfl, fun m => by simp [leaveRunning, Motor.settled]⟩
  · exact .refl b

theorem reportKept_enterRest (r : RunState) (b : State) : ReportKept b (enterRest r b) :=
  (reportKept_leaveIfRunning b).trans ⟨rfl, rfl, rfl, rfl, rfl, rfl, fun _ => ⟨rfl, rfl, rfl⟩⟩

theorem reportKept_enterStopping (b : State) : ReportKept b (enterStopping b) := by
  refine (reportKept_leaveIfRunning b).trans ?_
  have hsame : ∀ c : Cutter, (retarget 0 b.now c).direction = c.direction ∧ (retarget 0 b.now c).requested = c.requested ∧
      (retarget 0 b.now c).measured = c.measured ∧ (retarget 0 b.now c).firstPending = c.firstPending := by
    intro c
    unfold retarget
    split
    · exact ⟨rfl, rfl, rfl, rfl⟩
    · split <;> exact ⟨rfl, rfl, rfl, rfl⟩
  obtain ⟨hd, hr, hm, hf⟩ := hsame { (leaveIfRunning b).cutter with run := .stopping, jam := none }
  exact ⟨rfl, by rw [enterStopping_cutter, hd], by rw [enterStopping_cutter, hr], by rw [enterStopping_cutter, hm],
    by rw [enterStopping_cutter, hf], by simp [enterStopping_cutter], fun m => by simp [enterStopping_cutter]⟩

theorem reportKept_enterRunning (b : State) : ReportKept b (enterRunning b) := by
  refine ⟨rfl, rfl, rfl, rfl, rfl, rfl, fun m => ?_⟩
  simp only [enterRunning, Fin.getElem_fin, getElem_updateEach]
  split <;> exact ⟨rfl, rfl, rfl⟩

theorem reportKept_shareTest (b : State) : ReportKept b (shareTest b) := by
  refine ⟨rfl, rfl, rfl, rfl, rfl, rfl, fun m => ?_⟩
  simp only [shareTest, shareMotor, Fin.getElem_fin, getElem_updateEach]
  split
  · split <;> exact ⟨rfl, rfl, rfl⟩
  · exact ⟨rfl, rfl, rfl⟩

theorem reportKept_jamTest (b : State) : ReportKept b (jamTest b) :=
  ⟨rfl, rfl, rfl, rfl, rfl, rfl, fun _ => ⟨rfl, rfl, rfl⟩⟩

theorem reportKept_rockSucceeds (b : State) : ReportKept b (rockSucceeds b) :=
  (reportKept_enterRest .stopped b).trans ⟨rfl, rfl, rfl, rfl, rfl, rfl, fun _ => ⟨rfl, rfl, rfl⟩⟩

theorem motors_eq_of_kept {b t : State} (h : ReportKept b t) (p : Motor → Bool)
    (hp : ∀ m m' : Motor, m.membership = m'.membership → p m = p m') :
    countWhere t.cutter.motors p = countWhere b.cutter.motors p := by
  rw [countWhere, countWhere, toList_eq_map_finRange, toList_eq_map_finRange, List.countP_map, List.countP_map]
  refine congrArg (List.countP · _) (funext fun m => hp _ _ (h.motors m).2.2)

theorem ReportKept.inMotors {b t : State} (h : ReportKept b t) : inMotors t.cutter = inMotors b.cutter :=
  motors_eq_of_kept h Motor.isIn fun _ _ hm => motorIsIn_congr hm

theorem ReportKept.inTorque {b t : State} (h : ReportKept b t) : inTorque t.cutter = inTorque b.cutter := by
  have hsum : ∀ c : Cutter, Machine.inTorque c =
      (((List.finRange 8).filter fun m => c.motors[m].isIn).map fun m => c.motors[m].torque).sum := by
    intro c
    rw [Machine.inTorque, toList_eq_map_finRange, List.filter_map, List.map_map]
    rfl
  have hin : (fun m : Fin 8 => t.cutter.motors[m].isIn) = fun m => b.cutter.motors[m].isIn :=
    funext fun m => motorIsIn_congr (h.motors m).2.2
  have htorque : (fun m : Fin 8 => t.cutter.motors[m].torque) = fun m => b.cutter.motors[m].torque :=
    funext fun m => (h.motors m).2.1
  rw [hsum, hsum, hin, htorque]

theorem ReportKept.atBreakout {b t : State} (h : ReportKept b t) : atBreakout t = atBreakout b := by
  have hprofile : activeProfile t = activeProfile b := by simp only [activeProfile, h.store]
  simp only [Machine.atBreakout, h.inTorque, h.ceiling, hprofile]

/-! ## The ends of a report (R139) -/

/-- The eleven ends of a DRIVE REPORT, by run state. -/
inductive DriveEnd (b : State) : State → Prop
  | rest (h : atRest b.cutter.run = true) : DriveEnd b b
  | halted (h : turning b.cutter.run = true) (hlow : motorsLow b = true) (hm : b.cutter.measured = 0) :
      DriveEnd b (enterRest .stopped (enterStopping b))
  | stopping (h : turning b.cutter.run = true) (hlow : motorsLow b = true) (hm : b.cutter.measured ≠ 0) :
      DriveEnd b (enterStopping b)
  | interrupted (h : b.cutter.run = .rocking) (hlow : motorsLow b = true) : DriveEnd b (enterRest .jammed b)
  | stopped (h : b.cutter.run = .stopping) (hm : b.cutter.measured = 0) : DriveEnd b (enterRest .stopped b)
  | slowing (h : b.cutter.run = .stopping) (hm : b.cutter.measured ≠ 0) : DriveEnd b b
  | started (h : b.cutter.run = .starting) (hlow : motorsLow b = false) (hr : runningTest b.cutter = true) :
      DriveEnd b (jamTest (enterRunning b))
  | starting (h : b.cutter.run = .starting) (hlow : motorsLow b = false) (hr : runningTest b.cutter = false) :
      DriveEnd b (jamTest b)
  | running (h : b.cutter.run = .running) (hlow : motorsLow b = false) : DriveEnd b (jamTest (shareTest b))
  | succeeded (h : b.cutter.run = .rocking) (hlow : motorsLow b = false)
      (hs : b.cutter.phase = some .forward ∧ successTest b = true) : DriveEnd b (rockSucceeds b)
  | rocking (h : b.cutter.run = .rocking) (hlow : motorsLow b = false)
      (hs : ¬(b.cutter.phase = some .forward ∧ successTest b = true)) : DriveEnd b b

theorem driveTests_of_stopping {b : State} (h : b.cutter.run = .stopping) :
    driveTests b = if b.cutter.measured = 0 then enterRest .stopped b else b := by
  unfold driveTests
  rw [h]

theorem driveTests_of_rest {b : State} (h : atRest b.cutter.run = true) : driveTests b = b := by
  unfold driveTests
  cases hr : b.cutter.run <;> simp_all [atRest]

theorem stopIfMotorsLow_of_still {b : State} (h1 : turning b.cutter.run = false) (h2 : b.cutter.run ≠ .rocking) :
    stopIfMotorsLow b = b := by
  obtain ⟨-, e⟩ | ⟨-, e⟩ := stopIfMotorsLow_cases b
  · exact e
  · rw [e, forcedStop_of_still h1 h2]

theorem driveEnd_of_low_turning {b : State} (h : turning b.cutter.run = true) (hlow : motorsLow b = true) :
    DriveEnd b (driven b) := by
  have hstop : driven b = driveTests (enterStopping b) := by
    rw [driven, stopIfMotorsLow, if_pos hlow, forcedStop_of_turning h]
  rw [hstop, driveTests_of_stopping (enterStopping_record b).1, (reportKept_enterStopping b).measured]
  by_cases hm : b.cutter.measured = 0
  · rw [if_pos hm]
    exact .halted h hlow hm
  · rw [if_neg hm]
    exact .stopping h hlow hm

theorem driveEnd_of_stopping {b : State} (h : b.cutter.run = .stopping) : DriveEnd b (driven b) := by
  rw [driven, stopIfMotorsLow_of_still (by rw [h]; rfl) (by simp [h]), driveTests_of_stopping h]
  by_cases hm : b.cutter.measured = 0
  · rw [if_pos hm]
    exact .stopped h hm
  · rw [if_neg hm]
    exact .slowing h hm

theorem driveEnd_of_rest {b : State} (h : atRest b.cutter.run = true) : DriveEnd b (driven b) := by
  have hstill : turning b.cutter.run = false ∧ b.cutter.run ≠ .rocking := by
    cases hr : b.cutter.run <;> simp_all [atRest, turning]
  rw [driven, stopIfMotorsLow_of_still hstill.1 hstill.2, driveTests_of_rest h]
  exact .rest h

theorem driven_of_enough {b : State} (hlow : motorsLow b = false) : driven b = driveTests b := by
  rw [driven, stopIfMotorsLow, if_neg (by simp [hlow])]

theorem driveEnd_driven (b : State) : DriveEnd b (driven b) := by
  cases hr : b.cutter.run with
  | stopped | jammed | tripped => exact driveEnd_of_rest (by rw [hr]; rfl)
  | stopping => exact driveEnd_of_stopping hr
  | starting =>
    cases hlow : motorsLow b with
    | true => exact driveEnd_of_low_turning (by rw [hr]; rfl) hlow
    | false =>
      have htests : driveTests b = jamTest (if runningTest b.cutter then enterRunning b else b) := by
        unfold driveTests
        rw [hr]
      rw [driven_of_enough hlow, htests]
      cases htest : runningTest b.cutter with
      | true => exact .started hr hlow htest
      | false => exact .starting hr hlow htest
  | running =>
    cases hlow : motorsLow b with
    | true => exact driveEnd_of_low_turning (by rw [hr]; rfl) hlow
    | false =>
      have htests : driveTests b = jamTest (shareTest b) := by
        unfold driveTests
        rw [hr]
      rw [driven_of_enough hlow, htests]
      exact .running hr hlow
  | rocking =>
    cases hlow : motorsLow b with
    | true =>
      have hstop : stopIfMotorsLow b = enterRest .jammed b := by
        rw [stopIfMotorsLow, if_pos hlow, forcedStop, hr]
      rw [driven, hstop, driveTests_of_rest rfl]
      exact .interrupted hr hlow
    | false =>
      have htests : driveTests b =
          if b.cutter.phase = some .forward ∧ successTest b then rockSucceeds b else b := by
        unfold driveTests
        rw [hr]
      rw [driven_of_enough hlow, htests]
      by_cases hs : b.cutter.phase = some .forward ∧ successTest b = true
      · rw [if_pos hs]
        exact .succeeded hr hlow hs
      · rw [if_neg hs]
        exact .rocking hr hlow hs

theorem DriveEnd.acts {b t : State} (h : DriveEnd b t) : BlocksAct [] [.cutter, .chamber] b t := by
  have hcutter : ∀ (c : Cutter) (u : State), BlocksAct [] [.cutter, .chamber] u { u with cutter := c } := fun c u =>
    (acts_of_cutter c u).mono (by simp)
  have hrun : BlocksAct [] [.cutter, .chamber] b (enterRunning b) := { alters := {} }
  have hstop : BlocksAct [] [.cutter, .chamber] b (enterStopping b) := { alters := {} }
  cases h with
  | rest | slowing | rocking => exact .refl _ _
  | halted => exact hstop.trans (enterRest_acts _ _)
  | stopping => exact hstop
  | interrupted | stopped => exact enterRest_acts _ _
  | started => exact hrun.trans (hcutter _ _)
  | starting => exact hcutter _ _
  | running => exact (hcutter _ _).trans (hcutter _ _)
  | succeeded => exact (enterRest_acts _ _).trans (hcutter _ _)

theorem DriveEnd.kept {b t : State} (h : DriveEnd b t) : ReportKept b t := by
  cases h with
  | rest | slowing | rocking => exact .refl _
  | halted => exact (reportKept_enterStopping b).trans (reportKept_enterRest _ _)
  | stopping => exact reportKept_enterStopping b
  | interrupted | stopped => exact reportKept_enterRest _ b
  | started => exact (reportKept_enterRunning b).trans (reportKept_jamTest _)
  | starting => exact reportKept_jamTest b
  | running => exact (reportKept_shareTest b).trans (reportKept_jamTest _)
  | succeeded => exact reportKept_rockSucceeds b

theorem driven_acts (a : DriveArgs) (s : State) : BlocksAct [] [.cutter, .chamber] s (driven (reported a s)) := by
  have hreport : BlocksAct [] [.cutter, .chamber] s (reported a s) := (acts_of_cutter _ s).mono (by simp)
  exact hreport.trans (driveEnd_driven _).acts

/-! ## What the ends leave of the run -/

section Ends
variable {b t : State}

theorem enterRest_run (r : RunState) (b : State) : (enterRest r b).cutter.run = r := rfl

theorem rockSucceeds_run (b : State) : (rockSucceeds b).cutter.run = .stopped := rfl

/-- A run that comes to rest leaves no reference (R142). -/
theorem restReference {r : RunState} (hr : atRest r = true) (hne : r ≠ b.cutter.run) :
    0 = if r = b.cutter.run ∨ atRest r = false then b.cutter.reference else 0 := by
  rw [if_neg]
  rintro (h | h)
  · exact hne h
  · simp [hr] at h

theorem DriveEnd.reference (h : DriveEnd b t) : t.cutter.reference =
    if t.cutter.run = b.cutter.run ∨ atRest t.cutter.run = false then b.cutter.reference else 0 := by
  cases h with
  | rest | slowing | rocking => rw [if_pos (.inl rfl)]
  | halted h =>
    exact restReference (r := .stopped) rfl fun hr => absurd (hr ▸ h) (by decide)
  | stopping =>
    obtain ⟨hrun, href, -⟩ := enterStopping_record b
    rw [hrun, if_pos (.inr rfl), href]
  | interrupted h => exact restReference (r := .jammed) rfl (by simp [h])
  | stopped h => exact restReference (r := .stopped) rfl (by simp [h])
  | started =>
    rw [if_pos (.inr rfl)]
    rfl
  | starting | running =>
    rw [if_pos (.inl rfl)]
    rfl
  | succeeded h => exact restReference (r := .stopped) rfl (by simp [h])

/-- Too few IN motors stop the run (R146). -/
theorem DriveEnd.run_of_low (h : DriveEnd b t) (hlow : motorsLow b = true) : t.cutter.run =
    if turning b.cutter.run then (if b.cutter.measured = 0 then .stopped else .stopping)
    else if b.cutter.run = .rocking then .jammed
    else if b.cutter.run = .stopping ∧ b.cutter.measured = 0 then .stopped else b.cutter.run := by
  cases h with
  | rest h => cases hr : b.cutter.run <;> simp_all [atRest, turning]
  | halted h _ hm =>
    rw [if_pos h, if_pos hm]
    rfl
  | stopping h _ hm => rw [if_pos h, if_neg hm, (enterStopping_record b).1]
  | interrupted h =>
    rw [h]
    rfl
  | stopped h hm =>
    rw [h, hm]
    rfl
  | slowing h hm => simp [h, hm, turning]
  | started _ hl | starting _ hl | running _ hl | succeeded _ hl | rocking _ hl => simp [hl] at hlow

/-- The run where the IN motors are enough, by run state (R143, R147, R156). -/
theorem DriveEnd.run_of_enough (h : DriveEnd b t) (hlow : motorsLow b = false) : t.cutter.run =
    match b.cutter.run with
    | .starting => if runningTest b.cutter then .running else .starting
    | .running => .running
    | .stopping => if b.cutter.measured = 0 then .stopped else .stopping
    | .rocking => if b.cutter.phase = some .forward ∧ successTest b = true then .stopped else .rocking
    | .stopped => .stopped
    | .jammed => .jammed
    | .tripped => .tripped := by
  cases h with
  | rest h => cases hr : b.cutter.run <;> simp_all [atRest]
  | halted _ hl | stopping _ hl | interrupted _ hl => simp [hl] at hlow
  | stopped h hm =>
    rw [h, if_pos hm]
    rfl
  | slowing h hm => simp [h, hm]
  | started h _ hr =>
    rw [h, if_pos hr]
    rfl
  | starting h _ hr =>
    rw [h, if_neg (by simp [hr])]
    exact h
  | running h =>
    rw [h]
    exact h
  | succeeded h _ hs =>
    rw [h, if_pos hs]
    rfl
  | rocking h _ hs => simp [h, hs]

/-- An attempt that has succeeded leaves nothing of itself (R156). -/
theorem DriveEnd.succeeds (h : DriveEnd b t) (hlow : motorsLow b = false) (hb : b.cutter.run = .rocking)
    (ht : t.cutter.run = .stopped) :
    t.cutter.attempts = 0 ∧ t.cutter.phase = none ∧ t.cutter.rock = none ∧ t.cutter.reference = 0 := by
  cases h with
  | rest h => simp [hb, atRest] at h
  | halted _ hl | stopping _ hl | interrupted _ hl => simp [hl] at hlow
  | stopped h | slowing h | started h | starting h | running h => simp [hb] at h
  | succeeded => exact ⟨rfl, rfl, rfl, rfl⟩
  | rocking => simp [hb] at ht

theorem DriveEnd.attempts (h : DriveEnd b t) (ht : t.cutter.run = .rocking) :
    t.cutter.attempts = b.cutter.attempts := by
  cases h with
  | rest | slowing | rocking => rfl
  | halted | interrupted | stopped => exact absurd ht (by simp [enterRest_run])
  | succeeded => exact absurd ht (by simp [rockSucceeds_run])
  | started => exact absurd ht (by simp [jamTest, enterRunning])
  | stopping => exact absurd ((enterStopping_record b).1.symm.trans ht) (by decide)
  | starting => rfl
  | running => rfl

/-- RUNNING takes the snapshot back into the integrator (R127). -/
theorem DriveEnd.entered (h : DriveEnd b t) (ht : t.cutter.run = .running) (hb : b.cutter.run = .starting) :
    t.chamber.integrator = b.chamber.snapshot.getD b.chamber.integrator ∧ t.chamber.snapshot = none := by
  cases h with
  | rest h => simp [hb, atRest] at h
  | halted => exact absurd ht (by simp [enterRest_run])
  | stopping => exact absurd ((enterStopping_record b).1.symm.trans ht) (by decide)
  | interrupted h | stopped h | slowing h | running h | succeeded h | rocking h => simp [hb] at h
  | started => exact ⟨rfl, rfl⟩
  | starting h => exact absurd (hb.symm.trans ht) (by decide)

/-- The test of a motor's share (R148). -/
theorem DriveEnd.share (h : DriveEnd b t) (hlow : motorsLow b = false) (hb : b.cutter.run = .running) (m : Fin 8)
    (hin : b.cutter.motors[m].membership = .isIn) :
    t.cutter.motors[m].inShare =
      torqueInShare (activeProfile b).shareWindow (meanTorque b.cutter) b.cutter.motors[m].torque ∧
    t.cutter.motors[m].deviation =
      if t.cutter.motors[m].inShare then none else some (b.cutter.motors[m].deviation.getD b.now) := by
  cases h with
  | rest h => simp [hb, atRest] at h
  | halted _ hl | stopping _ hl | interrupted _ hl => simp [hl] at hlow
  | stopped h | slowing h | started h | starting h | succeeded h | rocking h => simp [hb] at h
  | running =>
    have hmotor : (jamTest (shareTest b)).cutter.motors[m] =
        shareMotor (activeProfile b).shareWindow (meanTorque b.cutter) b.now b.cutter.motors[m] := by
      simp only [jamTest, shareTest, Fin.getElem_fin, getElem_updateEach]
    rw [hmotor, shareMotor, if_pos ((isIn_iff _).mpr hin)]
    split
    · rename_i hshare
      exact ⟨hshare.symm, rfl⟩
    · rename_i hshare
      exact ⟨(Bool.eq_false_of_not_eq_true hshare).symm, rfl⟩

/-- The jam timer runs while the jam conditions hold (R153). -/
theorem DriveEnd.jam (h : DriveEnd b t) (ht : turning t.cutter.run = true) : t.cutter.jam =
    if atBreakout b = true ∧ b.cutter.measured * 10 < t.cutter.reference then some (b.cutter.jam.getD b.now)
    else none := by
  have hjam : ∀ u : State, ReportKept b u → u.cutter.jam = b.cutter.jam → u.now = b.now → (jamTest u).cutter.jam =
      if atBreakout b = true ∧ b.cutter.measured * 10 < u.cutter.reference then some (b.cutter.jam.getD b.now)
      else none := by
    intro u hu hj hn
    simp only [jamTest, jamConditions, hu.atBreakout, hu.measured, hj, hn, Bool.and_eq_true, decide_eq_true_eq]
    rfl
  cases h with
  | rest h => cases hr : b.cutter.run <;> simp_all [atRest, turning]
  | halted | interrupted | stopped => exact absurd ht (by simp [enterRest_run, turning])
  | succeeded => exact absurd ht (by simp [rockSucceeds_run, turning])
  | stopping => exact absurd ht (by rw [(enterStopping_record b).1]; decide)
  | slowing h | rocking h => simp [h, turning] at ht
  | started => exact hjam _ (reportKept_enterRunning b) rfl rfl
  | starting => exact hjam b (.refl b) rfl rfl
  | running => exact hjam _ (reportKept_shareTest b) rfl rfl

end Ends

/-! ## The statement -/

/-- The breakout test, for the torques that a state has after the tests of a report (R153, R156). -/
theorem atBreakout_iff (b : State) : atBreakout b = true ↔
    (activeProfile b).breakout * b.cutter.torqueCeiling ≤ inTorque b.cutter * 1000 := by
  simp [atBreakout]

/-- Settles O42: by the eleven ends of a report, the motors and the ceiling being the same at each of them. -/
theorem driveReportTaken : Obligations.DriveReportTaken := by
  intro s f a hasks hcomm
  obtain ⟨t, ht, hserved, hconds, hcarries⟩ := exec_acts (exec_driveReport .drive s) hasks rfl (.inl hcomm)
    (takeDriveReport_eq a (taken .drive s)) (driven_acts a _) (List.forall_mem_nil _)
  obtain ⟨b, hb⟩ : ∃ b, b = reported a (taken .drive s) := ⟨_, rfl⟩
  rw [← hb] at hserved hcarries
  have hend := driveEnd_driven b
  have hkept := hend.kept
  have hmotor := reported_motor a (taken .drive s)
  have hcutter := hcarries.cutter
  have hceiling : b.cutter.torqueCeiling = torqueCeilingOf b := by rw [hb]; exact updateTorque_ceiling _
  have hlow : motorsLow t = motorsLow b := by
    refine motorsLow_congr (hcarries.profile.trans ?_) (by rw [hcutter, hkept.inMotors])
    simp only [activeProfile, hkept.store]
  have hprofile : activeProfile b = activeProfile s := by rw [hb]; rfl
  have hinTorque : inTorque t.cutter = inTorque b.cutter := by rw [hcutter, hkept.inTorque]
  have htceiling : t.cutter.torqueCeiling = b.cutter.torqueCeiling := by rw [hcutter, hkept.ceiling]
  have hbreakout := atBreakout_iff b
  rw [hprofile, ← hinTorque, ← htceiling] at hbreakout
  rw [← hb] at hmotor
  rw [← hcutter] at hserved
  refine ⟨t, ht, ?_, hconds, ?_, ?_, ?_, ?_, ?_, fun m => ?_, ?_, ?_, ?_, ?_, ?_, ?_⟩
  · convert hserved using 1
    unfold driveFields
    congr 1
    · unfold turnDirection
      cases t.cutter.direction <;> rcases t.cutter.phase with _ | (_ | _) <;> rfl
    · refine congrArg (List.flatMap · _) (funext fun m => ?_)
      rcases m.membership with _ | (_ | _) <;> rfl
  · rw [hcutter, hkept.direction, hb]
    rfl
  · rw [hcutter, hkept.requested, hb]
    rfl
  · rw [hcutter, hend.reference, hb]
    rfl
  · rw [hcutter, hkept.measured, hb]
    rfl
  · rw [hcutter, hkept.firstPending, hb]
    rfl
  · obtain ⟨hready, htorque, hmember⟩ := hkept.motors m
    obtain ⟨hready', htorque', -, hmember'⟩ := hmotor m
    rw [hcutter]
    exact ⟨hready.trans hready', htorque.trans htorque', hmember.trans hmember'⟩
  · rw [htceiling, hceiling, hcarries.torqueCeilingOf]
    refine torqueCeilingOf_congr ?_ ?_ hkept.inMotors.symm
    · simp only [activeProfile, hkept.store]
    · simp only [constantsOf, hkept.store]
  · intro hl
    rw [hcutter, hend.run_of_low (hlow ▸ hl), hb]
    rfl
  · intro hl
    have hl' : motorsLow b = false := hlow ▸ hl
    have hrun := hend.run_of_enough hl'
    rw [← hcutter] at hrun
    have hbrun : b.cutter.run = s.cutter.run := by rw [hb]; rfl
    have htest : runningTest b.cutter = true ↔
        ((a.speed : Int) - s.cutter.requested).natAbs * 10 ≤ s.cutter.requested := by
      rw [hb]
      exact decide_eq_true_iff
    have hsuccess : (b.cutter.phase = some .forward ∧ successTest b = true) ↔
        s.cutter.phase = some .forward ∧ s.cutter.reference ≤ a.speed * 2 ∧
          inTorque t.cutter * 1000 < (activeProfile s).breakout * t.cutter.torqueCeiling := by
      have hphase : b.cutter.phase = s.cutter.phase := by rw [hb]; rfl
      have href : b.cutter.reference = s.cutter.reference := by rw [hb]; rfl
      have hmeasured : b.cutter.measured = a.speed := by rw [hb]; rfl
      rw [successTest, Bool.and_eq_true, decide_eq_true_eq, Bool.not_eq_true', ← Bool.not_eq_true, hbreakout, hphase,
        href, hmeasured, Nat.not_le]
    have hmeasured : b.cutter.measured = a.speed := by rw [hb]; rfl
    rw [hbrun] at hrun
    refine ⟨fun h => ?_, fun h => ?_, fun h => ?_, fun h => ?_, fun h hstop => ?_, fun hrock => ?_, fun h => ?_⟩
    · simpa only [h, htest] using hrun
    · simpa only [h] using hrun
    · simpa only [h, hmeasured] using hrun
    · simpa only [h, hsuccess] using hrun
    · rw [hcutter] at hstop ⊢
      exact hend.succeeds hl' (hbrun.trans h) hstop
    · rw [hcutter] at hrock ⊢
      rw [hend.attempts hrock, hb]
      rfl
    · cases hs : s.cutter.run <;> simp_all [atRest]
  · intro hr hs
    obtain ⟨hsnap, hint, -⟩ := hcarries.chamber_frame
    rw [hcutter] at hr
    have hentered := hend.entered hr (by rw [hb]; exact hs)
    rw [hsnap, hint, hentered.1, hentered.2, hb]
    exact ⟨rfl, rfl⟩
  · intro hl hr m hin
    have hl' : motorsLow b = false := hlow ▸ hl
    obtain ⟨-, htorque, hdeviation, -⟩ := hmotor m
    rw [hcutter] at hin
    have hin' : b.cutter.motors[m].membership = .isIn := (hkept.motors m).2.2.symm.trans hin
    have hshare := hend.share hl' (by rw [hb]; exact hr) m hin'
    have hmean : meanTorque b.cutter = inTorque t.cutter / inMotors t.cutter := by
      rw [meanTorque, hcutter, hkept.inTorque, hkept.inMotors]
    have hnow : b.now = s.now := by rw [hb]; rfl
    rw [hmean, hprofile, htorque, hdeviation, hnow, ← hcutter] at hshare
    exact hshare
  · intro hturn
    rw [hcutter] at hturn
    have hjam := hend.jam hturn
    have hmeasured : b.cutter.measured = a.speed := by rw [hb]; rfl
    have hbefore : b.cutter.jam = s.cutter.jam := by rw [hb]; rfl
    have hnow : b.now = s.now := by rw [hb]; rfl
    rw [← hcutter, hmeasured, hbefore, hnow] at hjam
    simpa only [hbreakout] using hjam

end Sys2Proof.Machine

/-! The chamber and spoil unit (chapter 6): SPOIL REPORT and the loss of the pressure estimate. -/

namespace Sys2Proof.Machine

set_option Elab.async false

theorem exec_spoilReport (p : Port) (s : State) :
    exec (.spoilReport p) s = .next (request 24 [.spoil] false readSpoil takeSpoilReport p s) := rfl

theorem takeSpoilReport_eq (a : SpoilArgs) (s : State) :
    takeSpoilReport a s = .act (spoilTaken a s) .done (spoilFields (spoilTaken a s)) := rfl

/-! ## The referred values in rising order (R119, R120) -/

theorem insertInt_eq (x : Int) (l : List Int) : insertInt x l = l.orderedInsert (· ≤ ·) x := by
  induction l with
  | nil => rfl
  | cons y l ih => rw [insertInt, List.orderedInsert, ih]

theorem sortInts_eq (l : List Int) : sortInts l = l.insertionSort (· ≤ ·) := by
  induction l with
  | nil => rfl
  | cons x l ih =>
    have hcons : sortInts (x :: l) = insertInt x (sortInts l) := rfl
    rw [hcons, ih, insertInt_eq]
    rfl

/-- A rising list of the same values is the list in order. -/
theorem sortInts_unique {l values : List Int} (hp : values.Perm l) (hv : values.Pairwise (· ≤ ·)) : sortInts l = values := by
  rw [sortInts_eq]
  exact ((l.perm_insertionSort _).trans hp.symm).eq_of_pairwise' (l.pairwise_insertionSort _) hv

/-- The referred values of a report (R119). -/
theorem referredValues_of_report (s : State) (a : SpoilArgs) : referredValues (Vector.ofFn (readTransducer s a)) =
    sortInts ((List.finRange 5).filterMap fun k =>
      if a.flags[k] = true ∧ a.pressures[k] ≤ 1000 then
        some (((a.pressures[k] : Nat) : Int) +
          roundAway (((activeProfile s).unitWeight : Int) * (constantsOf s).heights[k]) 10000)
      else none) := by
  rw [referredValues, toList_eq_map_finRange, List.filterMap_map]
  refine congrArg sortInts (congrArg (List.filterMap · _) (funext fun k => ?_))
  simp [readTransducer, pressureValid, referred]

/-! ## The pressure part of a report (R119 to R126) -/

section Pressure
variable {a : SpoilArgs} {s : State}

/-- The transducers read, and the number of the valid ones. -/
def sensed (a : SpoilArgs) (s : State) : State :=
  { s with chamber :=
      { s.chamber with
        transducers := Vector.ofFn (readTransducer s a)
        validCount := (referredValues (Vector.ofFn (readTransducer s a))).length } }

/-- The part with a new estimate (R120). -/
def estimated (v : Int) (x : EstimateStatus) (s : State) : State :=
  { s with chamber := { s.chamber with estimate := v, status := x } }

theorem pressurePart_of_current {v : Int} {x : EstimateStatus}
    (h : estimateOf (referredValues (Vector.ofFn (readTransducer s a))) = some (v, x)) :
    pressurePart a s = controlScrew (estimated v x (sensed a s)) := by
  unfold pressurePart
  simp only [h]
  rfl

theorem pressurePart_of_none (h : estimateOf (referredValues (Vector.ofFn (readTransducer s a))) = none) :
    pressurePart a s = if s.chamber.status = .lost then sensed a s else loseEstimate (sensed a s) := by
  unfold pressurePart
  simp only [h]
  rfl

/-- What the loss of the estimate leaves of the screw (R122, R125, R128). -/
theorem loseEstimate_chamber (s : State) : ∃ snapshot, (loseEstimate s).chamber =
    { s.chamber with
      status := .lost, gateAllowed := false, snapshot
      setpoint := min s.chamber.setpoint (activeProfile s).standstillCeiling } := by
  obtain ⟨u, hu⟩ : ∃ u, u = updateGate (limitSetpoint { s with chamber := { s.chamber with status := .lost } }) := ⟨_, rfl⟩
  have hlose : loseEstimate s = forcedStop u := by rw [hu]; rfl
  have hchamber : u.chamber = { s.chamber with
      status := .lost, gateAllowed := false
      setpoint := min s.chamber.setpoint (activeProfile s).standstillCeiling } := by
    rw [hu]
    simp [updateGate, limitSetpoint, activeProfile]
  rw [hlose]
  obtain e | e := forcedStop_chamber u
  · exact ⟨s.chamber.snapshot, by rw [e, hchamber]⟩
  · exact ⟨some s.chamber.integrator, by rw [e, hchamber]⟩

theorem loseEstimate_run (s : State) : (loseEstimate s).cutter.run =
    if turning s.cutter.run then .stopping else if s.cutter.run = .rocking then .jammed else s.cutter.run :=
  forcedStop_run _

/-- What every report leaves of the pressure part, whatever its values (R117 to R120). -/
theorem pressurePart_read (a : SpoilArgs) (s : State) :
    (pressurePart a s).chamber.transducers = Vector.ofFn (readTransducer s a) ∧
    (pressurePart a s).chamber.validCount = (referredValues (Vector.ofFn (readTransducer s a))).length ∧
    (pressurePart a s).chamber.lastReport = s.chamber.lastReport ∧
    (pressurePart a s).chamber.screwActual = s.chamber.screwActual ∧
    (pressurePart a s).chamber.gate = s.chamber.gate ∧ (pressurePart a s).chamber.beltRef = s.chamber.beltRef ∧
    (pressurePart a s).chamber.lastBelt = s.chamber.lastBelt := by
  cases h : estimateOf (referredValues (Vector.ofFn (readTransducer s a))) with
  | some r =>
    rw [pressurePart_of_current h]
    exact ⟨rfl, rfl, rfl, rfl, rfl, rfl, rfl⟩
  | none =>
    rw [pressurePart_of_none h]
    split
    · exact ⟨rfl, rfl, rfl, rfl, rfl, rfl, rfl⟩
    · obtain ⟨snapshot, e⟩ := loseEstimate_chamber (sensed a s)
      rw [e]
      exact ⟨rfl, rfl, rfl, rfl, rfl, rfl, rfl⟩

/-- The estimate of R120 and its status. -/
theorem pressurePart_estimate (a : SpoilArgs) (s : State) :
    ((pressurePart a s).chamber.estimate, (pressurePart a s).chamber.status) =
      (estimateOf (referredValues (Vector.ofFn (readTransducer s a)))).getD (s.chamber.estimate, .lost) := by
  cases h : estimateOf (referredValues (Vector.ofFn (readTransducer s a))) with
  | some r =>
    rw [pressurePart_of_current h]
    rfl
  | none =>
    rw [pressurePart_of_none h]
    split
    · rename_i hlost
      exact Prod.ext rfl hlost
    · obtain ⟨snapshot, e⟩ := loseEstimate_chamber (sensed a s)
      rw [e]
      rfl

/-- The table of R120 gives an estimate for one to five values. -/
theorem estimateOf_isSome {values : List Int} (h : values ≠ []) (hlen : values.length ≤ 5) :
    ∃ v x, estimateOf values = some (v, x) ∧ x ≠ .lost := by
  match values, hlen with
  | [], _ => exact absurd rfl h
  | [_], _ | [_, _], _ | [_, _, _], _ | [_, _, _, _], _ | [_, _, _, _, _], _ => exact ⟨_, _, rfl, by decide⟩

/-- The screw at a report with a current estimate (R123, R124, R126, R128). -/
theorem controlScrew_chamber {u : State} {p : Profile} (hp : activeProfile u = p) (hx : u.chamber.status ≠ .lost)
    (hc : commissioned u = true) {e : Int} (he : e = u.chamber.estimate - p.faceTarget) :
    (controlScrew u).chamber.estimate = u.chamber.estimate ∧ (controlScrew u).chamber.gateAllowed = true ∧
    (controlScrew u).chamber.integrator =
      (if u.chamber.setpoint = 0 ∧ e < 0 ∨ u.chamber.setpoint = p.screwMax ∧ 0 < e then u.chamber.integrator
      else min (u.chamber.integrator + p.ki * e).toNat (1000 * p.screwMax)) ∧
    ∀ v : Int, v = roundHalfUp (p.kp * e + (controlScrew u).chamber.integrator + p.kf * u.account.speed) 1000 →
      (controlScrew u).chamber.setpoint =
        if standstillLimit u then min (min v.toNat p.screwMax) p.standstillCeiling else min v.toNat p.screwMax := by
  subst hp he
  refine ⟨rfl, ?_, ?_, fun v hv => ?_⟩
  · simp [controlScrew, computeSetpoint, updateGate, hx, hc]
  · have hint : (controlScrew u).chamber.integrator =
        if u.chamber.setpoint = 0 ∧ pressureError u < 0 then u.chamber.integrator
        else if u.chamber.setpoint = (activeProfile u).screwMax ∧ 0 < pressureError u then u.chamber.integrator
        else min (u.chamber.integrator + (activeProfile u).ki * pressureError u).toNat
          (1000 * (activeProfile u).screwMax) := rfl
    rw [hint, ← pressureError]
    split_ifs <;> tauto
  · subst hv
    rfl

end Pressure

/-! ## The belt part (R129, R130) -/

section Belt
variable {counter : Nat} {s : State}

theorem beltPart_of_first (h : s.chamber.beltRef = none) :
    beltPart counter s = { s with chamber := { s.chamber with beltRef := some counter, lastBelt := none } } := by
  unfold beltPart
  rw [h]

theorem beltPart_of_reference {reference amount : Nat} (h : s.chamber.beltRef = some reference)
    (ha : amount = (counter + 2 ^ 32 - reference) % 2 ^ 32) : beltPart counter s =
      { s with
        chamber :=
          { s.chamber with
            beltRef := some counter, lastBelt := some { amount, accepted := decide (amount ≤ 50000) }
            spoilCounter := !decide (amount ≤ 50000) }
        account :=
          { s.account with
            cycle :=
              { s.account.cycle with
                measured := if amount ≤ 50000 then satAdd s.account.cycle.measured amount
                  else s.account.cycle.measured } } } := by
  have hd : beltDifference counter reference = { amount, accepted := decide (amount ≤ 50000) } := by
    rw [beltDifference, ← ha]
    rfl
  unfold beltPart
  rw [h]
  simp only [hd]
  by_cases hacc : amount ≤ 50000
  · simp [hacc]
  · simp [hacc]

/-- The belt part keeps all but its own fields. -/
theorem beltPart_frame (counter : Nat) (s : State) :
    (beltPart counter s).chamber.estimate = s.chamber.estimate ∧ (beltPart counter s).chamber.status = s.chamber.status ∧
    (beltPart counter s).chamber.transducers = s.chamber.transducers ∧
    (beltPart counter s).chamber.validCount = s.chamber.validCount ∧
    (beltPart counter s).chamber.lastReport = s.chamber.lastReport ∧
    (beltPart counter s).chamber.screwActual = s.chamber.screwActual ∧
    (beltPart counter s).chamber.gate = s.chamber.gate ∧ (beltPart counter s).chamber.setpoint = s.chamber.setpoint ∧
    (beltPart counter s).chamber.gateAllowed = s.chamber.gateAllowed ∧
    (beltPart counter s).chamber.integrator = s.chamber.integrator ∧
    (beltPart counter s).chamber.beltRef = some counter ∧ (beltPart counter s).cutter = s.cutter := by
  cases h : s.chamber.beltRef with
  | none =>
    rw [beltPart_of_first h]
    and_intros <;> rfl
  | some reference =>
    rw [beltPart_of_reference h rfl]
    and_intros <;> rfl

/-- What the part has measured of a cycle does not reach the advance permit (R171). -/
theorem speedCeiling_measured (u : State) (n : Nat) : speedCeiling
    { u with account := { u.account with cycle := { u.account.cycle with measured := n } } } = speedCeiling u := rfl

theorem beltFields_some (amount : Nat) : beltFields (some { amount, accepted := decide (amount ≤ 50000) }) =
    [.u8 1, .u32 amount, .u8 (if amount ≤ 50000 then 0 else 1)] := by
  by_cases h : amount ≤ 50000 <;> simp [beltFields, optU32, yesNo, h]

end Belt

/-! ## The report -/

section Report
variable {a : SpoilArgs} {s : State}

/-- The report noted (R117, R118). -/
def noted (a : SpoilArgs) (s : State) : State :=
  { s with chamber := { s.chamber with lastReport := some s.now, screwActual := a.screw, gate := a.gate } }

theorem spoilTaken_eq (a : SpoilArgs) (s : State) :
    spoilTaken a s = beltPart a.belt (pressurePart a (noted a s)) := rfl

theorem acts_of_chamber (k : Chamber) (s : State) : BlocksAct [] [.chamber] s { s with chamber := k } where
  alters := {}

theorem loseEstimate_acts (s : State) : BlocksAct [] [.chamber, .cutter] s (loseEstimate s) where
  alters := {}

theorem pressurePart_acts (a : SpoilArgs) (s : State) : BlocksAct [] [.chamber, .cutter] s (pressurePart a s) := by
  have hchamber : ∀ k : Chamber, BlocksAct [] [.chamber, .cutter] s { s with chamber := k } := fun k =>
    (acts_of_chamber k s).mono (by simp)
  cases h : estimateOf (referredValues (Vector.ofFn (readTransducer s a))) with
  | some r =>
    rw [pressurePart_of_current h]
    exact hchamber _
  | none =>
    rw [pressurePart_of_none h]
    split
    · exact hchamber _
    · exact (hchamber _).trans (loseEstimate_acts _)

theorem beltPart_acts (counter : Nat) (s : State) : BlocksAct [] [.chamber, .account] s (beltPart counter s) := by
  have hboth : ∀ k a, BlocksAct [] [.chamber, .account] s { s with chamber := k, account := a } := fun _ _ =>
    { alters := {} }
  cases h : s.chamber.beltRef with
  | none =>
    rw [beltPart_of_first h]
    exact (acts_of_chamber _ s).mono (by simp)
  | some reference =>
    rw [beltPart_of_reference h rfl]
    exact hboth _ _

theorem spoilTaken_acts (a : SpoilArgs) (s : State) :
    BlocksAct [] [.chamber, .cutter, .account] s (spoilTaken a s) :=
  (((acts_of_chamber _ s).mono (by simp)).trans ((pressurePart_acts a (noted a s)).mono (by simp))).trans
    ((beltPart_acts a.belt _).mono (by simp))

/-- A setpoint that is low enough is not held down. -/
theorem heldDown_of_le {s t : State} (h : s.chamber.setpoint ≤ (activeProfile t).standstillCeiling) :
    heldDown s t = s.chamber := by
  rw [heldDown, Nat.min_eq_left h]

/-- A report with a current estimate leaves the advance permit as it stood (R171). -/
theorem speedCeiling_spoilTaken (hcutter : (spoilTaken a s).cutter = s.cutter) :
    speedCeiling (spoilTaken a s) = speedCeiling s := by
  have hacts := (spoilTaken_acts a s).alters
  obtain ⟨n, haccount⟩ : ∃ n, (spoilTaken a s).account =
      { s.account with cycle := { s.account.cycle with measured := n } } := by
    obtain ⟨n, e⟩ := beltPart_account a.belt (pressurePart a (noted a s))
    have hkeep : (pressurePart a (noted a s)).account = s.account :=
      (pressurePart_acts a (noted a s)).alters.account (by simp)
    exact ⟨n, by rw [spoilTaken_eq, e, hkeep]⟩
  rw [← speedCeiling_measured s n]
  exact speedCeiling_congr (hacts.store (by simp)) (hacts.modes (by simp)) hcutter (hacts.grout (by simp)) haccount
    (hacts.groups (by simp)) (someOvertime_of_stack (hacts.stack (by simp)))

/-- The three ends of the pressure part: a current estimate, the estimate LOST as before, the estimate lost now. -/
theorem estimate_cases {values : List Int} (hv : referredValues (Vector.ofFn (readTransducer s a)) = values)
    (hlen : values.length ≤ 5) :
    (values ≠ [] ∧ ∃ v x, x ≠ .lost ∧ pressurePart a s = controlScrew (estimated v x (sensed a s))) ∨
    (values = [] ∧ s.chamber.status = .lost ∧ pressurePart a s = sensed a s) ∨
    (values = [] ∧ s.chamber.status ≠ .lost ∧ pressurePart a s = loseEstimate (sensed a s)) := by
  by_cases h : values = []
  · have hnone : estimateOf (referredValues (Vector.ofFn (readTransducer s a))) = none := by
      rw [hv, h]
      rfl
    by_cases hlost : s.chamber.status = .lost
    · exact .inr (.inl ⟨h, hlost, (pressurePart_of_none hnone).trans (if_pos hlost)⟩)
    · exact .inr (.inr ⟨h, hlost, (pressurePart_of_none hnone).trans (if_neg hlost)⟩)
  · obtain ⟨v, x, he, hx⟩ := estimateOf_isSome h hlen
    exact .inl ⟨h, v, x, hx, pressurePart_of_current (by rw [hv, he])⟩

end Report

/-- What a report leaves of the part whose screw is held. -/
theorem report_setpoint_held {a : SpoilArgs} {s t : State} {values : List Int} (hheld : ScrewHeld s)
    (hv : referredValues (Vector.ofFn (readTransducer (noted a (taken .spoil s)) a)) = values) (hlen : values.length ≤ 5)
    (h : Carries (spoilTaken a (taken .spoil s)) t) : t.chamber = (spoilTaken a (taken .spoil s)).chamber ∧
      (values ≠ [] → standstillLimit t = standstillLimit s) := by
  obtain ⟨-, -, -, -, -, -, -, hset, -, -, -, hcutter⟩ := beltPart_frame a.belt (pressurePart a (noted a (taken .spoil s)))
  rw [← spoilTaken_eq] at hset hcutter
  have hprofile : activeProfile t = activeProfile s :=
    h.profile.trans (activeProfile_of_store ((spoilTaken_acts a (taken .spoil s)).alters.store (by simp)))
  have hkeep : (spoilTaken a (taken .spoil s)).chamber.setpoint ≤ (activeProfile s).standstillCeiling →
      t.chamber = (spoilTaken a (taken .spoil s)).chamber := by
    intro hle
    rw [h.chamber, heldDown_of_le (by rwa [hprofile]), ite_self]
  obtain ⟨hsome, v, x, -, he⟩ | ⟨hnone, hlost, he⟩ | ⟨hnone, -, he⟩ := estimate_cases hv hlen
  · have hrest : (spoilTaken a (taken .spoil s)).cutter = (taken .spoil s).cutter := by
      rw [hcutter, he]
      rfl
    have hallow : t.permits.advance.allowed = s.permits.advance.allowed := by
      have hceil : speedCeiling (taken .spoil s) = speedCeiling s := rfl
      rw [h.permits, hheld.permits]
      simp only [permitsOf, advancePermitOf, speedCeiling_spoilTaken hrest, hceil]
    have hlimit : standstillLimit t = standstillLimit s := by
      simp only [standstillLimit, hallow, h.cutter, hrest]
      rfl
    refine ⟨?_, fun _ => hlimit⟩
    cases hl : standstillLimit s with
    | false => rw [h.chamber, hlimit, hl, if_neg (by decide)]
    | true =>
      refine hkeep ?_
      have hcontrol : (controlScrew (estimated v x (sensed a (noted a (taken .spoil s))))).chamber.setpoint =
          if standstillLimit s then min (controlSetpoint { estimated v x (sensed a (noted a (taken .spoil s))) with
            chamber := (controlScrew (estimated v x (sensed a (noted a (taken .spoil s))))).chamber })
              (activeProfile s).standstillCeiling
          else controlSetpoint { estimated v x (sensed a (noted a (taken .spoil s))) with
            chamber := (controlScrew (estimated v x (sensed a (noted a (taken .spoil s))))).chamber } := rfl
      rw [hset, he, hcontrol, hl, if_pos rfl]
      exact Nat.min_le_right _ _
  · refine ⟨hkeep ?_, fun hne => absurd hnone hne⟩
    rw [hset, he]
    exact hheld.lost hlost
  · refine ⟨hkeep ?_, fun hne => absurd hnone hne⟩
    obtain ⟨snapshot, hchamber⟩ := loseEstimate_chamber (sensed a (noted a (taken .spoil s)))
    rw [hset, he, hchamber]
    exact Nat.min_le_right _ _

/-- Settles O55: by the three ends of the pressure part; the belt part adds its own fields, and the end of the event
changes nothing of a screw that is held. -/
theorem estimateMadeAndLost : Obligations.EstimateMadeAndLost := by
  refine ⟨fun s f a values p hasks hcomm hheld hp hperm hsorted => ?_, fun s at_ hp hstatus hlast hlate => ?_⟩
  · subst hp
    have hv : referredValues (Vector.ofFn (readTransducer (noted a (taken .spoil s)) a)) = values := by
      rw [referredValues_of_report]
      exact sortInts_unique hperm hsorted
    have hlen : values.length ≤ 5 := by
      rw [hperm.length_eq]
      exact (List.length_filterMap_le _ _).trans (by simp)
    obtain ⟨t, ht, hserved, hconds, hcarries⟩ := exec_acts (exec_spoilReport .spoil s) hasks rfl (.inl hcomm)
      (takeSpoilReport_eq a (taken .spoil s)) (spoilTaken_acts a _) (List.forall_mem_nil _)
    obtain ⟨hchamber, hlimit⟩ := report_setpoint_held hheld hv hlen hcarries
    obtain ⟨w, hw⟩ : ∃ w, w = pressurePart a (noted a (taken .spoil s)) := ⟨_, rfl⟩
    have hends := estimate_cases hv hlen
    have hestimate := pressurePart_estimate a (noted a (taken .spoil s))
    obtain ⟨htrans, hcount, hlast, hactual, hgate, hbelt, -⟩ := pressurePart_read a (noted a (taken .spoil s))
    have haccount := (pressurePart_acts a (noted a (taken .spoil s))).alters.account (by simp)
    rw [spoilTaken_eq, ← hw] at hchamber hserved hcarries
    rw [← hw] at hends hestimate htrans hcount hlast hactual hgate hbelt haccount
    rw [hv] at hestimate hcount
    obtain ⟨fest, fstatus, ftrans, fcount, flast, factual, fgate, fset, fallowed, fint, fref, fcutter⟩ :=
      beltPart_frame a.belt w
    rw [← hchamber] at fest fstatus ftrans fcount flast factual fgate fset fallowed fint fref
    refine ⟨t, ht, ?_, hconds, flast.trans hlast, factual.trans hactual, fgate.trans hgate, fcount.trans hcount,
      fun k => ?_, ?_, fun hne e v he => ?_, fun hnone hstatus => ?_, fref, fun hfirst => ?_, fun reference amount href ha => ?_⟩
    · have hspoil : spoilFields (beltPart a.belt w) =
          [.i16 t.chamber.estimate, .u8 t.chamber.status.code, .u8 values.length, .u16 t.chamber.setpoint,
            yesNo t.chamber.gateAllowed] ++ beltFields t.chamber.lastBelt
            ++ [.u64 t.account.cycle.measured, .u16 a.screw, .u8 a.gate.code] := by
        rw [spoilFields, ← hchamber, ← hcarries.account, fcount, hcount, factual, hactual, fgate, hgate]
        rfl
      rw [hspoil] at hserved
      cases href : s.chamber.beltRef with
      | none =>
        have hlastBelt : t.chamber.lastBelt = none := by rw [hchamber, beltPart_of_first (hbelt.trans href)]
        rw [hlastBelt] at hserved
        exact hserved
      | some reference =>
        have hlastBelt : t.chamber.lastBelt = some
            { amount := (a.belt + 2 ^ 32 - reference) % 2 ^ 32
              accepted := decide ((a.belt + 2 ^ 32 - reference) % 2 ^ 32 ≤ 50000) } := by
          rw [hchamber, beltPart_of_reference (hbelt.trans href) rfl]
        rw [hlastBelt, beltFields_some] at hserved
        exact hserved
    · rw [ftrans, htrans]
      simp [readTransducer, pressureValid]
    · rw [fest, fstatus, hestimate]
      match values, hlen with
      | [], _ | [_], _ | [_, _], _ | [_, _, _], _ | [_, _, _, _], _ | [_, _, _, _, _], _ => rfl
    · obtain ⟨-, x, y, hy, hend⟩ | ⟨hnone, -⟩ | ⟨hnone, -⟩ := hends
      · obtain ⟨u, hu⟩ : ∃ u, u = estimated x y (sensed a (noted a (taken .spoil s))) := ⟨_, rfl⟩
        rw [← hu] at hend
        have hprofile : activeProfile u = activeProfile s := by rw [hu]; rfl
        have hcomm' : commissioned u = true := by rw [hu]; exact hcomm
        have hstatus : u.chamber.status ≠ .lost := by rw [hu]; exact hy
        have hbefore : u.chamber.setpoint = s.chamber.setpoint ∧ u.chamber.integrator = s.chamber.integrator ∧
            u.account = s.account ∧ u.cutter = s.cutter ∧ standstillLimit u = standstillLimit s := by
          rw [hu]
          exact ⟨rfl, rfl, rfl, rfl, rfl⟩
        obtain ⟨hset, hint, hacc, hcut, hlim⟩ := hbefore
        have hest : t.chamber.estimate = u.chamber.estimate := by rw [fest, hend]; rfl
        obtain ⟨-, cgate, cint, cset⟩ := controlScrew_chamber hprofile hstatus hcomm' (he.trans (by rw [hest]))
        rw [← hend] at cgate cint cset
        rw [hset, hint] at cint
        rw [hacc, hlim] at cset
        rw [fallowed, fint, fset, hlimit hne]
        refine ⟨cgate, ?_, cint, fun hv' => cset v hv'⟩
        rw [hcarries.cutter, fcutter, hend]
        exact hcut
      · exact absurd hnone hne
      · exact absurd hnone hne
    · obtain ⟨hne, -⟩ | ⟨-, hlost, -⟩ | ⟨-, -, hend⟩ := hends
      · exact absurd hnone hne
      · exact absurd hlost hstatus
      · obtain ⟨snapshot, hlose⟩ := loseEstimate_chamber (sensed a (noted a (taken .spoil s)))
        rw [← hend] at hlose
        rw [fallowed, fint, fset, hcarries.cutter, fcutter, hlose, hend, loseEstimate_run]
        exact ⟨rfl, rfl, rfl, rfl⟩
    · rw [beltPart_of_first (hbelt.trans hfirst)] at hchamber hcarries
      exact ⟨by rw [hchamber], hcarries.account.trans haccount⟩
    · rw [beltPart_of_reference (hbelt.trans href) ha] at hchamber hcarries
      refine ⟨by rw [hchamber], by rw [hchamber], hcarries.account.trans ?_⟩
      rw [haccount]
      rfl
  · have hdue : estimateDue s = true := by simp [estimateDue, hstatus, hlast, Config.estimateTimeout, hlate]
    obtain ⟨t, ht, hmade, hconds, hcarries⟩ := exec_expires (c := .estimateLossExpiry) (effect := loseEstimate) rfl
      hdue hp (loseEstimate_acts _) (List.forall_mem_nil _)
    obtain ⟨snapshot, hchamber⟩ := loseEstimate_chamber (quiet s)
    have hsame : t.chamber = (loseEstimate (quiet s)).chamber := by
      rw [hcarries.chamber, heldDown_of_le, ite_self]
      have hprofile : activeProfile t = activeProfile (quiet s) :=
        hcarries.profile.trans (activeProfile_of_store (by simp))
      rw [hchamber, hprofile]
      exact Nat.min_le_right _ _
    rw [hchamber] at hsame
    refine ⟨t, ht, hmade, hconds, ?_⟩
    rw [hsame, hcarries.cutter, loseEstimate_run]
    exact ⟨rfl, rfl, rfl, rfl, rfl, rfl, rfl⟩

end Sys2Proof.Machine

/-! Groups that return and that fail (R52, R55), with the ring builder's test that follows (R85, R89). -/

namespace Sys2Proof.Machine

set_option Elab.async false

/-! ## The ring builder's test -/

section Ring
variable {u : State}

theorem ringTest_of_closes (h : u.ring.state = .closing) (ht : closureTest u = true) : ringTest u = closeRing u := by
  unfold ringTest
  rw [h]
  exact if_pos ht

theorem ringTest_of_completes (h : u.ring.state = .aborting) (ht : completionTest u = true) :
    ringTest u = completeAbort u := by
  unfold ringTest
  rw [h]
  exact if_pos ht

theorem ringTest_of_waits (hc : ¬(u.ring.state = .closing ∧ closureTest u = true))
    (ha : ¬(u.ring.state = .aborting ∧ completionTest u = true)) : ringTest u = u := by
  unfold ringTest
  cases h : u.ring.state with
  | closing => exact if_neg fun ht => hc ⟨h, ht⟩
  | aborting => exact if_neg fun ht => ha ⟨h, ht⟩
  | idle | armed | building => rfl

theorem closeRing_acts (u : State) :
    BlocksAct [noticeOn .erector (.ringState (u.ring.number + 1) .idle .closed [] [])] [.account, .store, .ring] u
      (closeRing u) := by
  unfold closeRing announceRing
  exact { alters := {}, sent := rfl }

theorem completeAbort_acts (u : State) :
    BlocksAct [noticeOn .erector (.ringState u.ring.number .armed .abortComplete u.ring.queue u.ring.setList)] [.ring] u
      (completeAbort u) := by
  unfold completeAbort announceRing
  exact { alters := {}, sent := rfl }

end Ring

/-! ## One group's change -/

section Group
variable {s u : State} {g : Fin 16} {r : GroupRec}

theorem heldGroups_of_set (hu : u.groups = s.groups.set g.val r g.isLt) (hr : r.holdCount = s.groups[g].holdCount) :
    heldGroups u = heldGroups s := by
  have hcount := countWhere_set s.groups g r fun x => decide (0 < x.holdCount)
  rw [hr] at hcount
  rw [heldGroups, hu]
  exact Nat.add_right_cancel hcount

theorem someGroupIs_of_set (hu : u.groups = s.groups.set g.val r g.isLt) {x : GroupState} (hr : r.state ≠ x) :
    someGroupIs u x = false ↔ ∀ h : Fin 16, h ≠ g → s.groups[h].state ≠ x := by
  have hall : someGroupIs u x = false ↔ ∀ h : Fin 16, u.groups[h].state ≠ x := by
    rw [someGroupIs, toList_eq_map_finRange, List.any_map, List.any_eq_false]
    simp
  have hother : ∀ h : Fin 16, h ≠ g → u.groups[h] = s.groups[h] := by
    intro h hne
    have hval : g.val ≠ h.val := fun he => hne (Fin.ext he.symm)
    simp [hu, hval]
  have hself : u.groups[g] = r := by simp [hu]
  rw [hall]
  refine ⟨fun h k hne => hother k hne ▸ h k, fun h k => ?_⟩
  by_cases hk : k = g
  · rw [hk, hself]
    exact hr
  · rw [hother k hk]
    exact h k hk

/-- No group but the one named is RETURNING or UNCERTAIN. -/
def OthersSettled (s : State) (g : Fin 16) : Prop :=
  ∀ h : Fin 16, h ≠ g → s.groups[h].state ≠ .returning ∧ s.groups[h].state ≠ .uncertain

theorem unsettled_iff (hu : u.groups = s.groups.set g.val r g.isLt) (hret : r.state ≠ .returning)
    (hunc : r.state ≠ .uncertain) :
    (someGroupIs u .returning = false ∧ someGroupIs u .uncertain = false) ↔ OthersSettled s g := by
  rw [someGroupIs_of_set hu hret, someGroupIs_of_set hu hunc]
  exact ⟨fun h k hk => ⟨h.1 k hk, h.2 k hk⟩, fun h => ⟨fun k hk => (h k hk).1, fun k hk => (h k hk).2⟩⟩

theorem closureTest_of_set (hu : u.groups = s.groups.set g.val r g.isLt) (hret : r.state ≠ .returning)
    (hunc : r.state ≠ .uncertain) (hcount : r.holdCount = s.groups[g].holdCount) :
    closureTest u = true ↔ OthersSettled s g ∧ heldGroups s = 0 := by
  rw [← unsettled_iff hu hret hunc, closureTest, heldGroups_of_set hu hcount]
  simp only [Bool.and_eq_true, decide_eq_true_eq, Bool.not_eq_true']
  tauto

theorem completionTest_of_set (hu : u.groups = s.groups.set g.val r g.isLt) (hret : r.state ≠ .returning)
    (hunc : r.state ≠ .uncertain) (hstack : u.stack = s.stack) :
    completionTest u = true ↔ OthersSettled s g ∧ s.stack.entries = [] := by
  rw [← unsettled_iff hu hret hunc, completionTest, hstack]
  simp only [Bool.and_eq_true, List.isEmpty_iff, Bool.not_eq_true']
  tauto

end Group

/-! ## What a group's change brings to the ring (R63, R85, R89) -/

/-- What becomes of the ring when the change of a group leaves the others settled or not. -/
structure RingFollows (settled : Bool) (told : List Sent) (changed : List Block) (s t : State) : Prop where
  closes : s.ring.state = .closing ∧ settled = true ∧ heldGroups s = 0 →
    changed = [.groups, .account, .store, .ring] ∧
    told = [noticeOn .erector (.ringState (s.ring.number + 1) .idle .closed [] [])] ∧
    t.store = { s.store with lastClosed := s.ring.number } ∧
    t.ring = RingRec.initial (s.ring.number + 1) ∧
    t.account =
      { s.account with
        thrustMean := meanOfThrust t.groups
        cycles := pushCapped 8 s.account.cycles { ring := s.ring.number, cycle := s.account.cycle }
        cycle := Cycle.start }
  completes : s.ring.state = .aborting ∧ settled = true ∧ s.stack.entries = [] →
    changed = [.groups, .account, .ring] ∧
    told = [noticeOn .erector (.ringState s.ring.number .armed .abortComplete s.ring.queue s.ring.setList)] ∧
    t.ring = { s.ring with state := .armed } ∧
    t.account = { s.account with thrustMean := meanOfThrust t.groups }
  waits : ¬(s.ring.state = .closing ∧ settled = true ∧ heldGroups s = 0) →
    ¬(s.ring.state = .aborting ∧ settled = true ∧ s.stack.entries = []) →
    changed = [.groups, .account] ∧ told = [] ∧
    t.account = { s.account with thrustMean := meanOfThrust t.groups }

/-- A group enters a state without an order, and the THRUST mean stroke follows (R36, R42). -/
def groupEntered (g : Fin 16) (x : GroupState) (s : State) : State :=
  updateMean (setGroup g (s.groups[g].enter x s.now) s)

section Change
variable {s : State} {g : Fin 16} {x : GroupState} {settled : Bool}

theorem groupEntered_acts (g : Fin 16) (x : GroupState) (s : State) :
    BlocksAct [] [.groups, .account] s (groupEntered g x s) := by
  unfold groupEntered updateMean
  exact { alters := {} }

/-- The change where the ring builder does not wait for the group. -/
theorem groupEntered_waits (hsettled : settled = false) :
    RingFollows settled [] [.groups, .account] s (groupEntered g x s) where
  closes h := by simp [hsettled] at h
  completes h := by simp [hsettled] at h
  waits _ _ := ⟨rfl, rfl, rfl⟩

/-- The change where the ring builder waits for the group: the ring closes, the abort is complete, or the ring builder
waits on. -/
theorem groupEntered_tested (hret : x ≠ .returning) (hunc : x ≠ .uncertain)
    (hsettled : settled = true ↔ OthersSettled s g) :
    ∃ told changed, BlocksAct told changed s (ringTest (groupEntered g x s)) ∧ (∀ n ∈ told, n.message.place = 0) ∧
      (ringTest (groupEntered g x s)).groups = (groupEntered g x s).groups ∧
      RingFollows settled told changed s (ringTest (groupEntered g x s)) := by
  have hgroups : (groupEntered g x s).groups = s.groups.set g.val (s.groups[g].enter x s.now) g.isLt := rfl
  have hclosure := closureTest_of_set hgroups hret hunc rfl
  have hcompletion := completionTest_of_set hgroups hret hunc rfl
  have hacts := groupEntered_acts g x s
  rw [← hsettled] at hclosure hcompletion
  by_cases hc : s.ring.state = .closing ∧ settled = true ∧ heldGroups s = 0
  · rw [ringTest_of_closes (u := groupEntered g x s) hc.1 (hclosure.mpr hc.2)]
    have hbuild : s.ring.state ≠ .aborting := by simp [hc.1]
    refine ⟨_, [.groups, .account, .store, .ring], (hacts.mono (by simp)).trans ((closeRing_acts _).mono (by simp)), ?_,
      rfl, fun _ => ⟨rfl, rfl, rfl, rfl, rfl⟩, fun h => absurd h.1 hbuild, fun h => absurd hc h⟩
    simp [noticeOn, Message.place]
  · by_cases ha : s.ring.state = .aborting ∧ settled = true ∧ s.stack.entries = []
    · rw [ringTest_of_completes (u := groupEntered g x s) ha.1 (hcompletion.mpr ha.2)]
      refine ⟨_, [.groups, .account, .ring], (hacts.mono (by simp)).trans ((completeAbort_acts _).mono (by simp)), ?_,
        rfl, fun h => absurd h hc, fun _ => ⟨rfl, rfl, rfl, rfl⟩, fun _ h => absurd ha h⟩
      simp [noticeOn, Message.place]
    · rw [ringTest_of_waits (u := groupEntered g x s) (fun h => hc ⟨h.1, hclosure.mp h.2⟩) (fun h => ha ⟨h.1, hcompletion.mp h.2⟩)]
      exact ⟨[], _, hacts, List.forall_mem_nil _, rfl, fun h => absurd h hc, fun h => absurd h ha,
        fun _ _ => ⟨rfl, rfl, rfl⟩⟩

/-- What follows of the ring is told of the records alone. -/
theorem RingFollows.carried {told : List Sent} {changed : List Block} {v t : State}
    (h : RingFollows settled told changed s v) (ht : Carries v t) : RingFollows settled told changed s t where
  closes hc := by
    obtain ⟨hchanged, htold, hstore, hring, haccount⟩ := h.closes hc
    exact ⟨hchanged, htold, ht.store.trans hstore, ht.ring.trans hring, by rw [ht.account, ht.groups, haccount]⟩
  completes hc := by
    obtain ⟨hchanged, htold, hring, haccount⟩ := h.completes hc
    exact ⟨hchanged, htold, ht.ring.trans hring, by rw [ht.account, ht.groups, haccount]⟩
  waits hc ha := by
    obtain ⟨hchanged, htold, haccount⟩ := h.waits hc ha
    exact ⟨hchanged, htold, by rw [ht.account, ht.groups, haccount]⟩

end Change

/-! ## EXTEND DONE (R52, R63) -/

theorem exec_extendDone (p : Port) (s : State) :
    exec (.extendDone p) s = .next (request 4 [.drive] false readConfirmation takeExtendDone p s) := rfl

theorem exec_groupFault (p : Port) (s : State) :
    exec (.groupFault p) s = .next (request 5 [.drive] false readByte takeGroupFault p s) := rfl

section Take
variable {s : State} {g n : Nat}

theorem takeExtendDone_of_range (h : 16 ≤ g) : takeExtendDone (g, n) s = .answer .range [] :=
  dif_neg (Nat.not_lt.mpr h)

theorem takeExtendDone_of_stale (h : g < 16) (hs : s.groups[g].state ≠ .returning ∨ s.groups[g].transition ≠ n) :
    takeExtendDone (g, n) s = .answer .stale [.u8 s.groups[g].state.code, .u8 s.groups[g].transition] := by
  unfold takeExtendDone withGroup
  rw [dif_pos h]
  exact if_neg fun hc => hs.elim (fun hs => hs hc.1) fun hs => hs hc.2

theorem takeExtendDone_of_newest {g : Fin 16} (h : s.groups[g].state = .returning) :
    takeExtendDone (g.val, s.groups[g].transition) s = .act (ringTest (groupEntered g .thrust s)) .done [.u8 0] := by
  unfold takeExtendDone withGroup
  rw [dif_pos g.isLt]
  exact if_pos ⟨h, rfl⟩

theorem takeGroupFault_of_range (h : 16 ≤ g) : takeGroupFault g s = .answer .range [] := dif_neg (Nat.not_lt.mpr h)

theorem takeGroupFault_of_locked {g : Fin 16} (h : s.groups[g].state = .lockedOut) :
    takeGroupFault g.val s = .answer .done [.u8 4] := by
  unfold takeGroupFault withGroup
  rw [dif_pos g.isLt]
  simp only [Fin.eta, h, if_true]
  rfl

theorem takeGroupFault_of_other {g : Fin 16} (h : s.groups[g].state ≠ .lockedOut) : takeGroupFault g.val s =
    .act (ringTestAfter s.groups[g].state (groupEntered g .lockedOut s)) .done [.u8 s.groups[g].state.code] := by
  unfold takeGroupFault withGroup
  rw [dif_pos g.isLt]
  exact if_neg h

end Take

/-- Settles O28: by what the return of one group brings to the ring. -/
theorem extendDoneReturns : Obligations.ExtendDoneReturns := by
  refine ⟨fun s f g n hasks hcomm => ?_, fun s f g settled hasks hcomm hstate hsettled => ?_⟩
  · have hx := exec_extendDone .drive s
    exact ⟨fun h => exec_answers hx hasks rfl (.inl hcomm) (takeExtendDone_of_range h),
      fun h hs => exec_answers hx hasks rfl (.inl hcomm) (takeExtendDone_of_stale (s := taken .drive s) h hs)⟩
  · have hiff : settled = true ↔ OthersSettled s g := by
      rw [hsettled, decide_eq_true_eq]
      rfl
    obtain ⟨told, changed, hacts, hplace, hgroups, hring⟩ := groupEntered_tested (s := taken .drive s) (x := .thrust)
      (by decide) (by decide) hiff
    obtain ⟨t, ht, hserved, hconds, hcarries⟩ := exec_acts (exec_extendDone .drive s) hasks rfl (.inl hcomm)
      (takeExtendDone_of_newest (s := taken .drive s) hstate) hacts hplace
    have hfollows := hring.carried hcarries
    exact ⟨t, told, changed, ht, hserved, hconds, hcarries.groups.trans hgroups, hfollows.closes, hfollows.completes,
      hfollows.waits⟩

/-! ## GROUP FAULT (R55) -/

/-- Settles O29: as O28, for a group that leaves RETURNING or UNCERTAIN; the ring builder does not wait for another one. -/
theorem groupFaultLocksOut : Obligations.GroupFaultLocksOut := by
  refine ⟨fun s f g hasks hcomm h =>
    exec_answers (exec_groupFault .drive s) hasks rfl (.inl hcomm) (takeGroupFault_of_range h), ?_⟩
  intro s f g settled hasks hcomm
  have hx := exec_groupFault .drive s
  refine ⟨fun h => exec_answers hx hasks rfl (.inl hcomm) (takeGroupFault_of_locked (s := taken .drive s) h),
    fun h hsettled => ?_⟩
  have htake := takeGroupFault_of_other (s := taken .drive s) h
  by_cases hwaited : s.groups[g].state = .returning ∨ s.groups[g].state = .uncertain
  · have hiff : settled = true ↔ OthersSettled s g := by
      rw [hsettled, decide_eq_true_eq, and_iff_right hwaited]
      rfl
    obtain ⟨told, changed, hacts, hplace, hgroups, hring⟩ := groupEntered_tested (s := taken .drive s) (x := .lockedOut)
      (by decide) (by decide) hiff
    have htest : ringTestAfter (taken .drive s).groups[g].state (groupEntered g .lockedOut (taken .drive s)) =
        ringTest (groupEntered g .lockedOut (taken .drive s)) := if_pos hwaited
    obtain ⟨t, ht, hserved, hconds, hcarries⟩ := exec_acts hx hasks rfl (.inl hcomm) (htest ▸ htake) hacts hplace
    have hfollows := hring.carried hcarries
    exact ⟨t, told, changed, ht, hserved, hconds, hcarries.groups.trans hgroups, hfollows.closes, hfollows.completes,
      hfollows.waits⟩
  · have hnone : settled = false := by
      rw [hsettled]
      exact decide_eq_false fun hc => hwaited hc.1
    have htest : ringTestAfter (taken .drive s).groups[g].state (groupEntered g .lockedOut (taken .drive s)) =
        groupEntered g .lockedOut (taken .drive s) := if_neg hwaited
    obtain ⟨t, ht, hserved, hconds, hcarries⟩ := exec_acts hx hasks rfl (.inl hcomm) (htest ▸ htake)
      (groupEntered_acts g .lockedOut _) (List.forall_mem_nil _)
    have hfollows := (groupEntered_waits (g := g) (x := .lockedOut) (s := taken .drive s) hnone).carried hcarries
    exact ⟨t, [], [.groups, .account], ht, hserved, hconds, hcarries.groups, hfollows.closes, hfollows.completes,
      hfollows.waits⟩

end Sys2Proof.Machine

/-! The grants of entries (R46, R51, R56), the permits following each of them (R174, R176; log 10, log 20). -/

namespace Sys2Proof.Machine

set_option Elab.async false

/-! ## Runs with a recomputation more -/

theorem permitTrail_append (a : Permits) (steps steps' : List Permits) :
    permitTrail a (steps ++ steps') = permitTrail a steps ++ permitTrail (steps.getLastD a) steps' := by
  induction steps generalizing a with
  | nil => rfl
  | cons b rest ih => rw [List.getLastD_cons, List.cons_append, permitTrail, ih, permitTrail, List.append_assoc]

section Runs
variable {steps : List Permits} {told told' : List Sent} {l : List Block} {s t u : State}

/-- A recomputation of the permits in the middle of an event (R176; log 10). -/
theorem BlocksTell.refreshed (h : BlocksTell steps told l s t) :
    BlocksTell (steps ++ [permitsOf t]) told l s (refresh t) where
  alters := h.alters.trans {}
  chamber hc := (h.chamber hc).of_closed (sameInputs_refresh t) (refresh_permits t) (refresh_chamber t)
  powered := by simp [h.powered]
  links := by simp [h.links]
  held := by simp [h.held]
  permits := by rw [refresh_permits, (sameInputs_refresh t).permitsOf, List.getLastD_concat]
  sent k := by
    rw [refresh_sent, (sameInputs_refresh t).permitsOf, h.permits, permitTrail_concat]
    have hsent := h.sent k
    simp only [List.filter_append] at hsent ⊢
    rw [hsent, List.append_assoc]

theorem BlocksRun.refreshed (h : BlocksRun steps told l s t) :
    BlocksRun (steps ++ [permitsOf t]) told l s (refresh t) :=
  { h.toBlocksTell.refreshed with
    conds := by
      rw [refresh_conds, (sameInputs_refresh t).evalEntry, List.map_map, ← h.conds]
      exact List.map_congr_left fun e _ => evalEntry_twice t e }

/-- Blocks that act after such a run. -/
theorem BlocksTell.trans_act (h : BlocksTell steps told l s t) (h' : BlocksAct told' l t u)
    (hpl : ∀ x ∈ told', x.message.place = 0) (hheld : .chamber ∉ l → ChamberHeld s t → ChamberHeld s u) :
    BlocksTell steps (told ++ told') l s u where
  alters := h.alters.trans (h'.alters.mono (fun _ => id) (List.subset_cons_self _ _))
  chamber hc := hheld hc (h.chamber hc)
  powered := h'.powered.trans h.powered
  links := h'.links.trans h.links
  held := h'.held.trans h.held
  permits := h'.permits.trans h.permits
  sent k := by
    have hsent := h.sent k
    simp only [h'.sent, List.filter_append, filter_place hpl,
      filter_trail (permitTrail_place s.permits steps)] at hsent ⊢
    rw [hsent]
    by_cases hk : k = 0 <;> simp [hk, atPlace]

/-- Blocks that act after such a run without changing a level. -/
theorem BlocksRun.trans_act (h : BlocksRun steps told l s t) (h' : BlocksAct told' l t u)
    (hpl : ∀ x ∈ told', x.message.place = 0) (heval : evalEntry u = evalEntry t)
    (hheld : ChamberHeld s t → ChamberHeld s u) : BlocksRun steps (told ++ told') l s u :=
  { h.toBlocksTell.trans_act h' hpl fun _ => hheld with
    conds := by rw [h'.conds, heval, h.conds] }

/-- One such run after another. -/
theorem BlocksTell.trans {steps' : List Permits} (h : BlocksTell steps told l s t) (h' : BlocksTell steps' told' l t u)
    (hpl : ∀ x ∈ told', x.message.place = 0) (hc : .chamber ∈ l) : BlocksTell (steps ++ steps') (told ++ told') l s u where
  alters := h.alters.trans h'.alters
  chamber hn := absurd hc hn
  powered := h'.powered.trans h.powered
  links := h'.links.trans h.links
  held := h'.held.trans h.held
  permits := by
    rw [h'.permits, h.permits]
    cases steps' <;> simp [List.getLastD_eq_getLast?]
  sent k := by
    have hsent := h.sent k
    have hsent' := h'.sent k
    rw [permitTrail_append, ← h.permits]
    simp only [List.filter_append, filter_place hpl, filter_trail (permitTrail_place s.permits steps),
      filter_trail (permitTrail_place t.permits steps')] at hsent hsent' ⊢
    rw [hsent', hsent]
    by_cases hk : k = 0 <;> simp [hk, atPlace]

end Runs

/-! ## Entries that become OPEN (R46) -/

/-- The part with the entries of `done` OPEN. -/
def opened (done : List StackEntry) (s : State) : State :=
  { s with stack :=
      { s.stack with entries := s.stack.entries.map fun e => if e ∈ done then { e with state := .opened } else e } }

section Opened
variable {s u v : State} {done : List StackEntry} {e : StackEntry}

theorem opened_nil (s : State) : opened [] s = s := by
  simp [opened]

/-- One more entry that is granted. -/
theorem openEntry_opened (he : e.state = .opening) (h : SameInputs (opened done u) v) :
    SameInputs (opened (done ++ [e]) u) (refresh (openEntry v e)) := by
  refine SameInputs.trans ?_ (sameInputs_refresh _)
  have hentry : ∀ x : StackEntry, (if (if x ∈ done then { x with state := .opened } else x) = e then
      { e with state := .opened } else if x ∈ done then { x with state := .opened } else x) =
      if x ∈ done ++ [e] then { x with state := .opened } else x := by
    intro x
    by_cases hx : x ∈ done
    · have hne : ({ x with state := .opened } : StackEntry) ≠ e := by
        rintro rfl
        exact EntryState.noConfusion he
      simp [hx, hne]
    · by_cases hxe : x = e
      · subst hxe
        simp [hx]
      · simp [hx, hxe]
  obtain ⟨permits, conds, setpoint, sent, orders, rfl⟩ := h
  refine ⟨permits, conds, setpoint, sent ++
    [noticeOn .erector (.segmentGranted e.position e.cover (opened done u).stack.entries.length)], orders, ?_⟩
  simp [openEntry, tell, opened, noticeOn, Function.comp_def, hentry]

theorem someOvertime_opened (done : List StackEntry) (s : State) : someOvertime (opened done s) = someOvertime s := by
  have hsame : ∀ x : StackEntry, (if x ∈ done then { x with state := .opened } else x).overtime = x.overtime := by
    intro x
    split <;> rfl
  simp [someOvertime, opened, Function.comp_def, hsame]

/-- No level reads whether an entry is OPEN (R61). -/
theorem level_opened (done : List StackEntry) (s : State) (name : CondName) (subject : Option Nat) :
    level (opened done s) name subject = level s name subject := by
  cases name with
  | releaseOvertime => exact someOvertime_opened done s
  | _ => rfl

theorem classOf_opened (done : List StackEntry) (s : State) (name : CondName) (subject : Option Nat) :
    classOf (opened done s) name subject = classOf s name subject := by
  cases name <;> rfl

theorem evalEntry_opened (done : List StackEntry) (s : State) : evalEntry (opened done s) = evalEntry s :=
  evalEntry_congr (level_opened done s) (classOf_opened done s) rfl

/-- Of the permits the build permit's entries alone follow an entry that becomes OPEN (R174). -/
theorem permitsOf_opened (done : List StackEntry) (s : State) : permitsOf (opened done s) =
    { permitsOf s with build := { (permitsOf s).build with
        entries := s.stack.entries.reverse.map fun e => (e.position, if e ∈ done then .opened else e.state) } } := by
  have hceil : speedCeiling (opened done s) = speedCeiling s :=
    speedCeiling_congr rfl rfl rfl rfl rfl rfl (someOvertime_opened done s)
  have hlimiting : limitingConditions (opened done s) = limitingConditions s := by
    simp only [limitingConditions, level_opened, classOf_opened]
  have hadvance : advancePermitOf (opened done s) = advancePermitOf s := by
    simp only [advancePermitOf, hceil, hlimiting]
    rfl
  have hentries : (opened done s).stack.entries.reverse.map (fun e => (e.position, e.state)) =
      s.stack.entries.reverse.map fun e => (e.position, if e ∈ done then .opened else e.state) := by
    have hpair : ∀ x : StackEntry, ((if x ∈ done then { x with state := .opened } else x).position,
        (if x ∈ done then { x with state := .opened } else x).state) =
        (x.position, if x ∈ done then .opened else x.state) := by
      intro x
      split <;> rfl
    simp [opened, ← List.map_reverse, Function.comp_def, hpair]
  simp only [permitsOf, hadvance, buildPermitOf, hentries]
  rfl

end Opened

/-! ## A run of grants -/

/-- The permits after each of the grants of `l`, those of `done` being made. -/
def grantSteps (done l : List StackEntry) (s : State) : List Permits :=
  (List.range l.length).map fun k => permitsOf (opened (done ++ l.take (k + 1)) s)

theorem grantSteps_cons (done l : List StackEntry) (e : StackEntry) (s : State) :
    grantSteps done (e :: l) s = permitsOf (opened (done ++ [e]) s) :: grantSteps (done ++ [e]) l s := by
  simp [grantSteps, List.range_succ_eq_map, Function.comp_def, List.append_assoc]

/-- The grant of one entry is told (R46). -/
theorem openEntry_acts (s : State) (e : StackEntry) :
    BlocksAct [noticeOn .erector (.segmentGranted e.position e.cover s.stack.entries.length)] [.stack] s
      (openEntry s e) where
  alters := {}
  sent := rfl

/-- Grants made one after another, the permits following each of them. -/
theorem grants_run {steps : List Permits} {told : List Sent} {blocks : List Block} {s u v : State}
    {done l : List StackEntry} (h : BlocksRun steps told blocks s v) (hstack : .stack ∈ blocks)
    (hin : SameInputs (opened done u) v) (hl : ∀ e ∈ l, e.state = .opening) :
    BlocksRun (steps ++ grantSteps done l u)
      (told ++ l.map fun e => noticeOn .erector (.segmentGranted e.position e.cover u.stack.entries.length)) blocks s
      (l.foldl (fun s e => refresh (openEntry s e)) v) ∧
    SameInputs (opened (done ++ l) u) (l.foldl (fun s e => refresh (openEntry s e)) v) := by
  induction l generalizing steps told v done with
  | nil => simpa [grantSteps] using And.intro h hin
  | cons e l ih =>
    obtain ⟨he, hl⟩ := List.forall_mem_cons.mp hl
    have hnext := openEntry_opened he hin
    have hlen : v.stack.entries.length = u.stack.entries.length := by
      obtain ⟨permits, conds, setpoint, sent, orders, rfl⟩ := hin
      simp [opened]
    have hperm : permitsOf (openEntry v e) = permitsOf (opened (done ++ [e]) u) := by
      rw [← (sameInputs_refresh (openEntry v e)).permitsOf, hnext.permitsOf]
    have heval : evalEntry (openEntry v e) = evalEntry v := by
      rw [← (sameInputs_refresh (openEntry v e)).evalEntry, hnext.evalEntry, hin.evalEntry, evalEntry_opened,
        evalEntry_opened]
    have hheld : ChamberHeld s v → ChamberHeld s (openEntry v e) := fun hc =>
      hc.step (by simp) (by simp) (by simp)
        (speedCeiling_congr (by simp) (by simp) (by simp) (by simp) (by simp) (by simp) (someOvertime_openEntry v e))
    have hrun := (h.trans_act ((openEntry_acts v e).mono (by simpa using hstack))
      (by simp [noticeOn, Message.place]) heval hheld).refreshed
    obtain ⟨hall, hsame⟩ := ih hrun hnext hl
    rw [hperm, hlen] at hall
    refine ⟨?_, by simpa [List.append_assoc] using hsame⟩
    rw [grantSteps_cons]
    simpa [List.append_assoc] using hall

/-- The grants that a group's release makes possible (R46, R51, R56). -/
theorem grantEntries_run {told : List Sent} {blocks : List Block} {s u : State} (h : BlocksRun [] told blocks s u)
    (hstack : .stack ∈ blocks) (which : StackEntry → Bool) {granted : List StackEntry}
    (hgranted : granted = grantableEntries which u) :
    BlocksRun (grantSteps [] granted u)
      (told ++ granted.map fun e => noticeOn .erector (.segmentGranted e.position e.cover u.stack.entries.length)) blocks s
      (grantEntries which u) ∧
    SameInputs (opened granted u) (grantEntries which u) := by
  have hopening : ∀ e ∈ granted, e.state = .opening := by
    intro e he
    rw [hgranted, grantableEntries, List.mem_reverse] at he
    have hgrant := (List.mem_filter.mp he).2
    simp only [grantable, Bool.and_eq_true, decide_eq_true_eq] at hgrant
    exact hgrant.2.1
  have hrun := grants_run h hstack (done := []) (u := u) (by rw [opened_nil]; exact .refl u) hopening
  rw [hgranted] at hrun ⊢
  exact hrun

/-- The permits of the grants, told from those at the end. -/
theorem grantSteps_of_end {s u : State} {granted : List StackEntry} {permits : Permits} (hstack : u.stack = s.stack)
    (h : permits = permitsOf (opened granted u)) : grantSteps [] granted u =
      (List.range granted.length).map fun k =>
        { permits with build :=
            { permits.build with
              entries := s.stack.entries.reverse.map fun e =>
                (e.position, if e ∈ granted.take (k + 1) then .opened else e.state) } } := by
  refine List.map_congr_left fun k _ => ?_
  rw [h, permitsOf_opened, permitsOf_opened, ← hstack]
  rfl

/-- The stack after the grants, told by the entries that they open. -/
theorem opened_stack {s u : State} {opens : StackEntry → Bool} (hstack : u.stack = s.stack) :
    (opened (u.stack.entries.filter opens).reverse u).stack =
      { s.stack with entries := s.stack.entries.map fun e => if opens e then { e with state := .opened } else e } := by
  have hmap : (s.stack.entries.map fun e => if e ∈ (s.stack.entries.filter opens).reverse then
        { e with state := .opened } else e) =
      s.stack.entries.map fun e => if opens e then { e with state := .opened } else e := by
    refine List.map_congr_left fun e he => ?_
    simp [he]
  rw [opened, hstack, ← hmap]

/-! ## RETRACT DONE (R51) -/

theorem exec_retractDone (p : Port) (s : State) :
    exec (.retractDone p) s = .next (request 3 [.drive] false readConfirmation takeRetractDone p s) := rfl

/-- The part with one group RELEASED. -/
def groupReleased (g : Fin 16) (s : State) : State := setGroup g (s.groups[g].enter .released s.now) s

section Take
variable {s : State} {g n : Nat}

theorem takeRetractDone_of_range (h : 16 ≤ g) : takeRetractDone (g, n) s = .answer .range [] :=
  dif_neg (Nat.not_lt.mpr h)

theorem takeRetractDone_of_stale (h : g < 16) (hs : s.groups[g].state ≠ .retracting ∨ s.groups[g].transition ≠ n) :
    takeRetractDone (g, n) s = .answer .stale [.u8 s.groups[g].state.code, .u8 s.groups[g].transition] := by
  unfold takeRetractDone withGroup
  rw [dif_pos h]
  exact if_neg fun hc => hs.elim (fun hs => hs hc.1) fun hs => hs hc.2

theorem takeRetractDone_of_newest {g : Fin 16} (h : s.groups[g].state = .retracting) :
    takeRetractDone (g.val, s.groups[g].transition) s =
      .act (grantEntries (entryHas g) (groupReleased g s)) .done [.u8 2] := by
  unfold takeRetractDone withGroup
  rw [dif_pos g.isLt]
  exact if_pos ⟨h, rfl⟩

end Take

/-- An entry that the release of a group lets open (R46). -/
theorem grantable_of_released {s u : State} {g : Fin 16} {r : GroupRec} (hu : u.groups = s.groups.set g.val r g.isLt)
    (hr : r.state = .released) (e : StackEntry) : (entryHas g e && grantable u e) = true ↔
      e.state = .opening ∧ g ∈ e.cover ∧ ∀ h ∈ e.cover, h = g ∨ s.groups[h].state = .released := by
  have hgroup : ∀ h : Fin 16, u.groups[h].state = .released ↔ h = g ∨ s.groups[h].state = .released := by
    intro h
    by_cases hg : h = g
    · subst hg
      simp [hu, hr]
    · have hval : g.val ≠ h.val := fun hv => hg (Fin.ext hv.symm)
      simp [hu, hval, hg]
  simp only [entryHas, grantable, Bool.and_eq_true, decide_eq_true_eq, List.contains_iff_mem, List.all_eq_true, hgroup]
  tauto

/-- Settles O27: the group is RELEASED, and the entries that then pass the test of R46 are opened one after another. -/
theorem retractDoneReleases : Obligations.RetractDoneReleases := by
  refine ⟨fun s f g hasks hcomm hstate => ?_, fun s f g n hasks hcomm => ?_⟩
  · obtain ⟨u, hu⟩ : ∃ u, u = groupReleased g (taken .drive s) := ⟨_, rfl⟩
    have hacts : BlocksAct [] [.groups, .stack] (taken .drive s) u := by
      rw [hu]
      exact (setGroup_acts _ _ _).mono (by simp)
    have hgroups : u.groups = s.groups.set g.val (s.groups[g].enter .released s.now) g.isLt := by rw [hu]; rfl
    have hstack : u.stack = s.stack := by rw [hu]; rfl
    obtain ⟨granted, hgranted⟩ : ∃ granted, granted = grantableEntries (entryHas g) u := ⟨_, rfl⟩
    obtain ⟨hrun, hin⟩ := grantEntries_run hacts.run (by simp) (entryHas g) hgranted
    obtain ⟨t, ht, hserved, hconds, hcarries⟩ := exec_runs (exec_retractDone .drive s) hasks rfl (.inl hcomm)
      ((takeRetractDone_of_newest (s := taken .drive s) hstate).trans (by rw [← hu])) hrun
      (by simp [noticeOn, Message.place])
    have hpermits : t.permits = permitsOf (opened granted u) := hcarries.permits.trans hin.permitsOf
    rw [grantSteps_of_end hstack hpermits, hstack] at hserved
    have hfilter : granted = (s.stack.entries.filter fun e => entryHas g e && grantable u e).reverse := by
      rw [hgranted, grantableEntries, hstack]
    refine ⟨t, fun e => entryHas g e && grantable u e, granted, ht, grantable_of_released hgroups rfl, hfilter, hserved,
      hconds, ?_, ?_⟩
    · exact hcarries.groups.trans (hin.groups.trans hgroups)
    · have hopened := opened_stack (opens := fun e => entryHas g e && grantable u e) hstack
      rw [hstack, ← hfilter] at hopened
      exact hcarries.stack.trans (hin.stack.trans hopened)
  · have hx := exec_retractDone .drive s
    exact ⟨fun h => exec_answers hx hasks rfl (.inl hcomm) (takeRetractDone_of_range h),
      fun h hs => exec_answers hx hasks rfl (.inl hcomm) (takeRetractDone_of_stale (s := taken .drive s) h hs)⟩

end Sys2Proof.Machine

/-! GROUP STATE (R56): the resolution of an UNCERTAIN or LOCKED_OUT group, its order or its grants, and the ring. -/

namespace Sys2Proof.Machine

set_option Elab.async false

theorem exec_groupState (p : Port) (s : State) :
    exec (.groupState p) s = .next (request 6 [.drive] false readGroupState takeGroupState p s) := rfl

/-! ## The resolution (the table of R56) -/

section Table
variable {r : GroupRec} (now : Nat)

theorem GroupRec.resolved_thrust (h : r.holdCount = 0) : r.resolved .extended now = r.enter .thrust now := by
  simp [GroupRec.resolved, h]

theorem GroupRec.resolved_retracting (h : r.holdCount ≠ 0) :
    r.resolved .extended now = r.ordered .retracting now := by
  simp [GroupRec.resolved, h]

theorem GroupRec.resolved_released (h : r.holdCount ≠ 0) : r.resolved .retracted now = r.enter .released now := by
  simp [GroupRec.resolved, h]

theorem GroupRec.resolved_returning (h : r.holdCount = 0) :
    r.resolved .retracted now = r.ordered .returning now := by
  simp [GroupRec.resolved, h]

end Table

section Resolve
variable {s : State} {g : Fin 16} {x : GroupPosition}

/-- The part with a group resolved, before its order or its grants. -/
def groupResolved (g : Fin 16) (x : GroupPosition) (s : State) : State :=
  updateMean (setGroup g (s.groups[g].resolved x s.now) s)

theorem groupResolved_acts (g : Fin 16) (x : GroupPosition) (s : State) :
    BlocksAct [] [.groups, .stack, .account] s (groupResolved g x s) := by
  unfold groupResolved updateMean
  exact { alters := {} }

theorem takeGroupState_of_range {n : Nat} (h : 16 ≤ n) : takeGroupState (n, x) s = .answer .range [] :=
  dif_neg (Nat.not_lt.mpr h)

theorem takeGroupState_of_other (h1 : s.groups[g].state ≠ .uncertain) (h2 : s.groups[g].state ≠ .lockedOut) :
    takeGroupState (g.val, x) s = .answer .state [.u8 0] := by
  unfold takeGroupState withGroup
  rw [dif_pos g.isLt]
  exact if_neg fun hc => hc.elim h1 h2

theorem takeGroupState_of_resolvable (h : s.groups[g].state = .uncertain ∨ s.groups[g].state = .lockedOut) :
    takeGroupState (g.val, x) s =
      .act (ringTestAfter s.groups[g].state (afterResolution g (groupResolved g x s))) .done
        (.u8 (s.groups[g].resolved x s.now).state.code :: optU8 (orderNumber (s.groups[g].resolved x s.now))) := by
  unfold takeGroupState withGroup
  rw [dif_pos g.isLt]
  exact if_pos h

theorem groupResolved_self (g : Fin 16) (x : GroupPosition) (s : State) :
    (groupResolved g x s).groups[g] = s.groups[g].resolved x s.now := by
  simp [groupResolved, updateMean, setGroup]

/-- The four resolutions, with what the table of R56 has each of them give: the state, the number, what is told of the
group itself, and the entries that it lets open. -/
inductive Resolution (g : Fin 16) (x : GroupPosition) (s : State) :
    GroupState → Nat → List Sent → List StackEntry → State → Prop
  | thrust (hx : x = .extended) (hc : s.groups[g].holdCount = 0) :
      Resolution g x s .thrust s.groups[g].transition [] [] (groupResolved g x s)
  | retracting (hx : x = .extended) (hc : s.groups[g].holdCount ≠ 0) {n : Nat}
      (hn : n = (s.groups[g].transition + 1) % 256) :
      Resolution g x s .retracting n [noticeOn .drive (.retractOrder [(g, n)] none)] []
        (tell .drive (.retractOrder [(g, n)] none) (groupResolved g x s))
  | released (hx : x = .retracted) (hc : s.groups[g].holdCount ≠ 0) {granted : List StackEntry}
      (hg : granted = grantableEntries (entryHas g) (groupResolved g x s)) :
      Resolution g x s .released s.groups[g].transition
        (granted.map fun e => noticeOn .erector (.segmentGranted e.position e.cover s.stack.entries.length)) granted
        (grantEntries (entryHas g) (groupResolved g x s))
  | returning (hx : x = .retracted) (hc : s.groups[g].holdCount = 0) {n : Nat}
      (hn : n = (s.groups[g].transition + 1) % 256) :
      Resolution g x s .returning n [noticeOn .drive (.extendOrder [(g, n)] none)] []
        (tell .drive (.extendOrder [(g, n)] none) (groupResolved g x s))

theorem exists_resolution (g : Fin 16) (x : GroupPosition) (s : State) :
    ∃ state number own granted, Resolution g x s state number own granted (afterResolution g (groupResolved g x s)) ∧
      s.groups[g].resolved x s.now =
        { s.groups[g] with state := state, stateTime := s.now, slow := false, transition := number } := by
  have hself := groupResolved_self g x s
  cases x with
  | extended =>
    by_cases hc : s.groups[g].holdCount = 0
    · have hr : s.groups[g].resolved .extended s.now = s.groups[g].enter .thrust s.now :=
        GroupRec.resolved_thrust s.now hc
      refine ⟨.thrust, s.groups[g].transition, [], [], ?_, hr⟩
      have hafter : afterResolution g (groupResolved g .extended s) = groupResolved g .extended s := by
        rw [afterResolution, hself, hr]
        rfl
      rw [hafter]
      exact .thrust rfl hc
    · have hr : s.groups[g].resolved .extended s.now = s.groups[g].ordered .retracting s.now :=
        GroupRec.resolved_retracting s.now hc
      refine ⟨.retracting, (s.groups[g].transition + 1) % 256,
        [noticeOn .drive (.retractOrder [(g, (s.groups[g].transition + 1) % 256)] none)], [], ?_, hr⟩
      have hafter : afterResolution g (groupResolved g .extended s) =
          tell .drive (.retractOrder [(g, (s.groups[g].transition + 1) % 256)] none) (groupResolved g .extended s) := by
        rw [afterResolution, hself, hr]
        simp only [sendRetract, orderItems, List.map_cons, List.map_nil, hself, hr]
        rfl
      rw [hafter]
      exact .retracting rfl hc rfl
  | retracted =>
    by_cases hc : s.groups[g].holdCount = 0
    · have hr : s.groups[g].resolved .retracted s.now = s.groups[g].ordered .returning s.now :=
        GroupRec.resolved_returning s.now hc
      refine ⟨.returning, (s.groups[g].transition + 1) % 256,
        [noticeOn .drive (.extendOrder [(g, (s.groups[g].transition + 1) % 256)] none)], [], ?_, hr⟩
      have hafter : afterResolution g (groupResolved g .retracted s) =
          tell .drive (.extendOrder [(g, (s.groups[g].transition + 1) % 256)] none) (groupResolved g .retracted s) := by
        rw [afterResolution, hself, hr]
        simp only [sendExtend, orderItems, List.map_cons, List.map_nil, hself, hr]
        rfl
      rw [hafter]
      exact .returning rfl hc rfl
    · have hr : s.groups[g].resolved .retracted s.now = s.groups[g].enter .released s.now :=
        GroupRec.resolved_released s.now hc
      obtain ⟨granted, hg⟩ : ∃ granted, granted = grantableEntries (entryHas g) (groupResolved g .retracted s) := ⟨_, rfl⟩
      refine ⟨.released, s.groups[g].transition,
        granted.map fun e => noticeOn .erector (.segmentGranted e.position e.cover s.stack.entries.length), granted, ?_, hr⟩
      have hafter : afterResolution g (groupResolved g .retracted s) =
          grantEntries (entryHas g) (groupResolved g .retracted s) := by
        rw [afterResolution, hself, hr]
        rfl
      rw [hafter]
      exact .released rfl hc hg

/-- A resolution with its order or its grants: blocks that act, with the permits after each grant. -/
theorem Resolution.run {state : GroupState} {number : Nat} {own : List Sent} {granted : List StackEntry} {w : State}
    (h : Resolution g x s state number own granted w) :
    BlocksRun (grantSteps [] granted (groupResolved g x s)) own [.groups, .stack, .account] s w ∧
      SameInputs (opened granted (groupResolved g x s)) w ∧ (∀ n ∈ own, n.message.place = 0) ∧
      (granted = [] → BlocksAct own [.groups, .stack, .account] s w) := by
  have hacts := groupResolved_acts g x s
  have hnone : SameInputs (opened [] (groupResolved g x s)) (groupResolved g x s) := by
    rw [opened_nil]
    exact .refl _
  have htold : ∀ m : Notice, BlocksAct [noticeOn .drive m] [.groups, .stack, .account] s
      (tell .drive m (groupResolved g x s)) := fun m => hacts.trans { alters := {}, sent := rfl }
  cases h with
  | thrust => exact ⟨hacts.run, hnone, List.forall_mem_nil _, fun _ => hacts⟩
  | retracting =>
    exact ⟨(htold _).run, hnone.trans (sameInputs_tell _ _ _), by simp [noticeOn, Message.place], fun _ => htold _⟩
  | returning =>
    exact ⟨(htold _).run, hnone.trans (sameInputs_tell _ _ _), by simp [noticeOn, Message.place], fun _ => htold _⟩
  | released hx hc hg =>
    obtain ⟨hrun, hin⟩ := grantEntries_run hacts.run (by simp) (entryHas g) hg
    refine ⟨hrun, hin, by simp [noticeOn, Message.place], fun hnil => ?_⟩
    subst hg
    rw [hnil, grantEntries, hnil]
    exact hacts

end Resolve

/-! ## The ring builder's test after a resolution (R63, R85, R89) -/

section Tests
variable {s u : State}

theorem closureTest_of_inputs (h : SameInputs s u) : closureTest u = closureTest s := by
  obtain ⟨permits, conds, setpoint, sent, orders, rfl⟩ := h
  rfl

theorem completionTest_of_inputs (h : SameInputs s u) : completionTest u = completionTest s := by
  obtain ⟨permits, conds, setpoint, sent, orders, rfl⟩ := h
  rfl

theorem closureTest_opened (done : List StackEntry) (s : State) : closureTest (opened done s) = closureTest s := rfl

theorem completionTest_opened (done : List StackEntry) (s : State) :
    completionTest (opened done s) = completionTest s := by
  simp [completionTest, opened, someGroupIs]

end Tests

section Waited
variable {s : State} {g : Fin 16} {x : GroupPosition}

/-- Whether a group resolved as reported was the last for which the ring builder waits. -/
def LastWaited (g : Fin 16) (x : GroupPosition) (s : State) : Prop :=
  (x = .retracted → s.groups[g].holdCount ≠ 0) ∧ OthersSettled s g

theorem tests_of_resolved (g : Fin 16) (x : GroupPosition) (s : State) :
    (closureTest (groupResolved g x s) = true ↔ LastWaited g x s ∧ heldGroups s = 0) ∧
    (completionTest (groupResolved g x s) = true ↔ LastWaited g x s ∧ s.stack.entries = []) := by
  obtain ⟨r, hr⟩ : ∃ r, r = s.groups[g].resolved x s.now := ⟨_, rfl⟩
  have hgroups : (groupResolved g x s).groups = s.groups.set g.val r g.isLt := by rw [hr]; rfl
  have hstack : (groupResolved g x s).stack = s.stack := rfl
  by_cases hx : x = .retracted ∧ s.groups[g].holdCount = 0
  · have hret : r.state = .returning := by
      rw [hr, hx.1, GroupRec.resolved_returning s.now hx.2]
      rfl
    have hself : someGroupIs (groupResolved g x s) .returning = true := by
      rw [someGroupIs, hgroups, List.any_eq_true]
      exact ⟨r, by simp [Vector.mem_set], by simp [hret]⟩
    have hnot : ¬LastWaited g x s := fun h => h.1 hx.1 hx.2
    simp [closureTest, completionTest, hself, hnot]
  · have hlast : LastWaited g x s ↔ OthersSettled s g := and_iff_right fun h hc => hx ⟨h, hc⟩
    have hstate : r.state ≠ .returning ∧ r.state ≠ .uncertain ∧ r.holdCount = s.groups[g].holdCount := by
      rw [hr]
      cases x with
      | extended =>
        by_cases hc : s.groups[g].holdCount = 0
        · rw [GroupRec.resolved_thrust s.now hc]
          exact ⟨GroupState.noConfusion, GroupState.noConfusion, rfl⟩
        · rw [GroupRec.resolved_retracting s.now hc]
          exact ⟨GroupState.noConfusion, GroupState.noConfusion, rfl⟩
      | retracted =>
        rw [GroupRec.resolved_released s.now fun hc => hx ⟨rfl, hc⟩]
        exact ⟨GroupState.noConfusion, GroupState.noConfusion, rfl⟩
    obtain ⟨hret, hunc, hcount⟩ := hstate
    rw [hlast]
    exact ⟨closureTest_of_set hgroups hret hunc hcount, completionTest_of_set hgroups hret hunc hstack⟩

/-- Where the ring can close or an abort be complete, the resolution lets no entry open. -/
theorem Resolution.granted_nil {state : GroupState} {number : Nat} {own : List Sent} {granted : List StackEntry} {w : State}
    (h : Resolution g x s state number own granted w) (hs : heldGroups s = 0 ∨ s.stack.entries = []) : granted = [] := by
  cases h with
  | thrust | retracting | returning => rfl
  | released hx hc hg =>
    have hempty : s.stack.entries = [] :=
      hs.resolve_left fun h => absurd (heldGroups_pos (Nat.pos_of_ne_zero hc)) (by omega)
    have hstack : (groupResolved g x s).stack.entries = [] := hempty
    rw [hg, grantableEntries, hstack]
    rfl

/-- What the ring builder's test makes of a resolution. -/
structure TestedResolution (g : Fin 16) (x : GroupPosition) (s : State) (granted : List StackEntry) (own : List Sent)
    (closes completes : Bool) (v : State) : Prop where
  run : BlocksRun (grantSteps [] granted (groupResolved g x s))
    (own ++
      (if closes then [noticeOn .erector (.ringState (s.ring.number + 1) .idle .closed [] [])] else []) ++
      (if completes then
        [noticeOn .erector (.ringState s.ring.number .armed .abortComplete s.ring.queue s.ring.setList)]
      else []))
    ([.groups, .stack, .account] ++ (if closes then [.store] else []) ++ (if closes || completes then [.ring] else []))
    s v
  permits : granted ≠ [] → permitsOf v = permitsOf (opened granted (groupResolved g x s))
  groups : v.groups = (groupResolved g x s).groups
  stack : v.stack = (opened granted (groupResolved g x s)).stack
  account : v.account =
    { s.account with
      thrustMean := meanOfThrust v.groups
      cycles :=
        if closes then pushCapped 8 s.account.cycles { ring := s.ring.number, cycle := s.account.cycle }
        else s.account.cycles
      cycle := if closes then Cycle.start else s.account.cycle }
  closing : closes = true →
    v.store = { s.store with lastClosed := s.ring.number } ∧ v.ring = RingRec.initial (s.ring.number + 1)
  completing : completes = true → v.ring = { s.ring with state := .armed }

theorem Resolution.tested {state : GroupState} {number : Nat} {own : List Sent} {granted : List StackEntry} {w : State}
    (h : Resolution g x s state number own granted w) {last closes completes : Bool}
    (hg : s.groups[g].state = .uncertain ∨ s.groups[g].state = .lockedOut)
    (hlast : last = true ↔ s.groups[g].state = .uncertain ∧ LastWaited g x s)
    (hcloses : closes = true ↔ s.ring.state = .closing ∧ last = true ∧ heldGroups s = 0)
    (hcompletes : completes = true ↔ s.ring.state = .aborting ∧ last = true ∧ s.stack.entries = []) :
    TestedResolution g x s granted own closes completes (ringTestAfter s.groups[g].state w) := by
  obtain ⟨hrun, hin, hplace, hacts⟩ := h.run
  have hring : w.ring = s.ring := hin.ring
  have hclosure : closureTest w = true ↔ LastWaited g x s ∧ heldGroups s = 0 := by
    rw [closureTest_of_inputs hin, closureTest_opened]
    exact (tests_of_resolved g x s).1
  have hcompletion : completionTest w = true ↔ LastWaited g x s ∧ s.stack.entries = [] := by
    rw [completionTest_of_inputs hin, completionTest_opened]
    exact (tests_of_resolved g x s).2
  have hgroups : w.groups = (groupResolved g x s).groups := hin.groups
  have hstack : w.stack = (opened granted (groupResolved g x s)).stack := hin.stack
  have haccount : w.account = { s.account with thrustMean := meanOfThrust w.groups } := by
    rw [hgroups]
    exact hin.account
  have hstore : w.store = s.store := hin.store
  by_cases hc : closes = true
  · obtain ⟨hstate, hl, hheld⟩ := hcloses.mp hc
    obtain ⟨hunc, hwaited⟩ := hlast.mp hl
    have hnil := h.granted_nil (.inl hheld)
    have hcomp : completes = false := Bool.eq_false_iff.mpr fun h => by
      have := (hcompletes.mp h).1
      simp [hstate] at this
    have htest : ringTestAfter s.groups[g].state w = closeRing w := by
      rw [ringTestAfter, if_pos (.inr hunc)]
      exact ringTest_of_closes (hring ▸ hstate) (hclosure.mpr ⟨hwaited, hheld⟩)
    have hclose := ((hacts hnil).mono (l' := [.groups, .stack, .account, .store, .ring]) (by simp)).trans
      ((closeRing_acts w).mono (by simp))
    rw [hring] at hclose
    subst hc hcomp
    rw [htest]
    exact {
      run := by simpa [hnil, grantSteps] using hclose.run
      permits := fun hne => absurd hnil hne
      groups := hgroups
      stack := hstack
      account := by simp [closeRing, announceRing, tell, haccount, hring]
      closing := fun _ => by
        simp only [closeRing, announceRing, tell, hstore, hring]
        exact ⟨trivial, rfl⟩
      completing := nofun }
  · have hclosed : closes = false := Bool.eq_false_iff.mpr hc
    by_cases ha : completes = true
    · obtain ⟨hstate, hl, hempty⟩ := hcompletes.mp ha
      obtain ⟨hunc, hwaited⟩ := hlast.mp hl
      have hnil := h.granted_nil (.inr hempty)
      have htest : ringTestAfter s.groups[g].state w = completeAbort w := by
        rw [ringTestAfter, if_pos (.inr hunc)]
        exact ringTest_of_completes (hring ▸ hstate) (hcompletion.mpr ⟨hwaited, hempty⟩)
      have hcomplete := ((hacts hnil).mono (l' := [.groups, .stack, .account, .ring]) (by simp)).trans
        ((completeAbort_acts w).mono (by simp))
      rw [hring] at hcomplete
      subst ha hclosed
      rw [htest]
      exact {
        run := by simpa [hnil, grantSteps] using hcomplete.run
        permits := fun hne => absurd hnil hne
        groups := hgroups
        stack := hstack
        account := haccount
        closing := nofun
        completing := fun _ => by simp [completeAbort, announceRing, tell, hring] }
    · have hnot : completes = false := Bool.eq_false_iff.mpr ha
      have htest : ringTestAfter s.groups[g].state w = w := by
        rcases hg with hg | hg
        · rw [ringTestAfter, if_pos (.inr hg)]
          refine ringTest_of_waits (fun hr => hc (hcloses.mpr ?_)) fun hr => ha (hcompletes.mpr ?_)
          · obtain ⟨hwaited, hheld⟩ := hclosure.mp hr.2
            exact ⟨hring ▸ hr.1, hlast.mpr ⟨hg, hwaited⟩, hheld⟩
          · obtain ⟨hwaited, hempty⟩ := hcompletion.mp hr.2
            exact ⟨hring ▸ hr.1, hlast.mpr ⟨hg, hwaited⟩, hempty⟩
        · exact if_neg (by rw [hg]; simp)
      subst hclosed hnot
      rw [htest]
      exact {
        run := by simpa using hrun
        permits := fun _ => hin.permitsOf
        groups := hgroups
        stack := hstack
        account := haccount
        closing := nofun
        completing := nofun }

end Waited

/-! ## GROUP STATE (R56) -/

theorem orderNumber_ordered (r : GroupRec) (now : Nat) {x : GroupState} (hx : x = .retracting ∨ x = .returning) :
    orderNumber (r.ordered x now) = some ((r.transition + 1) % 256) := if_pos hx

theorem orderNumber_enter (r : GroupRec) (now : Nat) {x : GroupState} (hx : ¬(x = .retracting ∨ x = .returning)) :
    orderNumber (r.enter x now) = none := if_neg hx

/-- The number that a response carries: that of an order where one is issued. -/
theorem Resolution.orderNumber {s : State} {g : Fin 16} {x : GroupPosition} {state : GroupState} {number : Nat}
    {own : List Sent} {granted : List StackEntry} {w : State} (h : Resolution g x s state number own granted w) :
    Machine.orderNumber (s.groups[g].resolved x s.now) =
      if number = s.groups[g].transition then none else some number := by
  have hother : (s.groups[g].transition + 1) % 256 ≠ s.groups[g].transition := by omega
  cases h with
  | thrust hx hc =>
    rw [hx, GroupRec.resolved_thrust s.now hc, if_pos rfl]
    exact orderNumber_enter _ _ (by simp)
  | retracting hx hc hn =>
    rw [hx, hn, GroupRec.resolved_retracting s.now hc, if_neg hother]
    exact orderNumber_ordered _ _ (.inl rfl)
  | released hx hc hg =>
    rw [hx, GroupRec.resolved_released s.now hc, if_pos rfl]
    exact orderNumber_enter _ _ (by simp)
  | returning hx hc hn =>
    rw [hx, hn, GroupRec.resolved_returning s.now hc, if_neg hother]
    exact orderNumber_ordered _ _ (.inr rfl)

/-- The entries that the resolution lets open. -/
theorem Resolution.granted_eq {s : State} {g : Fin 16} {x : GroupPosition} {state : GroupState} {number : Nat}
    {own : List Sent} {granted : List StackEntry} {w : State} (h : Resolution g x s state number own granted w) :
    granted = if x = .retracted ∧ s.groups[g].holdCount ≠ 0 then
      (s.stack.entries.filter fun e => decide (e.state = .opening ∧ g ∈ e.cover ∧
        ∀ h ∈ e.cover, h = g ∨ s.groups[h].state = .released)).reverse
    else [] := by
  cases h with
  | thrust hx hc | retracting hx hc hn => exact (if_neg (by simp [hx])).symm
  | returning hx hc hn => exact (if_neg (by simpa using fun _ => hc)).symm
  | released hx hc hg =>
    rw [if_pos ⟨hx, hc⟩, hg, grantableEntries]
    have hgroups : (groupResolved g x s).groups = s.groups.set g.val (s.groups[g].enter .released s.now) g.isLt := by
      rw [hx, ← GroupRec.resolved_released s.now hc]
      rfl
    have hstack : (groupResolved g x s).stack.entries = s.stack.entries := rfl
    rw [hstack]
    congr 1
    refine List.filter_congr fun e _ => ?_
    exact Bool.eq_iff_iff.mpr ((grantable_of_released hgroups rfl e).trans (decide_eq_true_iff).symm)

/-- Settles O30: by the resolution that the table of R56 gives, and the ring builder's test of what follows. -/
theorem groupStateResolves : Obligations.GroupStateResolves := by
  refine ⟨fun s f g x hasks hcomm h =>
    exec_answers (exec_groupState .drive s) hasks rfl (.inl hcomm) (takeGroupState_of_range h), ?_⟩
  intro s f g x hasks hcomm
  refine ⟨fun h1 h2 => exec_answers (exec_groupState .drive s) hasks rfl (.inl hcomm)
    (takeGroupState_of_other (s := taken .drive s) h1 h2), ?_⟩
  intro last closes completes hg hlast hcloses hcompletes
  obtain ⟨state, number, own, granted, hres, hr⟩ := exists_resolution g x (taken .drive s)
  have hlastIff : last = true ↔ s.groups[g].state = .uncertain ∧ LastWaited g x s := by
    rw [hlast, decide_eq_true_eq]
    rfl
  have hclosesIff : closes = true ↔ s.ring.state = .closing ∧ last = true ∧ heldGroups s = 0 := by
    rw [hcloses, decide_eq_true_eq]
  have hcompletesIff : completes = true ↔ s.ring.state = .aborting ∧ last = true ∧ s.stack.entries = [] := by
    rw [hcompletes, decide_eq_true_eq]
  have htested := hres.tested (s := taken .drive s) hg hlastIff hclosesIff hcompletesIff
  obtain ⟨-, -, hplace, -⟩ := hres.run
  obtain ⟨t, ht, hserved, hconds, hcarries⟩ := exec_runs (exec_groupState .drive s) hasks rfl (.inl hcomm)
    (takeGroupState_of_resolvable (s := taken .drive s) hg) htested.run (by
      intro n hn
      simp only [List.mem_append] at hn
      rcases hn with (hn | hn) | hn
      · exact hplace n hn
      · split at hn <;> simp_all [noticeOn, Message.place]
      · split at hn <;> simp_all [noticeOn, Message.place])
  have hnumber := hres.orderNumber
  rw [hr] at hnumber
  have hsteps : grantSteps [] granted (groupResolved g x (taken .drive s)) = (List.range granted.length).map fun k =>
      { t.permits with build :=
          { t.permits.build with
            entries := s.stack.entries.reverse.map fun e =>
              (e.position, if e ∈ granted.take (k + 1) then .opened else e.state) } } := by
    by_cases hnil : granted = []
    · rw [hnil]
      rfl
    · exact grantSteps_of_end (s := taken .drive s) rfl (hcarries.permits.trans (htested.permits hnil))
  rw [hsteps, hr, hnumber] at hserved
  have hgroups : t.groups = s.groups.set g.val
      { s.groups[g] with state := state, stateTime := s.now, slow := false, transition := number } g.isLt :=
    (hcarries.groups.trans htested.groups).trans (congrArg (fun r => s.groups.set g.val r g.isLt) hr)
  have haccount := hcarries.account.trans htested.account
  rw [← hcarries.groups] at haccount
  refine ⟨t, state, number, own, granted, ht, hres.granted_eq, hserved, hconds, hgroups, haccount,
    fun h => ?_, fun h => hcarries.ring.trans (htested.completing h), ?_⟩
  · obtain ⟨hstore, hring⟩ := htested.closing h
    exact ⟨hcarries.store.trans hstore, hcarries.ring.trans hring⟩
  · have hstack := hcarries.stack.trans htested.stack
    have hreleased := hres.granted_eq
    generalize afterResolution g (groupResolved g x (taken .drive s)) = w at hres
    cases hres with
    | thrust hx hc =>
      have hzero : decide (s.groups[g].holdCount = 0) = true := decide_eq_true hc
      rw [hx, hzero]
      rw [opened_nil] at hstack
      exact ⟨rfl, rfl, rfl, hstack⟩
    | retracting hx hc hn =>
      have hpos : decide (s.groups[g].holdCount = 0) = false := decide_eq_false hc
      rw [hx, hpos]
      rw [opened_nil] at hstack
      exact ⟨rfl, hn, rfl, hstack⟩
    | returning hx hc hn =>
      have hzero : decide (s.groups[g].holdCount = 0) = true := decide_eq_true hc
      rw [hx, hzero]
      rw [opened_nil] at hstack
      exact ⟨rfl, hn, rfl, hstack⟩
    | released hx hc hg =>
      have hpos : decide (s.groups[g].holdCount = 0) = false := decide_eq_false hc
      have heq := hreleased.trans (if_pos ⟨hx, hc⟩)
      have hopened := opened_stack (s := s) (u := groupResolved g x (taken .drive s)) (opens := fun e =>
        decide (e.state = .opening ∧ g ∈ e.cover ∧ ∀ h ∈ e.cover, h = g ∨ s.groups[h].state = .released)) rfl
      rw [hx, hpos]
      refine ⟨rfl, rfl, rfl, ?_⟩
      rw [hstack, heq]
      refine (congrArg (·.entries) hopened).trans (List.map_congr_left fun e _ => ?_)
      simp only [decide_eq_true_eq]

end Sys2Proof.Machine

/-! SEGMENT OPEN (R47, R75 to R78): its refusals, its push, and the claim it may grant. -/

namespace Sys2Proof.Machine

set_option Elab.async false

/-! ## The refusals -/

/-- The first check of a list that fails gives the answer. -/
theorem firstCheck_cons {b : Bool} {P : Prop} [Decidable P] (h : b = true ↔ P) (c : Code) (f : List Field)
    (l : List (Bool × Code × List Field)) :
    (((b, c, f) :: l).find? (·.1)).map (fun x => Handled.answer x.2.1 x.2.2) =
      if P then some (.answer c f) else (l.find? (·.1)).map fun x => .answer x.2.1 x.2.2 := by
  by_cases hP : P
  · simp [h.mpr hP, hP]
  · have hb : b = false := Bool.eq_false_iff.mpr fun hb => hP (h.mp hb)
    simp [hb, hP]

theorem ordinariesSet_iff (r : RingRec) : ordinariesSet r = true ↔ ∀ q : Fin 7, q ≠ 6 → q ∈ r.setList := by
  have hall : ∀ q : Fin 7, q ≠ 6 ↔ q ∈ ([0, 1, 2, 3, 4, 5] : List (Fin 7)) := by decide
  simp only [ordinariesSet, List.all_eq_true, List.contains_iff_mem, hall]

section Refusals
variable {s : State} {p : Fin 7} {cover : List (Fin 16)}

/-- The checks of R75, with what each of them carries. -/
def builderChecks (p : Fin 7) (s : State) : List (Bool × Code × List Field) :=
  [(decide (s.ring.state ≠ .armed ∧ s.ring.state ≠ .building), .state, [.u8 0]),
   (decide (s.modes.build ≠ .held), .state, [.u8 0]),
   (!s.permits.build.allowed, .state, [.u8 0]),
   (decide (s.ring.queue.head? ≠ some p), .order, optU8 (s.ring.queue.head?.map (·.val))),
   (decide (p = 6 ∧ ∃ q : Fin 7, q ≠ 6 ∧ q ∉ s.ring.setList), .order, []),
   (decide (s.ring.state = .armed ∧
      s.account.cycle.advance < (constantsOf s).ringWidth + (activeProfile s).buildClearance), .state,
    [.u8 0, .u64 s.account.cycle.advance, .u64 ((constantsOf s).ringWidth + (activeProfile s).buildClearance)]),
   (decide (s.ring.state = .armed ∧ s.modes.mode = .continuous) && !reserveLeft s, .state,
    .u8 0 :: optU64 s.account.thrustMean ++ [.u16 (activeProfile s).strokeReserve])]

/-- The checks of R47 that follow that of a full stack, with what each of them carries. -/
def stackChecks (cover : List (Fin 16)) (s : State) : List (Bool × Code × List Field) :=
  [(coverBlocked s cover, .state, [.u8 0]),
   (s.stack.entries.any (·.overtime), .limit,
    ((s.stack.entries.filter (·.overtime)).getLast?.map fun e => Field.u8 e.position.val).toList),
   (decide (releaseLimit s < countAfterOpen s cover), .limit, [.u64 (countAfterOpen s cover), .u8 (releaseLimit s)])]

theorem builderRefusal_eq (p : Fin 7) (s : State) : builderRefusal p s =
    ((builderChecks p s).find? (·.1)).map fun x => .answer x.2.1 x.2.2 := by
  have hordinaries : decide (p = 6 ∧ ∃ q : Fin 7, q ≠ 6 ∧ q ∉ s.ring.setList) = true ↔
      p = 6 ∧ ordinariesSet s.ring = false := by
    have hset := ordinariesSet_iff s.ring
    rw [decide_eq_true_iff, ← Bool.not_eq_true, hset]
    push Not
    rfl
  have hready : decide (s.ring.state = .armed ∧
      s.account.cycle.advance < (constantsOf s).ringWidth + (activeProfile s).buildClearance) = true ↔
      s.ring.state = .armed ∧ ringReady s = false := by
    rw [decide_eq_true_iff, ringReady, advanceRequired, decide_eq_false_iff_not, not_le]
  have hreserve : (decide (s.ring.state = .armed ∧ s.modes.mode = .continuous) && !reserveLeft s) = true ↔
      s.ring.state = .armed ∧ s.modes.mode = .continuous ∧ reserveLeft s = false := by
    simp [and_assoc]
  rw [builderChecks, firstCheck_cons decide_eq_true_iff, firstCheck_cons decide_eq_true_iff,
    firstCheck_cons (P := s.permits.build.allowed = false) (by simp), firstCheck_cons decide_eq_true_iff,
    firstCheck_cons hordinaries, firstCheck_cons hready, firstCheck_cons hreserve]
  rfl

theorem stackRefusal_eq (h : s.stack.entries.length < 3) : stackRefusal p s =
    ((stackChecks (ringCover s.ring p) s).find? (·.1)).map fun x => .answer x.2.1 x.2.2 := by
  rw [stackChecks, firstCheck_cons (P := coverBlocked s (ringCover s.ring p) = true) .rfl, stackRefusal]
  simp only [if_neg (Nat.not_le.mpr h)]
  congr 1
  cases hold : oldestOvertime s.stack with
  | some e =>
    have hany : s.stack.entries.any (·.overtime) = true := by
      have hmem := List.mem_of_getLast? hold
      exact List.any_eq_true.mpr ⟨e, (List.mem_filter.mp hmem).1, (List.mem_filter.mp hmem).2⟩
    have hlast : (s.stack.entries.filter (·.overtime)).getLast? = some e := hold
    rw [firstCheck_cons (P := True) (by simp [hany]), if_pos trivial, hlast]
    rfl
  | none =>
    have hnone : s.stack.entries.any (·.overtime) = false := by
      have hnil : s.stack.entries.filter (·.overtime) = [] := List.getLast?_eq_none_iff.mp hold
      rw [List.any_eq_false]
      simpa using hnil
    rw [firstCheck_cons (P := False) (by simp [hnone]), if_neg not_false, firstCheck_cons decide_eq_true_iff]
    rfl

/-- A position that the ring builder opens passes every check of R75. -/
theorem builderRefusal_of_ready {rest : List (Fin 7)} (hstate : s.ring.state = .armed ∨ s.ring.state = .building)
    (hbuild : s.modes.build = .held) (hallowed : s.permits.build.allowed = true) (hqueue : s.ring.queue = p :: rest)
    (hordinaries : p = 6 → ∀ q : Fin 7, q ≠ 6 → q ∈ s.ring.setList)
    (hready : s.ring.state = .armed →
      (constantsOf s).ringWidth + (activeProfile s).buildClearance ≤ s.account.cycle.advance)
    (hreserve : s.ring.state = .armed → s.modes.mode = .continuous →
      ∃ m, s.account.thrustMean = some m ∧ m + (activeProfile s).strokeReserve ≤ (constantsOf s).strokeMax) :
    builderRefusal p s = none := by
  have hhead : s.ring.queue.head? = some p := by rw [hqueue]; rfl
  have hring : s.ring.state = .armed → ringReady s = true := fun h => decide_eq_true (hready h)
  have hleft : s.ring.state = .armed → s.modes.mode = .continuous → reserveLeft s = true := fun h h' => by
    obtain ⟨m, hm, hle⟩ := hreserve h h'
    rw [reserveLeft, hm]
    exact decide_eq_true hle
  unfold builderRefusal
  rw [if_neg fun h => hstate.elim h.1 h.2, if_neg (not_not_intro hbuild), if_neg (by simp [hallowed]),
    if_neg (not_not_intro hhead),
    if_neg fun h => by simp [(ordinariesSet_iff s.ring).mpr (hordinaries h.1)] at h,
    if_neg fun h => by simp [hring h.1] at h, if_neg fun h => by simp [hleft h.1 h.2.1] at h]

/-- A position for which the release stack has room passes every check of R47. -/
theorem stackRefusal_of_free (hlength : s.stack.entries.length < 3)
    (hcover : ∀ g ∈ ringCover s.ring p, s.groups[g].state ≠ .uncertain ∧ s.groups[g].state ≠ .lockedOut)
    (hentries : ∀ e ∈ s.stack.entries, e.overtime = false)
    (hlimit : countAfterOpen s (ringCover s.ring p) ≤ releaseLimit s) : stackRefusal p s = none := by
  have hblocked : coverBlocked s (ringCover s.ring p) = false := by
    rw [coverBlocked, List.any_eq_false]
    intro g hg
    simp only [Bool.or_eq_true, decide_eq_true_eq]
    exact fun h => h.elim (hcover g hg).1 (hcover g hg).2
  have hold : oldestOvertime s.stack = none := by
    have hnil : s.stack.entries.filter (·.overtime) = [] := by
      rw [List.filter_eq_nil_iff]
      exact fun e he => by simp [hentries e he]
    rw [oldestOvertime, hnil]
    rfl
  unfold stackRefusal
  simp only [if_neg (Nat.not_le.mpr hlength), hblocked, Bool.false_eq_true, if_false, hold, if_neg (Nat.not_lt.mpr hlimit)]

theorem takeSegmentOpen_of_builder {c : Bool × Code × List Field} (h : (builderChecks p s).find? (·.1) = some c) :
    takeSegmentOpen p.val s = .answer c.2.1 c.2.2 := by
  have hp : (Fin.ofNat 7 p.val) = p := Fin.ext (Nat.mod_eq_of_lt p.isLt)
  have hb : builderRefusal p s = some (.answer c.2.1 c.2.2) := by
    rw [builderRefusal_eq, h]
    rfl
  simp only [takeSegmentOpen, p.isLt, if_true, hp, hb]

theorem takeSegmentOpen_of_stack {c : Bool × Code × List Field} (hb : (builderChecks p s).find? (·.1) = none)
    (hfree : s.stack.entries.length < 3) (h : (stackChecks (ringCover s.ring p) s).find? (·.1) = some c) :
    takeSegmentOpen p.val s = .answer c.2.1 c.2.2 := by
  have hp : (Fin.ofNat 7 p.val) = p := Fin.ext (Nat.mod_eq_of_lt p.isLt)
  have hbuilder : builderRefusal p s = none := by
    rw [builderRefusal_eq, hb]
    rfl
  have hstack : stackRefusal p s = some (.answer c.2.1 c.2.2) := by
    rw [stackRefusal_eq hfree, h]
    rfl
  simp only [takeSegmentOpen, p.isLt, if_true, hp, hbuilder, hstack]

theorem takeSegmentOpen_of_taken (hb : builderRefusal p s = none) (hstack : stackRefusal p s = none) :
    takeSegmentOpen p.val s = .act (openPosition p s) .done
      ([.u8 (topState (openPosition p s).stack), .u8 (openPosition p s).stack.entries.length,
        .u64 (heldGroups (openPosition p s))] ++ positionList (openPosition p s).ring.queue) := by
  have hp : (Fin.ofNat 7 p.val) = p := Fin.ext (Nat.mod_eq_of_lt p.isLt)
  simp only [takeSegmentOpen, p.isLt, if_true, hp, hb, hstack]

end Refusals

/-! ## The push (R49) -/

section Push
variable {s : State} {p : Fin 7}

/-- The entry of a position opened now. -/
def newEntry (p : Fin 7) (x : EntryState) (s : State) : StackEntry :=
  { position := p, cover := ringCover s.ring p, state := x, openedAt := s.now, overtime := false }

/-- The part with a position's entry pushed, before its order and its grant. -/
def pushed (p : Fin 7) (s : State) : State :=
  { s with
    groups := updateEach s.groups fun i g => if (ringCover s.ring p).contains i then g.pushed s.now else g
    stack := { s.stack with entries := newEntry p .opening s :: s.stack.entries } }

/-- The groups that a push sends from the push. -/
def sentByPush (p : Fin 7) (s : State) : List (Fin 16) :=
  (ringCover s.ring p).filter fun g => s.groups[g].holdCount = 0

theorem pushEntry_eq (p : Fin 7) (s : State) : pushEntry p s =
    (grantableEntries (fun e => e.position = p) (sendRetract (sentByPush p s) (some p) (pushed p s))).foldl openEntry
      (sendRetract (sentByPush p s) (some p) (pushed p s)) := rfl

theorem pushed_acts (p : Fin 7) (s : State) : BlocksAct [] [.groups, .stack] s (pushed p s) := by
  unfold pushed
  exact { alters := {} }

theorem sendRetract_acts (groups : List (Fin 16)) (cause : Option (Fin 7)) (s : State) :
    BlocksAct (if groups = [] then [] else [noticeOn .drive (.retractOrder (orderItems s groups) cause)]) [] s
      (sendRetract groups cause s) := by
  cases groups with
  | nil => exact .refl _ _
  | cons g rest => exact { alters := {}, sent := rfl }

theorem orderItems_pushed (p : Fin 7) (s : State) : orderItems (pushed p s) (sentByPush p s) =
    (sentByPush p s).map fun g => (g, (s.groups[g].transition + 1) % 256) := by
  refine List.map_congr_left fun g hg => ?_
  obtain ⟨hcover, hzero⟩ := List.mem_filter.mp hg
  have hgroup : (pushed p s).groups[g] = s.groups[g].pushed s.now := by
    simp [pushed, hcover]
  have hpushed : s.groups[g].pushed s.now = { s.groups[g].ordered .retracting s.now with holdCount := 1 } :=
    if_pos (of_decide_eq_true hzero)
  rw [hgroup, hpushed]
  rfl

/-- One group after a push (R44, R49). -/
theorem groups_pushed (p : Fin 7) (s : State) (g : Fin 16) : (pushed p s).groups[g] =
    if g ∈ ringCover s.ring p then
      if s.groups[g].holdCount = 0 then
        { s.groups[g] with
          state := .retracting, stateTime := s.now, slow := false, holdCount := 1
          transition := (s.groups[g].transition + 1) % 256 }
      else { s.groups[g] with holdCount := s.groups[g].holdCount + 1 }
    else s.groups[g] := by
  have hgroup : (pushed p s).groups[g] =
      if (ringCover s.ring p).contains g then s.groups[g].pushed s.now else s.groups[g] := by
    simp [pushed]
  rw [hgroup]
  simp only [List.contains_iff_mem]
  rfl

/-- The ring record after the open of a position (R78, R84). -/
theorem ring_opened {r : RingRec} (h : r.state = .armed ∨ r.state = .building) : r.opened =
    { r with queue := r.queue.tail, state := .building, failed := r.failed && !decide (r.state = .armed) } := by
  rcases h with h | h <;> simp [RingRec.opened, h]

/-- The push leads to a grant at once where its whole cover was held and RELEASED already (R49). -/
def grantedAtOnce (p : Fin 7) (s : State) : Bool :=
  (ringCover s.ring p).all fun g => s.groups[g].holdCount ≠ 0 && s.groups[g].state = .released

theorem pushed_released (r : GroupRec) (now : Nat) :
    (r.pushed now).state = .released ↔ r.holdCount ≠ 0 ∧ r.state = .released := by
  unfold GroupRec.pushed
  split
  · simp_all [GroupRec.ordered, GroupRec.enter]
  · simp_all

theorem grantable_newEntry (p : Fin 7) (s : State) :
    grantable (pushed p s) (newEntry p .opening s) = grantedAtOnce p s := by
  have hgroup : ∀ g ∈ ringCover s.ring p, (pushed p s).groups[g].state = .released ↔
      s.groups[g].holdCount ≠ 0 ∧ s.groups[g].state = .released := by
    intro g hg
    have hself : (pushed p s).groups[g] = s.groups[g].pushed s.now := by simp [pushed, hg]
    rw [hself, pushed_released]
  rw [Bool.eq_iff_iff]
  simp only [grantable, grantedAtOnce, newEntry, decide_true, Bool.true_and, List.all_eq_true, Bool.and_eq_true,
    decide_eq_true_eq]
  exact ⟨fun h g hg => (hgroup g hg).mp (h g hg), fun h g hg => (hgroup g hg).mpr (h g hg)⟩

/-- Only the entry pushed can be granted. -/
theorem grantableEntries_pushed (hfree : ∀ e ∈ s.stack.entries, e.position ≠ p) :
    grantableEntries (fun e => e.position = p) (pushed p s) =
      if grantedAtOnce p s then [newEntry p .opening s] else [] := by
  have hrest : s.stack.entries.filter (fun e => decide (e.position = p) && grantable (pushed p s) e) = [] := by
    rw [List.filter_eq_nil_iff]
    intro e he
    simp [hfree e he]
  have hentries : (pushed p s).stack.entries = newEntry p .opening s :: s.stack.entries := rfl
  have hposition : decide ((newEntry p .opening s).position = p) = true := decide_eq_true rfl
  rw [grantableEntries, hentries, List.filter_cons, hrest, hposition, grantable_newEntry, Bool.true_and]
  split <;> rfl

/-- What a push sends and leaves (R49, R50). -/
theorem pushEntry_acts (hfree : ∀ e ∈ s.stack.entries, e.position ≠ p) :
    BlocksAct
      ((if sentByPush p s = [] then []
        else [noticeOn .drive
          (.retractOrder ((sentByPush p s).map fun g => (g, (s.groups[g].transition + 1) % 256)) (some p))]) ++
        if grantedAtOnce p s then
          [noticeOn .erector (.segmentGranted p (ringCover s.ring p) (s.stack.entries.length + 1))] else [])
      [.groups, .stack] s (pushEntry p s) ∧
    (pushEntry p s).stack =
      { s.stack with
        entries := newEntry p (if grantedAtOnce p s then .opened else .opening) s :: s.stack.entries } ∧
    (pushEntry p s).groups = (pushed p s).groups := by
  obtain ⟨u, hu⟩ : ∃ u, u = sendRetract (sentByPush p s) (some p) (pushed p s) := ⟨_, rfl⟩
  have hin : SameInputs (pushed p s) u := by
    rw [hu]
    unfold sendRetract
    split
    · exact .refl _
    · exact sameInputs_tell _ _ _
  have hsent := sendRetract_acts (sentByPush p s) (some p) (pushed p s)
  rw [← hu, orderItems_pushed] at hsent
  have hacts := (pushed_acts p s).trans (hsent.mono (by simp))
  have hgrantable : grantableEntries (fun e => e.position = p) u =
      if grantedAtOnce p s then [newEntry p .opening s] else [] := by
    rw [← grantableEntries_pushed hfree]
    obtain ⟨permits, conds, setpoint, sent, orders, rfl⟩ := hin
    rfl
  have hstack : u.stack.entries = newEntry p .opening s :: s.stack.entries := by rw [hin.stack]; rfl
  rw [pushEntry_eq, ← hu, hgrantable]
  by_cases hg : grantedAtOnce p s = true
  · have hopen := openEntry_acts u (newEntry p .opening s)
    rw [hstack] at hopen
    have hother : s.stack.entries.map (fun x =>
        if x = newEntry p .opening s then { newEntry p .opening s with state := .opened } else x) = s.stack.entries := by
      refine (List.map_congr_left fun e he => if_neg ?_).trans (List.map_id _)
      rintro rfl
      exact hfree _ he rfl
    have hgroups : (openEntry u (newEntry p .opening s)).groups = (pushed p s).groups := hin.groups
    simp only [hg, if_true, List.foldl_cons, List.foldl_nil]
    refine ⟨hacts.trans (hopen.mono (by simp)), ?_, hgroups⟩
    rw [openEntry, tell, hin.stack]
    simp only [pushed, List.map_cons, if_true, hother]
    rfl
  · have hnot : grantedAtOnce p s = false := Bool.eq_false_iff.mpr hg
    simp only [hnot, Bool.false_eq_true, if_false, List.append_nil]
    exact ⟨hacts, hin.stack, hin.groups⟩

end Push

/-! ## A change of the held groups handed on (R10, R63, R167) -/

section Held
variable {s : State} {before : Nat}

/-- A PENDING claim stands beside a HELD one in a mode in which it may be granted (R167). -/
def ClaimWaits (m : ModeUnit) : Prop :=
  (m.mode = .advance ∨ m.mode = .build) ∧
    (m.advance = .pending ∧ m.build = .held ∨ m.build = .pending ∧ m.advance = .held)

/-- The mode unit with both claims granted. -/
def ModeUnit.bothHeld (m : ModeUnit) : ModeUnit := { m with advance := .held, build := .held }

/-- The part after the grant of a PENDING claim. -/
def claimGranted (s : State) : State := claimsChanged .grant { s with modes := s.modes.bothHeld }

theorem reexamine_of_grant (hwaits : ClaimWaits s.modes) (htogether : mayStandTogether s = true) :
    reexamine s = claimGranted s := by
  obtain ⟨hmode, hclaims⟩ := hwaits
  unfold reexamine claimGranted
  rw [if_pos ⟨hmode, htogether⟩]
  rcases hclaims with ⟨ha, hb⟩ | ⟨hb, ha⟩
  · rw [if_pos ⟨ha, hb⟩, ModeUnit.bothHeld, ← hb]
  · rw [if_neg (by simp [hb]), if_pos ⟨hb, ha⟩, ModeUnit.bothHeld, ← ha]

theorem reexamine_of_not (h : ¬(ClaimWaits s.modes ∧ mayStandTogether s = true)) : reexamine s = s := by
  unfold reexamine
  split
  · rename_i hmode
    rw [if_neg fun hc => h ⟨⟨hmode.1, .inl hc⟩, hmode.2⟩, if_neg fun hc => h ⟨⟨hmode.1, .inr hc⟩, hmode.2⟩]
  · rfl

/-- The grant of a claim changes the mode unit alone (R167). -/
theorem claimGranted_run (hmode : s.modes.mode = .advance ∨ s.modes.mode = .build) :
    BlocksRun [] [] [.modes] s (claimGranted s) ∧ (claimGranted s).modes =
      { s.modes with
        advance := .held, build := .held, mode := .continuous, haltOutput := false, cause := .grant } := by
  have hearly : s.modes.mode ≠ .uncommissioned := by rintro h; simp [h] at hmode
  have hhalt : s.modes.mode ≠ .halted := by rintro h; simp [h] at hmode
  have hother : s.modes.bothHeld.mode ≠ .continuous := fun h => by
    have h' : s.modes.mode = .continuous := h
    simp [h'] at hmode
  refine ⟨claimsChanged_run _ _ rfl hearly hhalt (.inr rfl) (.inr rfl), ?_⟩
  rw [claimGranted, claimsChanged_of_following (s := { s with modes := s.modes.bothHeld }) hearly hhalt]
  exact enterMode_modes (s := { s with modes := s.modes.bothHeld }) (m := .continuous) hother

theorem heldChanged_of_grant (hwaits : ClaimWaits s.modes) (htogether : mayStandTogether s = true)
    (hne : heldGroups s ≠ before) : heldChanged before s = claimGranted s := by
  have hmodes := (claimGranted_run hwaits.1).2
  unfold heldChanged
  rw [if_neg hne, reexamine_of_grant hwaits htogether]
  exact if_neg fun h => by simp [hmodes, stands] at h

theorem heldChanged_of_stay (hgrant : ¬(ClaimWaits s.modes ∧ mayStandTogether s = true ∧ heldGroups s ≠ before))
    (hfall : ¬(heldGroups s < before ∧ stands s.modes.mode = true)) : heldChanged before s = s := by
  have hre : (if heldGroups s = before then s else reexamine s) = s := by
    split
    · rfl
    · exact reexamine_of_not fun h => hgrant ⟨h.1, h.2, ‹_›⟩
  unfold heldChanged
  rw [hre]
  exact if_neg hfall

/-- The held groups fall where the machine stands: the switch test is made (R10). -/
theorem heldChanged_of_fall (hfall : heldGroups s < before) (hstands : stands s.modes.mode = true) :
    heldChanged before s = switchTest s := by
  have hre : reexamine s = s := reexamine_of_not fun h => by
    rcases h.1.1 with hm | hm <;> simp [hm, stands] at hstands
  unfold heldChanged
  rw [hre, ite_self]
  exact if_pos ⟨hfall, hstands⟩

end Held

/-! ## SEGMENT OPEN that is taken (R78) -/

section Open
variable {s : State} {p : Fin 7}

/-- The part with a position opened, before the change of the held groups is handed on. -/
def positionOpened (p : Fin 7) (s : State) : State :=
  updateMean (announceFirst s.ring.state { pushEntry p s with ring := (pushEntry p s).ring.opened })

theorem openPosition_eq (p : Fin 7) (s : State) :
    openPosition p s = heldChanged (heldGroups s) (positionOpened p s) := rfl

theorem positionOpened_acts {told : List Sent} (h : BlocksAct told [.groups, .stack] s (pushEntry p s)) :
    BlocksAct
      (told ++ if s.ring.state = .armed then
        [noticeOn .erector (.ringState s.ring.number .building .firstOpen s.ring.queue.tail s.ring.setList)] else [])
      [.groups, .stack, .ring, .account] s (positionOpened p s) := by
  have hring : (pushEntry p s).ring = s.ring := by simp
  refine (h.mono (by simp)).trans ?_
  unfold positionOpened announceFirst announceRing updateMean
  rw [hring]
  split
  · rename_i harmed
    exact { alters := {}, sent := by simp [tell, noticeOn, RingRec.opened, harmed] }
  · exact { alters := {} }

theorem positionOpened_frame (p : Fin 7) (s : State) :
    (positionOpened p s).groups = (pushEntry p s).groups ∧ (positionOpened p s).stack = (pushEntry p s).stack ∧
    (positionOpened p s).ring = s.ring.opened ∧ (positionOpened p s).modes = s.modes ∧
    (positionOpened p s).store = s.store ∧
    (positionOpened p s).account = { s.account with thrustMean := meanOfThrust (positionOpened p s).groups } := by
  unfold positionOpened announceFirst announceRing updateMean
  split <;> simp [tell]

/-- The groups held after a push (R44). -/
theorem heldGroups_positionOpened (p : Fin 7) (s : State) :
    heldGroups (positionOpened p s) = (List.finRange 16).countP fun g =>
      decide (0 < s.groups[g].holdCount ∨ g ∈ ringCover s.ring p) := by
  rw [heldGroups_congr (positionOpened_frame p s).1, heldGroups_eq_countP]
  refine List.countP_congr fun g _ => ?_
  rw [decide_eq_true_iff, decide_eq_true_iff, (pushEntry_holds p s).1 g]
  by_cases hg : g ∈ ringCover s.ring p
  · simp [hg]
  · simp [hg]

/-- What a taken SEGMENT OPEN makes of the part (R49, R78, R167). -/
theorem openPosition_run {grants : Bool} (hbuild : s.modes.build = .held) (hfree : ∀ e ∈ s.stack.entries, e.position ≠ p)
    (hgrants : grants = true ↔ s.modes.advance = .pending ∧ (s.modes.mode = .advance ∨ s.modes.mode = .build) ∧
      heldGroups (positionOpened p s) ≠ heldGroups s ∧ (activeProfile s).continuousAllowed = true ∧
      heldGroups (positionOpened p s) ≤ (activeProfile s).releaseContinuous) :
    BlocksRun []
      (((if sentByPush p s = [] then []
        else [noticeOn .drive
          (.retractOrder ((sentByPush p s).map fun g => (g, (s.groups[g].transition + 1) % 256)) (some p))]) ++
        if grantedAtOnce p s then
          [noticeOn .erector (.segmentGranted p (ringCover s.ring p) (s.stack.entries.length + 1))] else []) ++
        if s.ring.state = .armed then
          [noticeOn .erector (.ringState s.ring.number .building .firstOpen s.ring.queue.tail s.ring.setList)] else [])
      ([.groups, .stack, .ring, .account] ++ if grants then [.modes] else []) s (openPosition p s) ∧
    Alters [.chamber, .modes] (positionOpened p s) (openPosition p s) ∧
    (openPosition p s).modes =
      if grants then
        { s.modes with
          advance := .held, build := .held, mode := .continuous, haltOutput := false, cause := .grant }
      else s.modes := by
  obtain ⟨-, -, -, hmodes, hstore, -⟩ := positionOpened_frame p s
  obtain ⟨hpush, -, -⟩ := pushEntry_acts hfree
  have hacts := positionOpened_acts hpush
  have htogether : mayStandTogether (positionOpened p s) = true ↔ (activeProfile s).continuousAllowed = true ∧
      heldGroups (positionOpened p s) ≤ (activeProfile s).releaseContinuous := by
    rw [mayStandTogether, activeProfile_of_store hstore, Bool.and_eq_true, decide_eq_true_iff]
  have hiff : grants = true ↔ ClaimWaits (positionOpened p s).modes ∧ mayStandTogether (positionOpened p s) = true ∧
      heldGroups (positionOpened p s) ≠ heldGroups s := by
    rw [hgrants, htogether, hmodes, ClaimWaits]
    simp only [hbuild]
    tauto
  rw [openPosition_eq]
  by_cases hg : grants = true
  · obtain ⟨hwaits, hmay, hne⟩ := hiff.mp hg
    obtain ⟨hrun, hnew⟩ := claimGranted_run hwaits.1
    rw [heldChanged_of_grant hwaits hmay hne]
    subst hg
    rw [hmodes] at hnew
    have hall := (hacts.mono (l' := [.groups, .stack, .ring, .account, .modes]) (by simp)).trans_run
      (hrun.mono (by simp))
    rw [List.append_nil] at hall
    exact ⟨hall, hrun.alters, hnew⟩
  · have hrises : heldGroups s ≤ heldGroups (positionOpened p s) := by
      rw [heldGroups_positionOpened, heldGroups_eq_countP]
      refine List.countP_mono_left fun g _ hpos => ?_
      exact decide_eq_true (.inl (of_decide_eq_true hpos))
    rw [heldChanged_of_stay (fun h => hg (hiff.mpr h)) fun h => absurd h.1 (Nat.not_lt.mpr hrises)]
    have hnot : grants = false := Bool.eq_false_iff.mpr hg
    subst hnot
    exact ⟨hacts.run, {}, hmodes⟩

end Open

/-- Settles O32. -/
theorem segmentOpenPushes : Obligations.SegmentOpenPushes := by
  refine ⟨fun s f p cover count builder stack hasks hcomm hcover hcount hbuilder hstack => ?_, ?_⟩
  · have hx := exec_segmentOpen .erector s
    have hcountAfter : count = countAfterOpen s cover := by
      rw [hcount]
      refine List.countP_congr fun g _ => ?_
      simp [or_assoc]
    have hchecks : builder = builderChecks p s := by
      rw [hbuilder, builderChecks, reserveLeft]
      cases s.account.thrustMean with
      | none => rfl
      | some m =>
        have hless : decide ((constantsOf s).strokeMax < m + (activeProfile s).strokeReserve) =
            !decide (m + (activeProfile s).strokeReserve ≤ (constantsOf s).strokeMax) := by
          simp [← decide_not]
        simp only [hless]
    have hstackChecks : stack = stackChecks (ringCover s.ring p) s := by
      rw [hstack, hcountAfter, hcover]
      rfl
    rw [hchecks, hstackChecks]
    exact ⟨fun c hc => exec_answers hx hasks rfl (.inl hcomm) (takeSegmentOpen_of_builder (s := taken .erector s) hc),
      fun hb hfree c hc => exec_answers hx hasks rfl (.inl hcomm)
        (takeSegmentOpen_of_stack (s := taken .erector s) hb hfree hc)⟩
  · intro s f p rest cover listed after granted grants hasks hcomm hstate hbuild hallowed hqueue hordinaries hready hreserve
      hcover hlength hcoverFree hentries hlimit hafter hgrants hlisted hgranted
    have hb : builderRefusal p (taken .erector s) = none :=
      builderRefusal_of_ready (s := taken .erector s) hstate hbuild hallowed hqueue hordinaries hready hreserve
    have hst : stackRefusal p (taken .erector s) = none := by
      subst hcover
      exact stackRefusal_of_free (s := taken .erector s) hlength hcoverFree (fun e he => (hentries e he).1) hlimit
    obtain ⟨hrun, halters, hmodes⟩ := openPosition_run (s := taken .erector s) (p := p) (grants := grants) hbuild
      (fun e he => (hentries e he).2) (by
        rw [hgrants, decide_eq_true_iff, hafter, hcover, heldGroups_positionOpened]
        rfl)
    obtain ⟨hgroups, hstack, hring, -, -, haccount⟩ := positionOpened_frame p (taken .erector s)
    obtain ⟨-, hpushed, hpushedGroups⟩ := pushEntry_acts (s := taken .erector s) (p := p) fun e he => (hentries e he).2
    obtain ⟨t, ht, hserved, hconds, hcarries⟩ := exec_runs (exec_segmentOpen .erector s) hasks rfl (.inl hcomm)
      (takeSegmentOpen_of_taken (s := taken .erector s) hb hst) hrun (by
        intro x hx
        simp only [List.mem_append] at hx
        rcases hx with (hx | hx) | hx <;> split at hx <;> simp_all [noticeOn, Message.place])
    have hheld := heldGroups_positionOpened p (taken .erector s)
    have hkept := halters.groups (by simp)
    have hstackKept := halters.stack (by simp)
    have hringKept := halters.ring (by simp)
    rw [heldGroups_congr hkept, hheld, hstackKept, hstack, hpushed, hringKept, hring] at hserved
    have hsent : listed = sentByPush p s := by rw [hlisted, hcover]; rfl
    have hatOnce : granted = grantedAtOnce p s := by rw [hgranted, hcover]; rfl
    have hcode : (if grantedAtOnce p s = true then 1 else 0) =
        (if grantedAtOnce p s = true then EntryState.opened else .opening).code := by split <;> rfl
    have htail : s.ring.queue.tail = rest := by rw [hqueue]; rfl
    subst hcover
    rw [hsent, hatOnce, ← htail, hafter]
    refine ⟨t, ht, ?_, hconds, hcarries.modes.trans hmodes, hcarries.stack.trans (hstackKept.trans (hstack.trans hpushed)),
      fun g => ?_, hcarries.ring.trans (hringKept.trans (hring.trans ?_)), ?_⟩
    · rw [hcode]
      exact hserved
    · have hall : t.groups = (pushed p s).groups :=
        (hcarries.groups.trans hkept).trans (hgroups.trans hpushedGroups)
      rw [hall]
      exact groups_pushed p s g
    · exact ring_opened hstate
    · rw [hcarries.account, hcarries.groups, halters.account (by simp), haccount, hkept]
      rfl

end Sys2Proof.Machine

/-! RING ARM (R71, R72): its refusals, the record that it arms, and the selection that a row may raise (R8, R10). -/

namespace Sys2Proof.Machine

set_option Elab.async false

section Refusals
variable {s : State} {n : Nat}

theorem takeRingArm_of_busy (h : s.ring.state ≠ .idle) : takeRingArm n s = .answer .state [.u8 0] := if_pos h

theorem takeRingArm_of_other (h : s.ring.state = .idle) (hn : n ≠ s.ring.number) :
    takeRingArm n s = .answer .range [.u16 s.ring.number] := (if_neg (not_not_intro h)).trans (if_pos hn)

theorem takeRingArm_of_last (h : s.ring.state = .idle) (hn : n = s.ring.number) (hlast : n = 65535) :
    takeRingArm n s = .answer .range [] :=
  (if_neg (not_not_intro h)).trans ((if_neg (not_not_intro hn)).trans (if_pos hlast))

theorem takeRingArm_of_erasing (h : s.ring.state = .idle) (hn : n = s.ring.number) (hlast : n < 65535)
    (herase : s.plan.status = .erasing) : takeRingArm n s = .answer .busy [] :=
  (if_neg (not_not_intro h)).trans ((if_neg (not_not_intro hn)).trans ((if_neg hlast.ne).trans (if_pos herase)))

theorem takeRingArm_of_blank (h : s.ring.state = .idle) (hn : n = s.ring.number) (hlast : n < 65535)
    (herase : s.plan.status ≠ .erasing) (hrow : rowOfRing s.plan n = none) : takeRingArm n s = .answer .noPlan [] := by
  have hne : n ≠ Config.lastRing := hlast.ne
  simp [takeRingArm, h, ← hn, hne, herase, hrow]

theorem takeRingArm_of_untyped (h : s.ring.state = .idle) (hn : n = s.ring.number) (hlast : n < 65535)
    (herase : s.plan.status ≠ .erasing) {row : PlanRow} (hrow : rowOfRing s.plan n = some row)
    (htype : typeDefined (constantsOf s) row.ringType = false) : takeRingArm n s = .answer .noPlan [] := by
  have hne : n ≠ Config.lastRing := hlast.ne
  simp [takeRingArm, h, ← hn, hne, herase, hrow, htype]

end Refusals

/-! ## The record armed -/

/-- The part with its ring record armed from a row, before the selection that the row raises. -/
def recordArmed (row : PlanRow) (s : State) : State :=
  announceRing .arm { s with ring := s.ring.armed (constantsOf s) row }

theorem ringArmed_eq (row : PlanRow) (s : State) : ringArmed row s = raiseSelection row.profile (recordArmed row s) := rfl

theorem recordArmed_acts (row : PlanRow) (s : State) :
    BlocksAct [noticeOn .erector (.ringState s.ring.number .armed .arm (placementOrder row.start) [])] [.ring, .store] s
      (recordArmed row s) := by
  unfold recordArmed announceRing
  exact { alters := {}, sent := rfl }

/-- A cover, as R1 counts it. -/
theorem coversOf_val (c : Constants) {t : Nat} (ht : t < 8) (key : Nat) (q : Fin 7) :
    (coversOf c t key)[q].map (·.val) =
      (List.range c.ringTypes[t][q].count).map fun j => (key + c.ringTypes[t][q].offset + j) % 16 := by
  have hentries : c.ringTypes.getD t (Vector.replicate 7 { offset := 0, count := 0 }) = c.ringTypes[t] := by
    simp [Vector.getD, ht]
  simp [coversOf, coverOf, hentries, Function.comp_def]

/-- What becomes of the selection that a row raises (R8, R10), with the status that the response carries. -/
theorem raiseSelection_cases (index : Option Nat) (s : State) :
    (index = none ∧ raiseSelection index s = (s, none)) ∨
    ∃ k : Fin 4, (∀ j : Fin 4, index = some j.val → j = k) ∧ index ≠ none ∧
      ((k = s.store.active ∧
          raiseSelection index s = ({ s with store := { s.store with pendingProfile := none } }, some 0)) ∨
        (k ≠ s.store.active ∧
          (stands s.modes.mode = false ∨ releaseLimitIn s.store.profiles[k] s.modes.mode < heldGroups s) ∧
          raiseSelection index s = (raised k s, some 2)) ∨
        (k ≠ s.store.active ∧ stands s.modes.mode = true ∧
          heldGroups s ≤ releaseLimitIn s.store.profiles[k] s.modes.mode ∧
          raiseSelection index s = (makeSwitch k (raised k s), some 1))) := by
  cases index with
  | none => exact .inl ⟨rfl, rfl⟩
  | some n =>
    have hraise : raiseSelection (some n) s =
        ((selectProfile (Fin.ofNat 4 n) s).1, some (selectProfile (Fin.ofNat 4 n) s).2) := rfl
    refine .inr ⟨Fin.ofNat 4 n, fun j hj => ?_, by simp, ?_⟩
    · obtain rfl : n = j.val := by simpa using hj
      exact Fin.ext (Nat.mod_eq_of_lt j.isLt).symm
    · rw [hraise]
      by_cases hk : Fin.ofNat 4 n = s.store.active
      · rw [selectProfile_of_active hk]
        exact .inl ⟨hk, rfl⟩
      · by_cases hwait : stands s.modes.mode = false ∨
            releaseLimitIn s.store.profiles[Fin.ofNat 4 n] s.modes.mode < heldGroups s
        · rw [selectProfile_of_waiting hk hwait]
          exact .inr (.inl ⟨hk, hwait, rfl⟩)
        · obtain ⟨hm, hheld⟩ := not_or.mp hwait
          have hstands := eq_true_of_ne_false hm
          rw [selectProfile_of_due hk hstands (Nat.not_lt.mp hheld)]
          exact .inr (.inr ⟨hk, hstands, Nat.not_lt.mp hheld, rfl⟩)

/-! ## RING ARM (R71, R72) -/

section Armed
variable {s u : State} {f : Frame} {n : Nat} {row : PlanRow} {status : Option Nat}

/-- The fields of a RING ARM response. -/
def armFields (n : Nat) (row : PlanRow) (c : Constants) (status : Option Nat) : List Field :=
  [.u16 n] ++ positionList (placementOrder row.start) ++ coverFields (coversOf c row.ringType row.keySector) ++ optU8 status

/-- A RING ARM whose selection makes no switch. -/
theorem exec_ringArm_served (hasks : Asks s .erector 16 readWord f n) (hcomm : commissioned s = true)
    (htake : takeRingArm n (taken .erector s) = .act u .done (armFields n row (constantsOf s) status))
    (hacts : BlocksAct [] [.ring, .store] (recordArmed row (taken .erector s)) u) :
    ∃ t, exec (.ringArm .erector) s = .next t ∧
      Served .erector f .done (armFields n row (constantsOf s) status)
        [noticeOn .erector (.ringState s.ring.number .armed .arm (placementOrder row.start) [])] [.ring, .store] s t ∧
      CondsFollow s t ∧ Carries u t :=
  exec_acts (exec_ringArm .erector s) hasks rfl (.inl hcomm) htake
    ((recordArmed_acts row (taken .erector s)).trans hacts) (by simp [noticeOn, Message.place])

end Armed

/-- Settles O37: the record is armed, and then each of the four things happens that R8 can make of the row's selection. -/
theorem ringArms : Obligations.RingArms := by
  intro s f n hasks hcomm
  have hx := exec_ringArm .erector s
  have answers := fun {code fields} => exec_answers (code := code) (fields := fields) hx hasks rfl (.inl hcomm)
  refine ⟨fun h => answers (takeRingArm_of_busy (s := taken .erector s) h),
    fun h hn => answers (takeRingArm_of_other (s := taken .erector s) h hn),
    fun h hn hlast => answers (takeRingArm_of_last (s := taken .erector s) h hn hlast),
    fun h hn hlast herase => answers (takeRingArm_of_erasing (s := taken .erector s) h hn hlast herase),
    fun h hn hlast herase => ⟨fun hrow => answers (takeRingArm_of_blank (s := taken .erector s) h hn hlast herase hrow),
      fun row hrow => ⟨fun htype =>
        answers (takeRingArm_of_untyped (s := taken .erector s) h hn hlast herase hrow htype), fun htype => ?_⟩⟩⟩
  have htake := takeRingArm_of_armable (s := taken .erector s) h hn hlast herase hrow htype
  have hring := ringArmed_ring row (taken .erector s)
  have hcovers : ∀ ht : row.ringType < 8, ∀ q : Fin 7,
      (coversOf (constantsOf s) row.ringType row.keySector)[q].map (·.val) =
        (List.range (constantsOf s).ringTypes[row.ringType][q].count).map fun j =>
          (row.keySector + (constantsOf s).ringTypes[row.ringType][q].offset + j) % 16 := fun ht q => coversOf_val _ ht _ q
  rw [ringArmed_eq] at htake hring
  obtain ⟨hnone, hraise⟩ | ⟨k, hk, hsome, hcases⟩ := raiseSelection_cases row.profile (recordArmed row (taken .erector s))
  · simp only [hraise] at htake hring
    obtain ⟨t, ht, hserved, hconds, hcarries⟩ := exec_ringArm_served hasks hcomm htake (.refl _ _)
    exact ⟨t, _, _, none, ht, rfl, by rw [hserved.sent]; rfl, hserved.stands, hcarries.ring.trans hring, hcovers,
      hcarries.groups, hcarries.plan, fun _ => ⟨hserved, hconds⟩, fun _ => ⟨rfl, hcarries.store⟩,
      fun j hj => by simp [hnone] at hj⟩
  · have hself : ∀ j : Fin 4, row.profile = some j.val → j = k := hk
    obtain ⟨hactive, hraise⟩ | ⟨hne, hwait, hraise⟩ | ⟨hne, hstands, hheld, hraise⟩ := hcases
    · simp only [hraise] at htake hring
      obtain ⟨t, ht, hserved, hconds, hcarries⟩ := exec_ringArm_served hasks hcomm htake
        ((acts_of_store _ _).mono (by simp))
      refine ⟨t, _, _, some 0, ht, rfl, by rw [hserved.sent]; rfl, hserved.stands, hcarries.ring.trans hring, hcovers,
        hcarries.groups, hcarries.plan, fun _ => ⟨hserved, hconds⟩, fun hnone => absurd hnone hsome, fun j hj => ?_⟩
      rw [hself j hj]
      exact ⟨fun _ => ⟨rfl, hcarries.store⟩, fun hne => absurd hactive hne, fun hne => absurd hactive hne⟩
    · simp only [hraise] at htake hring
      obtain ⟨t, ht, hserved, hconds, hcarries⟩ := exec_ringArm_served hasks hcomm htake
        ((acts_of_store _ _).mono (by simp))
      refine ⟨t, _, _, some 2, ht, rfl, by rw [hserved.sent]; rfl, hserved.stands, hcarries.ring.trans hring, hcovers,
        hcarries.groups, hcarries.plan, fun _ => ⟨hserved, hconds⟩, fun hnone => absurd hnone hsome, fun j hj => ?_⟩
      rw [hself j hj]
      refine ⟨fun hactive => absurd hactive hne, fun _ _ => ⟨rfl, hcarries.store⟩, fun _ hm hheld => ?_⟩
      obtain hwait | hwait := hwait
      · exact absurd (hwait.symm.trans hm) Bool.false_ne_true
      · have hlimit := releaseLimitIn_of_not_continuous (p := s.store.profiles[k]) (not_continuous_of_stands hm)
        exact absurd (hheld.trans_eq hlimit.symm) (Nat.not_le.mpr hwait)
    · simp only [hraise] at htake hring
      have hstill : advancing (raised k (recordArmed row (taken .erector s))).modes.mode = false :=
        not_advancing_of_stands hstands
      have hsame : Stands (taken .erector s) (makeSwitch k (raised k (recordArmed row (taken .erector s)))) := by
        constructor <;> simp [raised, recordArmed]
      obtain ⟨t, ht, hs, hsent, hcarries, -⟩ := exec_works hx hasks rfl (.inl hcomm) htake hsame
      have hgroups : (makeSwitch k (raised k (recordArmed row (taken .erector s)))).groups = s.groups := by
        simp [raised, recordArmed]
      have hplan : (makeSwitch k (raised k (recordArmed row (taken .erector s)))).plan = s.plan := by
        simp [raised, recordArmed]
      refine ⟨t, _, _, some 1, ht, rfl, hsent, hs, hcarries.ring.trans hring, hcovers, hcarries.groups.trans hgroups,
        hcarries.plan.trans hplan, fun h => absurd rfl h, fun hnone => absurd hnone hsome, fun j hj => ?_⟩
      rw [hself j hj]
      refine ⟨fun hactive => absurd hactive hne, fun _ hwait => ?_, fun _ _ _ => ⟨rfl, ?_, ?_, ?_, ?_⟩⟩
      · have hlimit := releaseLimitIn_of_not_continuous (p := s.store.profiles[k]) (not_continuous_of_stands hstands)
        obtain hwait | hwait := hwait
        · exact absurd (hwait.symm.trans hstands) Bool.false_ne_true
        · exact absurd (hlimit ▸ hheld) (Nat.not_le.mpr hwait)
      · exact hcarries.store.trans (makeSwitch_store k _)
      · exact hcarries.modes.trans (makeSwitch_modes k (not_continuous_of_stands hstands))
      · exact hcarries.switch_torqueCeiling hstill
      · have hprofile : activeProfile t = s.store.profiles[k] := hcarries.profile.trans activeProfile_makeSwitch
        rw [← hprofile]
        exact hcarries.switch_integrator hstill

end Sys2Proof.Machine

/-! STROKE REPORT without a closure (R17 to R24, R36). -/

namespace Sys2Proof.Machine

set_option Elab.async false

/-! ## Which strokes count (R18 to R20) -/

section Count
variable {s : State} {a : StrokeArgs} {g : Fin 16}

theorem deltaOf_none (h : s.account.prev[g] = none) : deltaOf s a g = none := by
  unfold deltaOf
  rw [h]

theorem deltaOf_some {q : PrevStroke} (h : s.account.prev[g] = some q) : deltaOf s a g =
    if s.groups[g].state = .thrust ∧ a.flags[g] = true ∧ q.eligible = true then
      some ((clampedStroke s a.strokes[g] : Int) - q.stroke)
    else none := by
  unfold deltaOf
  rw [h]

theorem isSuspect_iff (s : State) (a : StrokeArgs) (g : Fin 16) : isSuspect s a g = true ↔
    s.groups[g].state = .thrust ∧ a.flags[g] = true ∧ ∃ q, s.account.prev[g] = some q ∧ q.eligible = true ∧
      500 < ((min a.strokes[g] (constantsOf s).strokeMax : Nat) - (q.stroke : Int)).natAbs := by
  unfold isSuspect
  cases h : s.account.prev[g] with
  | none => simp [deltaOf_none h]
  | some q =>
    rw [deltaOf_some h]
    by_cases hc : s.groups[g].state = .thrust ∧ a.flags[g] = true ∧ q.eligible = true
    · obtain ⟨hthrust, hflag, helig⟩ := hc
      rw [if_pos ⟨hthrust, hflag, helig⟩]
      simp only [decide_eq_true_eq, Option.some.injEq, exists_eq_left', hthrust, hflag, helig, true_and]
      rfl
    · rw [if_neg hc]
      simp only [Bool.false_eq_true, false_iff, Option.some.injEq, exists_eq_left']
      exact fun h' => hc ⟨h'.1, h'.2.1, h'.2.2.1⟩

end Count

/-! ## The end of a report -/

/-- What a STROKE REPORT leaves after its closures: the previous strokes and the mean (R24, R36). -/
def strokesEnded (a : StrokeArgs) (before t : State) : State :=
  updateMean { t with account := { t.account with prev := Vector.ofFn (strokePrevious before a) } }

theorem strokesTaken_eq (a : StrokeArgs) (s : State) : strokesTaken a s =
    strokesEnded a s (closeAndTest (strokesCounted a s).account.accumulator (strokesCounted a s)) := rfl

theorem closeAndTest_of_short (fuel : Nat) {s : State} (h : closureDue s = false) : closeAndTest fuel s = s := by
  cases fuel with
  | zero => rfl
  | succ k =>
    unfold closeAndTest
    rw [h]
    rfl

theorem strokesTaken_of_short {a : StrokeArgs} {s : State} (h : closureDue (strokesCounted a s) = false) :
    strokesTaken a s = strokesEnded a s (strokesCounted a s) := by
  rw [strokesTaken_eq, closeAndTest_of_short _ h]

theorem exec_strokeReport (p : Port) (s : State) :
    exec (.strokeReport p) s = .next (request 1 [.drive] false readStrokes takeStrokes p s) := rfl

/-- The advance that a report counts (R23). -/
def countedAdvance (a : StrokeArgs) (s : State) : Nat :=
  if advancing s.modes.mode then leftOfAdvance s.account.residue (reportAdvance (contributions s a)) else 0

theorem takeStrokes_eq (a : StrokeArgs) (s : State) : takeStrokes a s = .act (strokesTaken a s) .done
    [.u8 (contributions s a).length, .i16 (reportAdvance (contributions s a)), .u16 (countedAdvance a s),
      .u16 (leftOfAdvance s.account.residue (reportAdvance (contributions s a)) - countedAdvance a s),
      .u8 (closedBetween s.account.counter (strokesTaken a s).account.counter),
      .u16 (strokesTaken a s).account.accumulator, .u16 (strokesTaken a s).account.residue] := rfl

/-! ## What a report counts -/

section Counted
variable (a : StrokeArgs) (s : State)

theorem strokesCounted_account : (strokesCounted a s).account =
    { s.account with
      residue := residueAfter s.account.residue (reportAdvance (contributions s a))
      accumulator := s.account.accumulator + countedAdvance a s
      cycle := { s.account.cycle with advance := satAdd s.account.cycle.advance (countedAdvance a s) }
      totals := { s.account.totals with advance := s.account.totals.advance.add (countedAdvance a s) } } := rfl

theorem strokesCounted_cutter : (strokesCounted a s).cutter =
    { s.cutter with
      revAdvance :=
        if s.cutter.run = .running ∧ s.cutter.indexRef.isSome = true then
          min (s.cutter.revAdvance + countedAdvance a s) 65535
        else s.cutter.revAdvance } := by
  unfold strokesCounted countAdvance
  simp only
  split <;> rfl

theorem strokesCounted_groups (g : Fin 16) : (strokesCounted a s).groups[g] =
    if a.flags[g] = true then
      { s.groups[g] with
        lastStroke := min a.strokes[g] (constantsOf s).strokeMax
        validity := if isSuspect s a g then .suspect else .valid }
    else { s.groups[g] with validity := .invalid } := by
  have hgroup : (strokesCounted a s).groups[g] = strokeRecord s a g s.groups[g] := by
    simp [strokesCounted, countAdvance]
  rw [hgroup]
  rfl

/-- The previous strokes that a report leaves (R24). -/
theorem strokePrevious_eq (g : Fin 16) : strokePrevious s a g =
    if a.flags[g] = true then
      some { stroke := min a.strokes[g] (constantsOf s).strokeMax
             eligible := decide (s.groups[g].state = .thrust ∧ (strokesCounted a s).groups[g].validity = .valid) }
    else none := by
  rw [strokesCounted_groups, strokePrevious]
  by_cases hf : a.flags[g] = true
  · rw [if_pos hf, if_pos hf, if_pos hf]
    cases isSuspect s a g <;> simp [clampedStroke]
  · rw [if_neg hf, if_neg hf]

theorem strokesCounted_acts : BlocksAct [] [.account, .groups, .cutter] s (strokesCounted a s) := by
  unfold strokesCounted countAdvance
  exact { alters := {} }

theorem strokesEnded_acts (before t : State) : BlocksAct [] [.account, .groups, .cutter] t (strokesEnded a before t) := by
  unfold strokesEnded updateMean
  exact { alters := {} }

end Counted

/-- Settles O25. -/
theorem strokeReportCounts : Obligations.StrokeReportCounts := by
  refine ⟨fun s a => ⟨isSuspect_iff s a, ?_⟩, fun s f a hasks hcomm d left counted hd hleft hcounted hshort => ?_⟩
  · refine List.filterMap_congr fun g _ => ?_
    cases h : s.account.prev[g] with
    | none => simp [deltaOf_none h]
    | some q =>
      rw [deltaOf_some h]
      by_cases hc : s.groups[g].state = .thrust ∧ a.flags[g] = true ∧ q.eligible = true
      · obtain ⟨hthrust, hflag, helig⟩ := hc
        rw [if_pos ⟨hthrust, hflag, helig⟩, Option.filter_some]
        simp only [decide_eq_true_eq, hthrust, hflag, helig, true_and]
        rfl
      · rw [if_neg hc]
        exact (if_neg fun h' => hc ⟨h'.1, h'.2.1, h'.2.2.1⟩).symm
  · obtain ⟨u, hu⟩ : ∃ u, u = taken .drive s := ⟨_, rfl⟩
    have hcount : counted = countedAdvance a u := by
      rw [hcounted, hleft, hd, hu, countedAdvance]
      simp only [advancing, Bool.or_eq_true, decide_eq_true_eq]
      rfl
    have hresidue : residueAfter u.account.residue (reportAdvance (contributions u a)) =
        if d < 0 then min (s.account.residue + d.natAbs) 500 else s.account.residue - d.toNat := by
      rw [hd, hu]
      rfl
    have hstay : closureDue (strokesCounted a u) = false := by
      have hsum : (strokesCounted a u).account.accumulator = s.account.accumulator + counted := by
        rw [strokesCounted_account, ← hcount, hu]
        rfl
      have hlen : (activeProfile (strokesCounted a u)).incrementLength = (activeProfile s).incrementLength := by
        rw [hu]
        rfl
      rw [closureDue, hsum, hlen, Bool.and_eq_false_iff, decide_eq_false_iff_not (p := _ ≤ _)]
      exact .inr (Nat.not_le.mpr hshort)
    have htake := takeStrokes_eq a u
    rw [strokesTaken_of_short hstay, ← hcount] at htake
    have hbetween : closedBetween u.account.counter (strokesEnded a u (strokesCounted a u)).account.counter = 0 :=
      (if_pos le_rfl).trans (Nat.sub_self _)
    rw [hbetween, hu] at htake
    obtain ⟨t, ht, hserved, hconds, hcarries⟩ := exec_acts (exec_strokeReport .drive s) hasks rfl (.inl hcomm) htake
      ((strokesCounted_acts a _).trans (strokesEnded_acts a _ _)) (List.forall_mem_nil _)
    rw [← hcarries.account] at hserved
    have hleft' : leftOfAdvance (taken .drive s).account.residue (reportAdvance (contributions (taken .drive s) a)) = left := by
      rw [hleft, hd]
      rfl
    have hd' : reportAdvance (contributions (taken .drive s) a) = d := hd.symm
    rw [hleft', hd'] at hserved
    rw [hu] at hcount hresidue
    have hgroups : t.groups = (strokesCounted a (taken .drive s)).groups := hcarries.groups
    have haccount : t.account =
        { (strokesCounted a (taken .drive s)).account with
          prev := Vector.ofFn (strokePrevious (taken .drive s) a)
          thrustMean := meanOfThrust (strokesCounted a (taken .drive s)).groups } := hcarries.account
    have hcutter : t.cutter = (strokesCounted a (taken .drive s)).cutter := hcarries.cutter
    refine ⟨t, ht, hserved, hconds, ?_, fun g => ?_, fun g => ?_, ?_⟩
    · rw [hgroups, haccount, strokesCounted_account, hresidue, ← hcount]
      rfl
    · rw [hgroups, strokesCounted_groups]
      rfl
    · rw [hgroups, haccount]
      have hofFn : (Vector.ofFn (strokePrevious (taken .drive s) a))[g] = strokePrevious (taken .drive s) a g := by simp
      exact hofFn.trans (strokePrevious_eq a (taken .drive s) g)
    · rw [hcutter, strokesCounted_cutter, ← hcount]
      rfl

end Sys2Proof.Machine

/-! The pop of an entry (R53), with the change of the held groups that it hands on (R10, R63, R167). -/

namespace Sys2Proof.Machine

set_option Elab.async false

/-! ## What a profile switch leaves of the stack (R11, R61) -/

theorem changeMode_stack (m : Mode) (cause : ModeCause) (s : State) : (changeMode m cause s).stack = s.stack := by simp

theorem makeSwitch_stack (n : Fin 4) (s : State) : (makeSwitch n s).stack =
    { s.stack with entries := s.stack.entries.map (markOvertime s.store.profiles[n].releaseTime s.now) } := by
  simp [makeSwitch_eq, judgeDebt, overtimeAtSwitch, switchUnits, activeProfile]

section Pop
variable {s : State} {e : StackEntry} {rest : List StackEntry}

/-- The groups that a pop sends back to the push (R53). -/
def sentByPop (e : StackEntry) (s : State) : List (Fin 16) := e.cover.filter fun g => s.groups[g].returns

/-- The part after the top entry has left and its groups have been sent, before the change of the held groups is handed
on (R53). -/
def entryLeft (e : StackEntry) (rest : List StackEntry) (s : State) : State :=
  sendExtend (sentByPop e s) (some e.position) (popped e rest s)

theorem popEntry_eq (h : s.stack.entries = e :: rest) :
    popEntry s = refresh (heldChanged (heldGroups s) (entryLeft e rest s)) := popEntry_cons h

/-- One group after a pop (R44, R53). -/
theorem groups_popped (e : StackEntry) (rest : List StackEntry) (s : State) (g : Fin 16) :
    (popped e rest s).groups[g] =
      if g ∈ e.cover then
        if s.groups[g].returns then
          { s.groups[g] with
            state := .returning, stateTime := s.now, slow := false, holdCount := s.groups[g].holdCount - 1
            transition := (s.groups[g].transition + 1) % 256 }
        else { s.groups[g] with holdCount := s.groups[g].holdCount - 1 }
      else s.groups[g] := by
  have hgroup : (popped e rest s).groups[g] =
      if e.cover.contains g then s.groups[g].popped s.now else s.groups[g] := by
    simp [popped]
  rw [hgroup]
  simp only [List.contains_iff_mem]
  rfl

theorem popped_acts (e : StackEntry) (rest : List StackEntry) (s : State) :
    BlocksAct [] [.groups, .stack] s (popped e rest s) := by
  unfold popped
  exact { alters := {} }

theorem sendExtend_acts (groups : List (Fin 16)) (cause : Option (Fin 7)) (s : State) :
    BlocksAct (if groups = [] then [] else [noticeOn .drive (.extendOrder (orderItems s groups) cause)]) [] s
      (sendExtend groups cause s) := by
  cases groups with
  | nil => exact .refl _ _
  | cons g rest => exact { alters := {}, sent := rfl }

theorem orderItems_popped (e : StackEntry) (rest : List StackEntry) (s : State) :
    orderItems (popped e rest s) (sentByPop e s) =
      (sentByPop e s).map fun g => (g, (s.groups[g].transition + 1) % 256) := by
  refine List.map_congr_left fun g hg => ?_
  obtain ⟨hcover, hreturns⟩ := List.mem_filter.mp hg
  rw [groups_popped, if_pos hcover, if_pos hreturns]

/-- What a pop tells of the groups that it sends back. -/
def popOrder (e : StackEntry) (s : State) : List Sent :=
  if sentByPop e s = [] then []
  else [noticeOn .drive
    (.extendOrder ((sentByPop e s).map fun g => (g, (s.groups[g].transition + 1) % 256)) (some e.position))]

theorem popOrder_place (e : StackEntry) (s : State) : ∀ x ∈ popOrder e s, x.message.place = 0 := by
  intro x hx
  unfold popOrder at hx
  split at hx <;> simp_all [noticeOn, Message.place]

theorem entryLeft_acts (e : StackEntry) (rest : List StackEntry) (s : State) :
    BlocksAct (popOrder e s) [.groups, .stack] s (entryLeft e rest s) := by
  have hsent := sendExtend_acts (sentByPop e s) (some e.position) (popped e rest s)
  rw [orderItems_popped] at hsent
  exact (popped_acts e rest s).trans (hsent.mono (by simp))

theorem entryLeft_inputs (e : StackEntry) (rest : List StackEntry) (s : State) :
    SameInputs (popped e rest s) (entryLeft e rest s) := by
  unfold entryLeft sendExtend
  split
  · exact .refl _
  · exact sameInputs_tell _ _ _

/-- The groups held after a pop (R44). -/
theorem heldGroups_entryLeft (e : StackEntry) (rest : List StackEntry) (s : State) :
    heldGroups (entryLeft e rest s) = (List.finRange 16).countP fun g =>
      if g ∈ e.cover then 1 < s.groups[g].holdCount else 0 < s.groups[g].holdCount := by
  rw [heldGroups_congr (entryLeft_inputs e rest s).groups, heldGroups_eq_countP]
  refine List.countP_congr fun g _ => ?_
  rw [decide_eq_true_iff, popped_holdCount]
  by_cases hg : g ∈ e.cover
  · simp [hg]
  · simp [hg]

/-- A pop leaves the groups as the entry's leaving does, whatever it hands on. -/
theorem popEntry_groups (h : s.stack.entries = e :: rest) : (popEntry s).groups = (popped e rest s).groups := by
  rw [popEntry_eq h]
  simp [entryLeft]

/-- A pop at which a PENDING claim is granted (R167). -/
theorem popEntry_of_grant (h : s.stack.entries = e :: rest) (hwaits : ClaimWaits s.modes)
    (htogether : mayStandTogether (entryLeft e rest s) = true)
    (hne : heldGroups (entryLeft e rest s) ≠ heldGroups s) :
    popEntry s = refresh (claimGranted (entryLeft e rest s)) := by
  have hmodes : (entryLeft e rest s).modes = s.modes := (entryLeft_inputs e rest s).modes
  rw [popEntry_eq h, heldChanged_of_grant (hmodes ▸ hwaits) htogether hne]

/-- A pop at which a pending selection becomes active (R10). -/
theorem popEntry_of_switch (h : s.stack.entries = e :: rest) {n : Fin 4} (hpend : s.store.pendingProfile = some n)
    (hfalls : heldGroups (entryLeft e rest s) < heldGroups s) (hstands : stands s.modes.mode = true)
    (hheld : heldGroups (entryLeft e rest s) ≤ s.store.profiles[n].releaseBuild) :
    popEntry s = refresh (makeSwitch n (entryLeft e rest s)) := by
  have hmodes : (entryLeft e rest s).modes = s.modes := (entryLeft_inputs e rest s).modes
  have hstore : (entryLeft e rest s).store = s.store := (entryLeft_inputs e rest s).store
  have hpend' : (entryLeft e rest s).store.pendingProfile = some n := by rw [hstore, hpend]
  rw [popEntry_eq h, heldChanged_of_fall hfalls (by rwa [hmodes]), switchTest_of_due hpend']
  rw [releaseLimitIn_of_not_continuous (not_continuous_of_stands (hmodes ▸ hstands)), hstore]
  exact hheld

/-- A pop that hands nothing on but the permits. -/
theorem popEntry_of_stay (h : s.stack.entries = e :: rest)
    (hgrant : ¬(ClaimWaits s.modes ∧ mayStandTogether (entryLeft e rest s) = true ∧
      heldGroups (entryLeft e rest s) ≠ heldGroups s))
    (hwait : ∀ n, s.store.pendingProfile = some n → heldGroups (entryLeft e rest s) < heldGroups s →
      stands s.modes.mode = true → s.store.profiles[n].releaseBuild < heldGroups (entryLeft e rest s)) :
    popEntry s = refresh (entryLeft e rest s) := by
  have hmodes : (entryLeft e rest s).modes = s.modes := (entryLeft_inputs e rest s).modes
  have hstore : (entryLeft e rest s).store = s.store := (entryLeft_inputs e rest s).store
  rw [popEntry_eq h]
  by_cases hfall : heldGroups (entryLeft e rest s) < heldGroups s ∧ stands s.modes.mode = true
  · rw [heldChanged_of_fall hfall.1 (by rw [hmodes]; exact hfall.2), switchTest_of_waiting fun n hn => ?_]
    rw [releaseLimitIn_of_not_continuous (not_continuous_of_stands (by rw [hmodes]; exact hfall.2)), hstore]
    rw [hstore] at hn
    exact hwait n hn hfall.1 hfall.2
  · rw [heldChanged_of_stay (by rwa [hmodes]) (by rwa [hmodes])]

end Pop

end Sys2Proof.Machine

/-! SEGMENT CLOSE that is taken (R53, R80 to R82), with the closing of the ring (R85, R86). -/

namespace Sys2Proof.Machine

set_option Elab.async false

theorem BlocksTell.mono {told : List Sent} {steps : List Permits} {l l' : List Block} {s t : State}
    (h : BlocksTell steps told l s t) (hl : l ⊆ l') : BlocksTell steps told l' s t :=
  { h with
    alters := h.alters.mono (fun _ => id) (List.cons_subset_cons _ hl)
    chamber := fun hc => h.chamber fun hm => hc (hl hm) }

/-! ## What the permits do not follow -/

/-- The permits follow no record of the ring, the plan or the store but constants and profile (R171 to R175). -/
theorem permitsOf_congr {u v : State} (hconstants : u.store.constants = v.store.constants)
    (hprofile : activeProfile u = activeProfile v) (haccount : u.account = v.account) (hgroups : u.groups = v.groups)
    (hstack : u.stack = v.stack) (hgrout : u.grout = v.grout) (hstatus : u.chamber.status = v.chamber.status)
    (hcounter : u.chamber.spoilCounter = v.chamber.spoilCounter) (hcutter : u.cutter = v.cutter)
    (hmodes : u.modes = v.modes) (hlinks : u.links = v.links) : permitsOf u = permitsOf v := by
  have hclass : ∀ name subject, classOf u name subject = classOf v name subject := by
    intro name subject
    cases name <;> simp [classOf, hstack]
  have hlevel : ∀ name subject, name ≠ .ringFailed → name ≠ .planMissing →
      level u name subject = level v name subject := by
    intro name subject hfailed hmissing
    cases name with
    | ringFailed => exact absurd rfl hfailed
    | planMissing => exact absurd rfl hmissing
    | strokeEnd =>
      simp only [level, haccount, constantsOf, hconstants, hprofile]
      rfl
    | _ =>
      simp [level, haccount, hprofile, hgroups, hstack, hgrout, hstatus, hcounter, hcutter, hmodes, hlinks, someOvertime,
        groutBacklog, motorsLow, subjectGroup]
  have hlimiting : limitingConditions u = limitingConditions v := by
    refine List.filter_congr fun k _ => ?_
    rw [hclass]
    by_cases hfailed : k.1 = .ringFailed
    · simp [hfailed, classOf]
    · by_cases hmissing : k.1 = .planMissing
      · simp [hmissing, classOf]
      · rw [hlevel k.1 k.2 hfailed hmissing]
  have hceil : speedCeiling u = speedCeiling v := by
    simp only [speedCeiling, advanceBlocked, governedSpeed, someGroupIs, hlevel .groutStop none nofun nofun,
      hlevel .strokeEnd none nofun nofun, hlevel .releaseOvertime none nofun nofun,
      hlevel .groutDeficit none nofun nofun, hlevel .overExcavation none nofun nofun, hprofile, hgroups, hcutter, hmodes]
    rfl
  simp only [permitsOf, advancePermitOf, cutterPermitOf, buildPermitOf, groutPermitOf, thrustCeiling, thrustGroups,
    commissioned, hceil, hlimiting, hprofile, haccount, hgroups, hstack, hcutter, hmodes]

/-- A setpoint that is held down is held down once (R126). -/
theorem heldDown_settles {s t r : State} (ht : t.chamber = s.chamber ∨ t.chamber = heldDown s s)
    (hp : activeProfile r = activeProfile s) (hr : r.chamber = if standstillLimit r then heldDown t r else t.chamber) :
    r.chamber = s.chamber ∨ r.chamber = heldDown s s := by
  rw [hr]
  obtain ht | ht := ht
  · split
    · right
      rw [heldDown, heldDown, ht, hp]
    · exact .inl ht
  · right
    split
    · rw [heldDown, ht, hp, heldDown]
      simp
    · exact ht

/-! ## A pop that makes no switch -/

/-- Both claims may stand together after a pop (R163). -/
theorem mayStandTogether_entryLeft (e : StackEntry) (rest : List StackEntry) (s : State) :
    mayStandTogether (entryLeft e rest s) = true ↔ (activeProfile s).continuousAllowed = true ∧
      heldGroups (entryLeft e rest s) ≤ (activeProfile s).releaseContinuous := by
  have hstore : (entryLeft e rest s).store = s.store := (entryLeft_inputs e rest s).store
  rw [mayStandTogether, activeProfile_of_store hstore, Bool.and_eq_true, decide_eq_true_iff]

section Waits
variable {s : State} {e : StackEntry} {rest : List StackEntry} {grants : Bool}

/-- A pop with no selection that it makes active: the entry's leaving, the grant of a claim, the permits. -/
theorem popEntry_waits (h : s.stack.entries = e :: rest)
    (hgrants : grants = true ↔ ClaimWaits s.modes ∧ mayStandTogether (entryLeft e rest s) = true ∧
      heldGroups (entryLeft e rest s) ≠ heldGroups s)
    (hwait : ∀ n, s.store.pendingProfile = some n → heldGroups (entryLeft e rest s) < heldGroups s →
      stands s.modes.mode = true → s.store.profiles[n].releaseBuild < heldGroups (entryLeft e rest s)) :
    ∃ v, popEntry s = refresh v ∧
      BlocksRun [] (popOrder e s) ([.groups, .stack] ++ if grants then [.modes] else []) s v ∧
      v.stack = { s.stack with entries := rest } ∧
      v.modes =
        if grants then
          { s.modes with
            advance := .held, build := .held, mode := .continuous, haltOutput := false, cause := .grant }
        else s.modes := by
  have hin := entryLeft_inputs e rest s
  have hmodes : (entryLeft e rest s).modes = s.modes := hin.modes
  have hstack : (entryLeft e rest s).stack = { s.stack with entries := rest } := hin.stack
  have hacts := entryLeft_acts e rest s
  by_cases hg : grants = true
  · obtain ⟨hwaits, htogether, hne⟩ := hgrants.mp hg
    subst hg
    have hmode : (entryLeft e rest s).modes.mode = .advance ∨ (entryLeft e rest s).modes.mode = .build := by
      rw [hmodes]
      exact hwaits.1
    obtain ⟨hrun, hnew⟩ := claimGranted_run hmode
    have hall := (hacts.mono (l' := [.groups, .stack, .modes]) (by simp)).trans_run (hrun.mono (by simp))
    rw [List.append_nil] at hall
    rw [hmodes] at hnew
    exact ⟨_, popEntry_of_grant h hwaits htogether hne, hall, (hrun.alters.stack (by simp)).trans hstack, hnew⟩
  · have hnot : grants = false := Bool.eq_false_iff.mpr hg
    subst hnot
    exact ⟨_, popEntry_of_stay h (fun hc => hg (hgrants.mpr hc)) hwait, hacts.run, hstack, hmodes⟩

/-- The mode unit after a pop: a PENDING claim may have been granted (R167). -/
theorem popEntry_modes (h : s.stack.entries = e :: rest)
    (hgrants : grants = true ↔ ClaimWaits s.modes ∧ mayStandTogether (entryLeft e rest s) = true ∧
      heldGroups (entryLeft e rest s) ≠ heldGroups s) :
    (popEntry s).modes =
      if grants then
        { s.modes with
          advance := .held, build := .held, mode := .continuous, haltOutput := false, cause := .grant }
      else s.modes := by
  have hmodes : (entryLeft e rest s).modes = s.modes := (entryLeft_inputs e rest s).modes
  by_cases hg : grants = true
  · obtain ⟨hwaits, htogether, hne⟩ := hgrants.mp hg
    have hmode : (entryLeft e rest s).modes.mode = .advance ∨ (entryLeft e rest s).modes.mode = .build := by
      rw [hmodes]
      exact hwaits.1
    rw [popEntry_of_grant h hwaits htogether hne, (sameInputs_refresh _).modes, (claimGranted_run hmode).2, if_pos hg,
      hmodes]
  · rw [popEntry_eq h, (sameInputs_refresh _).modes, if_neg hg]
    by_cases hfall : heldGroups (entryLeft e rest s) < heldGroups s ∧ stands s.modes.mode = true
    · rw [heldChanged_of_fall hfall.1 (by rw [hmodes]; exact hfall.2), switchTest_modes, hmodes]
      rw [hmodes]
      exact not_continuous_of_stands hfall.2
    · rw [heldChanged_of_stay (by rw [hmodes]; exact fun hc => hg (hgrants.mpr hc)) (by rwa [hmodes]), hmodes]

end Waits

/-! ## The ring builder's test after a pop (R85) -/

section Test
variable {s : State} {e : StackEntry} {rest : List StackEntry}

/-- No group is RETURNING or UNCERTAIN. -/
def Settled (s : State) : Prop := ∀ g : Fin 16, s.groups[g].state ≠ .returning ∧ s.groups[g].state ≠ .uncertain

theorem someGroupIs_eq_false (s : State) (x : GroupState) :
    someGroupIs s x = false ↔ ∀ g : Fin 16, s.groups[g].state ≠ x := by
  rw [someGroupIs, toList_eq_map_finRange, List.any_map, List.any_eq_false]
  simp

theorem settled_iff (s : State) :
    (someGroupIs s .returning = false ∧ someGroupIs s .uncertain = false) ↔ Settled s := by
  rw [someGroupIs_eq_false, someGroupIs_eq_false]
  exact ⟨fun h g => ⟨h.1 g, h.2 g⟩, fun h => ⟨fun g => (h g).1, fun g => (h g).2⟩⟩

theorem returns_state {r : GroupRec} (h : r.returns = true) : r.state ≠ .returning ∧ r.state ≠ .uncertain := by
  simp only [GroupRec.returns, Bool.and_eq_true, Bool.or_eq_true, decide_eq_true_eq] at h
  rcases h.2 with h | h <;> simp [h]

/-- After a pop the groups are settled where they were before and the pop sends none back. -/
theorem settled_popped (e : StackEntry) (rest : List StackEntry) (s : State) :
    Settled (popped e rest s) ↔ sentByPop e s = [] ∧ Settled s := by
  rw [sentByPop, List.filter_eq_nil_iff]
  constructor
  · intro h
    have hnone : ∀ g ∈ e.cover, ¬s.groups[g].returns = true := by
      intro g hg hr
      have hstate := (h g).1
      rw [groups_popped, if_pos hg, if_pos hr] at hstate
      exact hstate rfl
    refine ⟨hnone, fun g => ?_⟩
    have hstate := h g
    rw [groups_popped] at hstate
    by_cases hg : g ∈ e.cover
    · rwa [if_pos hg, if_neg (hnone g hg)] at hstate
    · rwa [if_neg hg] at hstate
  · rintro ⟨hnone, h⟩ g
    rw [groups_popped]
    split
    · rw [if_neg (hnone g ‹_›)]
      exact h g
    · exact h g

theorem closureTest_popped {u : State} (hu : u.groups = (popped e rest s).groups) :
    closureTest u = true ↔ heldGroups (entryLeft e rest s) = 0 ∧ sentByPop e s = [] ∧ Settled s := by
  have hheld : heldGroups u = heldGroups (entryLeft e rest s) :=
    heldGroups_congr (hu.trans (entryLeft_inputs e rest s).groups.symm)
  have hsettled : Settled u ↔ Settled (popped e rest s) := by
    unfold Settled
    rw [hu]
  rw [← settled_popped e rest s, ← hsettled, ← settled_iff, closureTest, hheld]
  simp only [Bool.and_eq_true, decide_eq_true_eq, Bool.not_eq_true', and_assoc]

end Test

/-! ## The close of a position (R80 to R82) -/

/-- The part with its ring record replaced. -/
def withRing (r : RingRec) (s : State) : State := { s with ring := r }

/-- A pop and, for the key's SET, the ring builder's test. -/
def positionClosed (key : Bool) (s : State) : State :=
  if key then ringTest (announceRing .keySet (popEntry s)) else popEntry s

section Close
variable {s : State} {e : StackEntry} {rest : List StackEntry} {r : RingRec}

theorem takeSegmentClose_of_other {q : Nat} {o : CloseOutcome} (hq : q < 7) (h : s.stack.entries = e :: rest)
    (hne : q ≠ e.position.val) : takeSegmentClose (q, o) s = .answer .order [.u8 e.position.val] := by
  simp [takeSegmentClose, Nat.le_of_lt_succ hq, h, hne]

theorem takeSegmentClose_of_unplaced (h : s.stack.entries = e :: rest) (hp : e.state ≠ .placed) :
    takeSegmentClose (e.position.val, .set) s = .answer .state [.u8 0] := by
  simp [takeSegmentClose, Nat.le_of_lt_succ e.position.isLt, h, hp, stateRefusal]

theorem takeSegmentClose_of_set (h : s.stack.entries = e :: rest) (hp : e.state = .placed)
    (hr : r =
      { s.ring with
        setList := s.ring.setList ++ [e.position]
        state := if e.position = 6 then .closing else s.ring.state }) :
    takeSegmentClose (e.position.val, .set) s = .act (positionClosed (decide (e.position = 6)) (withRing r s)) .done
      (closeFields e.position .set (positionClosed (decide (e.position = 6)) (withRing r s)).ring) := by
  have hclose : closeSet e.position s = positionClosed (decide (e.position = 6)) (withRing r s) := by
    unfold closeSet positionClosed withRing
    by_cases hkey : e.position = 6
    · rw [hr]
      simp [hkey]
    · rw [hr]
      simp [hkey]
  simp [takeSegmentClose, Nat.le_of_lt_succ e.position.isLt, h, hp, hclose]

theorem takeSegmentClose_of_notSet (h : s.stack.entries = e :: rest) (hskips : s.ring.skips[e.position] < 2)
    (hr : r =
      { s.ring with
        skips := s.ring.skips.set e.position.val (s.ring.skips[e.position] + 1) e.position.isLt
        queue :=
          if e.position = 6 then s.ring.queue ++ [6]
          else s.ring.queue.takeWhile (· ≠ 6) ++ e.position :: s.ring.queue.dropWhile (· ≠ 6) }) :
    takeSegmentClose (e.position.val, .notSet) s = .act (positionClosed false (withRing r s)) .done
      (closeFields e.position .notSet (positionClosed false (withRing r s)).ring) := by
  have hclose : closeNotSet e.position s = positionClosed false (withRing r s) := by
    unfold closeNotSet positionClosed withRing
    rw [if_pos hskips, hr]
    rfl
  simp [takeSegmentClose, Nat.le_of_lt_succ e.position.isLt, h, hclose]

end Close

section Closed
variable {s : State} {e : StackEntry} {rest : List StackEntry} {key closes : Bool}

theorem stands_positionClosed (key : Bool) (s : State) : Stands s (positionClosed key s) := by
  unfold positionClosed
  split <;> constructor <;> simp

/-- The close leaves but ring, account and store as the pop does. -/
theorem positionClosed_frame (key : Bool) (s : State) :
    (positionClosed key s).groups = (popEntry s).groups ∧ (positionClosed key s).stack = (popEntry s).stack ∧
    (positionClosed key s).cutter = (popEntry s).cutter ∧ (positionClosed key s).modes = (popEntry s).modes ∧
    (positionClosed key s).chamber = (popEntry s).chamber ∧ (positionClosed key s).plan = s.plan ∧
    (positionClosed key s).grout = (popEntry s).grout ∧ (positionClosed key s).links = s.links := by
  unfold positionClosed
  split <;> simp

/-- A pop, told where it is the key's. -/
def popAnnounced (key : Bool) (s : State) : State :=
  if key then announceRing .keySet (popEntry s) else popEntry s

theorem popAnnounced_ring (key : Bool) (s : State) : (popAnnounced key s).ring = s.ring := by
  unfold popAnnounced
  split <;> simp

theorem popAnnounced_frame (key : Bool) (s : State) :
    (popEntry s).stack = (popAnnounced key s).stack ∧ (popEntry s).account = (popAnnounced key s).account ∧
    (popEntry s).store = (popAnnounced key s).store ∧ (popEntry s).chamber = (popAnnounced key s).chamber ∧
    (popEntry s).groups = (popAnnounced key s).groups ∧ (popEntry s).grout = (popAnnounced key s).grout ∧
    (popEntry s).cutter = (popAnnounced key s).cutter ∧ (popEntry s).modes = (popAnnounced key s).modes := by
  unfold popAnnounced
  split <;> simp

/-- The part with its ring closed where it closes. -/
def ringSettled (closes : Bool) (u : State) : State := if closes then closeRing u else u

theorem positionClosed_eq (h : s.stack.entries = e :: rest) (hkey : key = true → s.ring.state = .closing)
    (hcloses : closes = true ↔ key = true ∧ heldGroups (entryLeft e rest s) = 0 ∧ sentByPop e s = [] ∧ Settled s) :
    positionClosed key s = ringSettled closes (popAnnounced key s) := by
  unfold positionClosed ringSettled popAnnounced
  cases key with
  | false => simp [show closes = false from Bool.eq_false_iff.mpr fun h => by simpa using (hcloses.mp h).1]
  | true =>
    have hring : (announceRing .keySet (popEntry s)).ring.state = .closing := by simp [hkey]
    have hgroups : (announceRing .keySet (popEntry s)).groups = (popped e rest s).groups := by
      rw [(announceRing_frame _ _).2.2.2.2.2.2.1]
      exact popEntry_groups h
    have htest := closureTest_popped hgroups
    simp only [if_true]
    by_cases hc : closes = true
    · rw [if_pos hc, ringTest_of_closes hring (htest.mpr (hcloses.mp hc).2)]
    · rw [if_neg hc, ringTest_of_waits (fun hr => hc (hcloses.mpr ⟨rfl, htest.mp hr.2⟩)) fun hr => ?_]
      rw [hring] at hr
      exact RingState.noConfusion hr.1

/-- What the closing of the ring makes of ring, store and account (R34, R85, R86). -/
theorem positionClosed_records (h : s.stack.entries = e :: rest) (hkey : key = true → s.ring.state = .closing)
    (hcloses : closes = true ↔ key = true ∧ heldGroups (entryLeft e rest s) = 0 ∧ sentByPop e s = [] ∧ Settled s) :
    (positionClosed key s).ring = (if closes then RingRec.initial (s.ring.number + 1) else s.ring) ∧
    (positionClosed key s).store =
      { (popEntry s).store with
        lastClosed := if closes then s.ring.number else (popEntry s).store.lastClosed } ∧
    (positionClosed key s).account =
      { (popEntry s).account with
        cycles :=
          if closes then
            pushCapped 8 (popEntry s).account.cycles { ring := s.ring.number, cycle := (popEntry s).account.cycle }
          else (popEntry s).account.cycles
        cycle := if closes then Cycle.start else (popEntry s).account.cycle } := by
  rw [positionClosed_eq h hkey hcloses, ringSettled, popAnnounced]
  cases closes <;> cases key <;> simp [closeRing, RingRec.cleared]

/-- What a close tells of the key. -/
def keyNotices (key : Bool) (s : State) : List Sent :=
  if key then [noticeOn .erector (.ringState s.ring.number s.ring.state .keySet s.ring.queue s.ring.setList)] else []

theorem keyNotices_place (key : Bool) (s : State) : ∀ x ∈ keyNotices key s, x.message.place = 0 := by
  intro x hx
  unfold keyNotices at hx
  split at hx <;> simp_all [noticeOn, Message.place]

theorem popAnnounced_acts (key : Bool) (s : State) :
    BlocksAct (keyNotices key s) [] (popEntry s) (popAnnounced key s) := by
  cases key with
  | false => exact .refl _ _
  | true =>
    have hring : (popEntry s).ring = s.ring := by simp
    have hannounced : popAnnounced true s = announceRing .keySet (popEntry s) := rfl
    rw [hannounced, announceRing, hring]
    exact { alters := {}, sent := rfl }

/-- A close at which no selection becomes active, up to the ring builder's test. -/
theorem popAnnounced_run {grants : Bool} {r : RingRec} {u : State} (hu : u = withRing r s)
    (h : u.stack.entries = e :: rest)
    (hgrants : grants = true ↔ ClaimWaits u.modes ∧ mayStandTogether (entryLeft e rest u) = true ∧
      heldGroups (entryLeft e rest u) ≠ heldGroups u)
    (hwait : ∀ n, u.store.pendingProfile = some n → heldGroups (entryLeft e rest u) < heldGroups u →
      stands u.modes.mode = true → u.store.profiles[n].releaseBuild < heldGroups (entryLeft e rest u)) :
    ∃ v, BlocksRun [permitsOf v] (popOrder e u ++ keyNotices key u)
        ([.groups, .stack, .ring] ++ if grants then [.modes] else []) s (popAnnounced key u) ∧
      SameInputs v (popAnnounced key u) ∧ v.stack = { u.stack with entries := rest } ∧
      v.modes =
        if grants then
          { u.modes with
            advance := .held, build := .held, mode := .continuous, haltOutput := false, cause := .grant }
        else u.modes := by
  obtain ⟨v, hpop, hrun, hstack, hmodes⟩ := popEntry_waits h hgrants hwait
  have hring : BlocksAct [] [.ring] s u := by
    rw [hu]
    unfold withRing
    exact { alters := {} }
  have hrefreshed := ((hring.mono (l' := [.groups, .stack, .ring] ++ if grants then [.modes] else []) (by simp)).trans_run
    (hrun.mono (by cases grants <;> simp))).refreshed
  rw [← hpop] at hrefreshed
  have hsame : SameInputs (popEntry u) (popAnnounced key u) := by
    unfold popAnnounced
    split
    · exact sameInputs_tell _ _ _
    · exact .refl _
  have hin : SameInputs v (popEntry u) := by
    rw [hpop]
    exact sameInputs_refresh v
  refine ⟨v, hrefreshed.trans_act ((popAnnounced_acts key u).mono (by simp)) (keyNotices_place key u) hsame.evalEntry ?_,
    hin.trans hsame, hstack, hmodes⟩
  intro hheld
  cases key with
  | false => exact hheld
  | true =>
    have hannounced : popAnnounced true u = announceRing .keySet (popEntry u) := rfl
    rw [hannounced]
    exact hheld.step (by simp) (by simp) (by simp)
      (speedCeiling_congr (by simp) (by simp) (by simp) (by simp) (by simp) (by simp) (someOvertime_of_stack (by simp)))

end Closed

/-- A switch where the machine stands computes the torque ceiling again (R11, R140). -/
theorem makeSwitch_torqueCeiling (n : Fin 4) {s : State} (h : advancing s.modes.mode = false) :
    (makeSwitch n s).cutter.torqueCeiling = torqueCeilingOf (makeSwitch n s) := by
  have hend := carries_finish s [] (makeSwitch n s)
  have htorque := hend.switch_torqueCeiling h
  rwa [hend.cutter, hend.torqueCeilingOf] at htorque

/-! ## SEGMENT CLOSE (R80) -/

/-- A SEGMENT CLOSE that is taken, from the part `u` in which the ring record has taken the outcome: the key's SET, the
closing of the ring and the grant of a claim that the pop brings (R80, R82, R85, R167). -/
structure CloseTaken (e : StackEntry) (rest : List StackEntry) (o : CloseOutcome) (ring : RingRec)
    (key closes grants : Bool) (s u : State) : Prop where
  source  : u = withRing ring (taken .erector s)
  entries : u.stack.entries = e :: rest
  keySet  : key = true ↔ e.position = 6 ∧ o = .set
  closing : key = true → u.ring.state = .closing
  number  : u.ring.number = s.ring.number
  act     : takeSegmentClose (e.position.val, o) (taken .erector s) =
    .act (positionClosed key u) .done (closeFields e.position o (positionClosed key u).ring)
  closes  : closes = true ↔ key = true ∧ heldGroups (entryLeft e rest u) = 0 ∧ sentByPop e u = [] ∧ Settled u
  grants  : grants = true ↔ ClaimWaits u.modes ∧ mayStandTogether (entryLeft e rest u) = true ∧
    heldGroups (entryLeft e rest u) ≠ heldGroups u

section Close
variable {e : StackEntry} {rest : List StackEntry} {o : CloseOutcome} {ring : RingRec} {key closes grants : Bool}
  {s u t : State}

/-- What a taken SEGMENT CLOSE leaves of the store's and the stack's own records. -/
theorem CloseTaken.source_frame (h : CloseTaken e rest o ring key closes grants s u) :
    u.now = s.now ∧ u.store = s.store ∧ u.account = s.account ∧ u.groups = s.groups ∧ u.stack = s.stack ∧
    u.plan = s.plan ∧ u.chamber = s.chamber ∧ u.modes = s.modes ∧ u.ring = ring := by
  rw [h.source]
  and_intros <;> rfl

theorem CloseTaken.stands (h : CloseTaken e rest o ring key closes grants s u) :
    Stands (taken .erector s) (positionClosed key u) := by
  obtain ⟨hpowered, hnow, hpending, hchoices⟩ := stands_positionClosed key u
  rw [h.source] at hpowered hnow hpending hchoices ⊢
  exact ⟨hpowered, hnow, hpending, hchoices⟩

/-- Where the fall of the held groups makes a selection active (R10). -/
theorem CloseTaken.switched (h : CloseTaken e rest o ring key closes grants s u) (hcarries : Carries (positionClosed key u) t)
    {n : Fin 4} (hpend : s.store.pendingProfile = some n) (hfall : heldGroups (entryLeft e rest u) < heldGroups u)
    (hstand : Machine.stands s.modes.mode = true)
    (hle : heldGroups (entryLeft e rest u) ≤ s.store.profiles[n].releaseBuild) :
    t.store =
      { s.store with
        active := n, pendingProfile := none
        lastClosed := if closes then s.ring.number else s.store.lastClosed } ∧
    t.stack =
      { s.stack with
        entries := rest.map (markOvertime s.store.profiles[n].releaseTime s.now) } ∧
    t.cutter.torqueCeiling = torqueCeilingOf t := by
  obtain ⟨hnowU, hstoreU, -, -, hstackU, -, -, hmodesU, -⟩ := h.source_frame
  obtain ⟨-, hstack, hcutter, -⟩ := positionClosed_frame key u
  obtain ⟨-, hstoreClosed, -⟩ := positionClosed_records h.entries h.closing h.closes
  have hleft := entryLeft_inputs e rest u
  have hpop : popEntry u = refresh (makeSwitch n (entryLeft e rest u)) :=
    popEntry_of_switch h.entries (by rw [hstoreU]; exact hpend) hfall (by rw [hmodesU]; exact hstand)
      (by rw [hstoreU]; exact hle)
  have hswitched := sameInputs_refresh (makeSwitch n (entryLeft e rest u))
  have hstoreLeft : (entryLeft e rest u).store = s.store := hleft.store.trans hstoreU
  have hstackLeft : (entryLeft e rest u).stack = { s.stack with entries := rest } :=
    hleft.stack.trans (by rw [← hstackU]; rfl)
  have hnow : (entryLeft e rest u).now = s.now := hleft.queue.now.trans hnowU
  have hstoreT : t.store = { (makeSwitch n (entryLeft e rest u)).store with
      lastClosed := if closes then u.ring.number else (makeSwitch n (entryLeft e rest u)).store.lastClosed } := by
    rw [hcarries.store, hstoreClosed, hpop, hswitched.store]
  refine ⟨?_, ?_, ?_⟩
  · rw [hstoreT, makeSwitch_store, hstoreLeft, h.number]
  · rw [hcarries.stack, hstack, hpop, hswitched.stack, makeSwitch_stack, hstackLeft, hstoreLeft, hnow]
  · have hcut : t.cutter = (makeSwitch n (entryLeft e rest u)).cutter := by
      rw [hcarries.cutter, hcutter, hpop, hswitched.cutter]
    have hstill : advancing (entryLeft e rest u).modes.mode = false := by
      rw [hleft.modes]
      exact not_advancing_of_stands (by rw [← hmodesU] at hstand; exact hstand)
    rw [hcut, makeSwitch_torqueCeiling n hstill]
    refine (torqueCeilingOf_congr ?_ ?_ (by rw [hcut])).symm
    · simp only [activeProfile, hstoreT]
    · simp only [constantsOf, hstoreT]

/-- Where no selection becomes active the pop is told as a run of the blocks that it changes. -/
theorem CloseTaken.popped_run (h : CloseTaken e rest o ring key closes grants s u)
    (hwait : ∀ n, s.store.pendingProfile = some n → heldGroups (entryLeft e rest u) < heldGroups u →
      Machine.stands s.modes.mode = true → s.store.profiles[n].releaseBuild < heldGroups (entryLeft e rest u)) :
    ∃ v, BlocksRun [permitsOf v] (popOrder e u ++ keyNotices key u)
        ([.groups, .stack, .ring] ++ if grants then [.modes] else []) (taken .erector s) (popAnnounced key u) ∧
      SameInputs v (popAnnounced key u) ∧ v.stack = { u.stack with entries := rest } := by
  obtain ⟨-, hstoreU, -, -, -, -, -, hmodesU, -⟩ := h.source_frame
  obtain ⟨v, hrun, hin, hvstack, -⟩ := popAnnounced_run (s := taken .erector s) (key := key) h.source h.entries h.grants
    fun n hn hfall hm => by
      rw [hstoreU] at hn ⊢
      rw [hmodesU] at hm
      exact hwait n hn hfall hm
  exact ⟨v, hrun, hin, hvstack⟩

/-- What a taken SEGMENT CLOSE tells before a closing ring does. -/
def closeTold (e : StackEntry) (o : CloseOutcome) (ring : RingRec) (listed : List (Fin 16)) (s : State) : List Sent :=
  (if listed = [] then []
    else [noticeOn .drive
      (.extendOrder (listed.map fun g => (g, (s.groups[g].transition + 1) % 256)) (some e.position))]) ++
  if e.position = 6 ∧ o = .set then
    [noticeOn .erector (.ringState ring.number ring.state .keySet ring.queue ring.setList)] else []

theorem CloseTaken.told (h : CloseTaken e rest o ring key closes grants s u) {listed : List (Fin 16)}
    (hlisted : listed = sentByPop e u) : closeTold e o ring listed s = popOrder e u ++ keyNotices key u := by
  obtain ⟨-, -, -, hgroupsU, -, -, -, -, hringU⟩ := h.source_frame
  simp only [closeTold, hlisted, popOrder, keyNotices, h.keySet, hringU, hgroupsU]

theorem popNotices_place (key : Bool) (e : StackEntry) (u : State) :
    ∀ x ∈ popOrder e u ++ keyNotices key u, x.message.place = 0 := fun x hx =>
  (List.mem_append.mp hx).elim (popOrder_place e u x) (keyNotices_place key u x)

section Waits
variable {v : State}

/-- The records after a close at which no selection becomes active. -/
theorem CloseTaken.kept (h : CloseTaken e rest o ring key closes grants s u) (hcarries : Carries (positionClosed key u) t)
    (hrun : BlocksRun [permitsOf v] (popOrder e u ++ keyNotices key u)
      ([.groups, .stack, .ring] ++ if grants then [.modes] else []) (taken .erector s) (popAnnounced key u))
    (hin : SameInputs v (popAnnounced key u)) (hv : v.stack = { u.stack with entries := rest }) :
    t.stack = { s.stack with entries := rest } ∧
    t.account =
      { s.account with
        cycles :=
          if closes then pushCapped 8 s.account.cycles { ring := s.ring.number, cycle := s.account.cycle }
          else s.account.cycles
        cycle := if closes then Cycle.start else s.account.cycle } ∧
    t.store = { s.store with lastClosed := if closes then s.ring.number else s.store.lastClosed } ∧
    (t.chamber = s.chamber ∨ t.chamber = heldDown s s) := by
  obtain ⟨-, -, -, -, hstackU, -⟩ := h.source_frame
  obtain ⟨-, hstack, -, -, hchamber, -⟩ := positionClosed_frame key u
  obtain ⟨-, hstoreClosed, haccountClosed⟩ := positionClosed_records h.entries h.closing h.closes
  obtain ⟨hpopStack, hpopAccount, hpopStore, hpopChamber, -⟩ := popAnnounced_frame key u
  have haccount : (popAnnounced key u).account = s.account := hrun.alters.account (by cases grants <;> simp)
  have hstore : (popAnnounced key u).store = s.store := hrun.alters.store (by cases grants <;> simp)
  have hstoreT : t.store = { s.store with lastClosed := if closes then s.ring.number else s.store.lastClosed } := by
    rw [hcarries.store, hstoreClosed, hpopStore, hstore, h.number]
  refine ⟨?_, ?_, hstoreT, ?_⟩
  · rw [hcarries.stack, hstack, hpopStack, hin.stack, hv, hstackU]
  · rw [hcarries.account, haccountClosed, hpopAccount, haccount, h.number]
  · have hprofile : activeProfile t = activeProfile s := by simp only [activeProfile, hstoreT]
    refine heldDown_settles (t := positionClosed key u) ?_ hprofile hcarries.chamber
    rw [hchamber, hpopChamber]
    refine (hrun.chamber (by cases grants <;> simp)).imp id fun ⟨_, _, hdown⟩ => ?_
    rw [hdown, heldDown, heldDown, activeProfile_of_store hstore]
    rfl

/-- The one recomputation of such a close is that of the permits that the end of the event gives, but for the account that
a closing ring changes. -/
theorem CloseTaken.permits (h : CloseTaken e rest o ring key closes grants s u)
    (hcarries : Carries (positionClosed key u) t) (hlinks : t.links = (positionClosed key u).links)
    (hrun : BlocksRun [permitsOf v] (popOrder e u ++ keyNotices key u)
      ([.groups, .stack, .ring] ++ if grants then [.modes] else []) (taken .erector s) (popAnnounced key u))
    (hin : SameInputs v (popAnnounced key u)) (hv : v.stack = { u.stack with entries := rest }) :
    permitsOf { t with account := s.account } = permitsOf v := by
  obtain ⟨-, -, hstoreT, -⟩ := h.kept hcarries hrun hin hv
  obtain ⟨hgroups, hstack, hcutter, hmodes, hchamber, -, hgrout, hlinksP⟩ := positionClosed_frame key u
  obtain ⟨hpopStack, -, -, hpopChamber, hpopGroups, hpopGrout, hpopCutter, hpopModes⟩ := popAnnounced_frame key u
  have haccount : (popAnnounced key u).account = s.account := hrun.alters.account (by cases grants <;> simp)
  have hstore : (popAnnounced key u).store = s.store := hrun.alters.store (by cases grants <;> simp)
  have hprofile : activeProfile t = activeProfile s := by simp only [activeProfile, hstoreT]
  obtain ⟨permits, conds, setpoint, sent, orders, hv⟩ := hin
  have hlink : t.links = v.links := by
    rw [hlinks, hlinksP, h.source]
    exact hrun.links.symm.trans (by rw [hv])
  have hsensed : t.chamber.status = (positionClosed key u).chamber.status ∧
      t.chamber.spoilCounter = (positionClosed key u).chamber.spoilCounter := by
    rw [hcarries.chamber]
    split <;> exact ⟨rfl, rfl⟩
  rw [hchamber, hpopChamber, hv] at hsensed
  rw [hv] at haccount hstore hpopGroups hpopStack hpopGrout hpopCutter hpopModes
  refine permitsOf_congr ?_ ?_ haccount.symm (hcarries.groups.trans (hgroups.trans hpopGroups))
    (hcarries.stack.trans (hstack.trans hpopStack)) (hcarries.grout.trans (hgrout.trans hpopGrout)) hsensed.1 hsensed.2
    (hcarries.cutter.trans (hcutter.trans hpopCutter)) (hcarries.modes.trans (hmodes.trans hpopModes)) hlink
  · exact (congrArg Store.constants hstoreT).trans (congrArg Store.constants hstore).symm
  · exact hprofile.trans (activeProfile_of_store hstore).symm

/-- The frames of such a close: those of the pop, then those of a ring that closes. -/
theorem CloseTaken.served {f : Frame} (h : CloseTaken e rest o ring key closes grants s u)
    (hasks : Asks s .erector 19 readSegmentClose f (e.position.val, o)) (hcomm : commissioned s = true)
    (ht : exec (.segmentClose .erector) s = .next t)
    (hrun : BlocksRun [permitsOf v] (popOrder e u ++ keyNotices key u)
      ([.groups, .stack, .ring] ++ if grants then [.modes] else []) (taken .erector s) (popAnnounced key u)) :
    (closes = false → CondsFollow s t) ∧
    ServedBy [permitsOf v] .erector f .done (closeFields e.position o t.ring)
      (popOrder e u ++ keyNotices key u ++
        if closes then [noticeOn .erector (.ringState (s.ring.number + 1) .idle .closed [] [])] else [])
      ([.groups, .stack, .ring] ++ (if closes then [.account, .store, .chamber] else []) ++
        (if grants then [.modes] else [])) s t := by
  have hclosed := positionClosed_eq h.entries h.closing h.closes
  have htake := h.act
  have hplace := popNotices_place key e u
  cases closes with
  | false =>
    have hopen : positionClosed key u = popAnnounced key u := hclosed
    rw [hopen] at htake
    obtain ⟨t', ht', hserved, hconds, hcarries⟩ :=
      exec_runs (exec_segmentClose .erector s) hasks rfl (.inl hcomm) htake hrun hplace
    obtain rfl := Host.Outcome.next.inj (ht.symm.trans ht')
    rw [← hcarries.ring] at hserved
    exact ⟨fun _ => hconds, by simpa using hserved⟩
  | true =>
    have hclosing : positionClosed key u = closeRing (popAnnounced key u) := hclosed
    have hringPop : (popAnnounced key u).ring.number = s.ring.number := by rw [← h.number, popAnnounced_ring]
    have hacts := closeRing_acts (popAnnounced key u)
    rw [← hclosing, hringPop] at hacts
    have htell := (hrun.toBlocksTell.mono
      (l' := [.groups, .stack, .ring] ++ [.account, .store, .chamber] ++ if grants then [.modes] else [])
      (by cases grants <;> simp)).trans_act (hacts.mono (by cases grants <;> simp))
        (by simp [noticeOn, Message.place]) fun hc => absurd (by simp) hc
    obtain ⟨t', ht', hserved, hcarries⟩ := exec_tells (exec_segmentClose .erector s) hasks rfl (.inl hcomm) htake htell (by
      intro x hx
      rcases List.mem_append.mp hx with hx | hx
      · exact hplace x hx
      · obtain rfl := List.mem_singleton.mp hx
        rfl)
    obtain rfl := Host.Outcome.next.inj (ht.symm.trans ht')
    rw [← hcarries.ring] at hserved
    exact ⟨nofun, hserved⟩

end Waits

/-- Ring record and groups after a taken SEGMENT CLOSE (R53, R80, R85). -/
theorem CloseTaken.ring_groups (h : CloseTaken e rest o ring key closes grants s u)
    (hcarries : Carries (positionClosed key u) t) {listed : List (Fin 16)} (hlisted : listed = sentByPop e u) :
    t.ring = (if closes then RingRec.initial (s.ring.number + 1) else ring) ∧
    ∀ g : Fin 16, t.groups[g] =
      if g ∈ e.cover then
        if g ∈ listed then
          { s.groups[g] with
            state := .returning, stateTime := s.now, slow := false, holdCount := s.groups[g].holdCount - 1
            transition := (s.groups[g].transition + 1) % 256 }
        else { s.groups[g] with holdCount := s.groups[g].holdCount - 1 }
      else s.groups[g] := by
  obtain ⟨hnowU, -, -, hgroupsU, -, -, -, -, hringU⟩ := h.source_frame
  obtain ⟨hgroups, -⟩ := positionClosed_frame key u
  obtain ⟨hringClosed, -⟩ := positionClosed_records h.entries h.closing h.closes
  refine ⟨?_, fun g => ?_⟩
  · rw [hcarries.ring, hringClosed, h.number, hringU]
  · rw [hcarries.groups, hgroups, popEntry_groups h.entries, groups_popped, hlisted, hgroupsU, hnowU]
    have hmem : g ∈ e.cover → (g ∈ sentByPop e u ↔ s.groups[g].returns = true) := fun hg => by
      simp [sentByPop, hg, hgroupsU]
    by_cases hg : g ∈ e.cover
    · rw [if_pos hg, if_pos hg]
      simp only [hmem hg]
    · rw [if_neg hg, if_neg hg]

/-- A SEGMENT CLOSE of the top entry that passes the checks of R80. -/
theorem exists_closeTaken {listed : List (Fin 16)} {after : Nat} (hs : s.stack.entries = e :: rest)
    (hlisted : listed = sentByPop e s) (hafter : after = heldGroups (entryLeft e rest s))
    (hset : o = .set → e.state = .placed ∧ ring =
      { s.ring with
        setList := s.ring.setList ++ [e.position]
        state := if e.position = 6 then .closing else s.ring.state })
    (hnot : o = .notSet → s.ring.skips[e.position] < 2 ∧ ring =
      { s.ring with
        skips := s.ring.skips.set e.position.val (s.ring.skips[e.position] + 1) e.position.isLt
        queue :=
          if e.position = 6 then s.ring.queue ++ [6]
          else s.ring.queue.takeWhile (· ≠ 6) ++ e.position :: s.ring.queue.dropWhile (· ≠ 6) })
    (hcloses : closes = true ↔ e.position = 6 ∧ o = .set ∧ after = 0 ∧ listed = [] ∧ Settled s)
    (hgrants : grants = decide ((s.modes.mode = .advance ∨ s.modes.mode = .build) ∧ after ≠ heldGroups s ∧
      (activeProfile s).continuousAllowed = true ∧ after ≤ (activeProfile s).releaseContinuous ∧
      (s.modes.advance = .pending ∧ s.modes.build = .held ∨ s.modes.build = .pending ∧ s.modes.advance = .held))) :
    ∃ key u, CloseTaken e rest o ring key closes grants s u ∧ listed = sentByPop e u ∧
      after = heldGroups (entryLeft e rest u) := by
  obtain ⟨u, hu⟩ : ∃ u, u = withRing ring (taken .erector s) := ⟨_, rfl⟩
  obtain ⟨key, hkey, hclosing, hnumber, htake⟩ : ∃ key : Bool, (key = true ↔ e.position = 6 ∧ o = .set) ∧
      (key = true → ring.state = .closing) ∧ ring.number = s.ring.number ∧
      takeSegmentClose (e.position.val, o) (taken .erector s) =
        .act (positionClosed key u) .done (closeFields e.position o (positionClosed key u).ring) := by
    rw [hu]
    cases o with
    | set =>
      obtain ⟨hplaced, hring⟩ := hset rfl
      refine ⟨decide (e.position = 6), by simp, fun hk => ?_, by rw [hring],
        takeSegmentClose_of_set (s := taken .erector s) hs hplaced hring⟩
      rw [hring]
      exact if_pos (of_decide_eq_true hk)
    | notSet =>
      obtain ⟨hskips, hring⟩ := hnot rfl
      exact ⟨false, by simp, nofun, by rw [hring],
        takeSegmentClose_of_notSet (s := taken .erector s) hs hskips hring⟩
  have hsent : listed = sentByPop e u := by rw [hlisted, hu]; rfl
  have hheld : after = heldGroups (entryLeft e rest u) := by
    rw [heldGroups_entryLeft, hafter, heldGroups_entryLeft, hu]
    rfl
  refine ⟨key, u, ⟨hu, by rw [hu]; exact hs, hkey, fun hk => by rw [hu]; exact hclosing hk, by rw [hu]; exact hnumber,
    htake, ?_, ?_⟩, hsent, hheld⟩
  · rw [hcloses, hkey, ← hheld, ← hsent, hu, and_assoc]
    rfl
  · rw [hgrants, decide_eq_true_iff, mayStandTogether_entryLeft, ← hheld, ClaimWaits, hu]
    exact ⟨fun ⟨hm, hne, hallowed, hle, hw⟩ => ⟨⟨hm, hw⟩, ⟨hallowed, hle⟩, hne⟩,
      fun ⟨⟨hm, hw⟩, ⟨hallowed, hle⟩, hne⟩ => ⟨hm, hne, hallowed, hle, hw⟩⟩

end Close

/-- Settles O35: the checks, then the pop, the test of the key's ring and what the fall of the held groups brings. -/
theorem segmentClosePops : Obligations.SegmentClosePops := by
  refine ⟨fun s f e rest q o hasks hcomm hq hs => ⟨fun hne => ?_, fun heq ho hp => ?_⟩, ?_⟩
  · exact exec_answers (exec_segmentClose .erector s) hasks rfl (.inl hcomm)
      (takeSegmentClose_of_other (s := taken .erector s) hq hs hne)
  · subst heq ho
    exact exec_answers (exec_segmentClose .erector s) hasks rfl (.inl hcomm)
      (takeSegmentClose_of_unplaced (s := taken .erector s) hs hp)
  intro s f e rest o ring listed after closes grants falls hasks hcomm hs hlisted hafter hring hcloses hgrants hfalls
  obtain ⟨key, u, h, hsent, hheld⟩ := exists_closeTaken (o := o) (ring := ring) (closes := closes) hs hlisted
    (hafter.trans (heldGroups_entryLeft e rest s).symm) (fun ho => by subst ho; exact hring) (fun ho => by subst ho; exact hring)
    (by rw [hcloses, decide_eq_true_iff]; rfl) hgrants
  obtain ⟨-, -, -, hgroupsU, -, hplanU, -, hmodesU, -⟩ := h.source_frame
  have hheldU : heldGroups u = heldGroups s := heldGroups_congr hgroupsU
  obtain ⟨-, -, -, hmodes, -, hplan, -, -⟩ := positionClosed_frame key u
  obtain ⟨t, ht, hstands, hhead, hcarries, hlinks, -⟩ :=
    exec_works (exec_segmentClose .erector s) hasks rfl (.inl hcomm) h.act h.stands
  rw [← hcarries.ring] at hhead
  obtain ⟨hringT, hgroupsT⟩ := h.ring_groups hcarries hsent
  refine ⟨t, _, ht, hstands, ?_, hhead, hringT, hgroupsT, ?_, ?_, fun n hpend hf hle => ?_, fun hwait => ?_⟩
  · cases o <;> rfl
  · rw [hcarries.modes, hmodes, popEntry_modes h.entries h.grants, hmodesU]
  · rw [hcarries.plan, hplan, hplanU]
  · rw [hfalls, decide_eq_true_iff] at hf
    exact h.switched hcarries hpend (by rw [← hheld, hheldU]; exact hf.1) hf.2 (hheld ▸ hle)
  · obtain ⟨v, hrun, hin, hv⟩ := h.popped_run fun n hn hfall hm => by
      rw [← hheld] at hfall ⊢
      exact hwait n hn (by rw [hfalls, decide_eq_true_iff, ← hheldU]; exact ⟨hfall, hm⟩)
    obtain ⟨hstackT, haccountT, hstoreT, hchamberT⟩ := h.kept hcarries hrun hin hv
    obtain ⟨hconds, hserved⟩ := h.served hasks hcomm ht hrun
    rw [← h.permits hcarries hlinks hrun hin hv, ← h.told hsent] at hserved
    exact ⟨hstackT, haccountT, fun hc => ⟨by rw [hstoreT, if_pos hc], hchamberT⟩, hconds, hserved⟩

end Sys2Proof.Machine

/-! A build given up (R83, R87, R88): every entry popped, one after another. -/

namespace Sys2Proof.Machine

set_option Elab.async false

/-! ## Groups while the entries are popped -/

/-- How many entries of the release stack hold a group. -/
def holds (s : State) (g : Fin 16) : Nat := s.stack.entries.countP fun e => e.cover.contains g

/-- A group of which `n` entries are left: at the last one it returns where it was away for the build (R53). -/
def GroupRec.afterPops (now n : Nat) (r : GroupRec) : GroupRec :=
  if n = 0 ∧ 0 < r.holdCount ∧ (r.state = .retracting ∨ r.state = .released) then
    { r with
      state := .returning, stateTime := now, slow := false, holdCount := 0, transition := (r.transition + 1) % 256 }
  else { r with holdCount := n }

/-- The part `u` is `s` with some of its entries popped. -/
structure Popping (s u : State) : Prop where
  now    : u.now = s.now
  groups : ∀ g : Fin 16, u.groups[g] = s.groups[g].afterPops s.now (holds u g)
  counts : ∀ g : Fin 16, holds u g ≤ s.groups[g].holdCount

section Groups
variable {s u : State} {e : StackEntry} {rest : List StackEntry}

theorem holds_of_keys (h : stackKeys u = stackKeys s) (g : Fin 16) : holds u g = holds s g := by
  rw [holds, holds, countP_cover_eq, countP_cover_eq, h]

theorem holds_cons (h : s.stack.entries = e :: rest) (g : Fin 16) :
    holds s g = holds (popped e rest s) g + if g ∈ e.cover then 1 else 0 := by
  have hrest : (popped e rest s).stack.entries = rest := rfl
  rw [holds, holds, h, hrest, List.countP_cons]
  simp

theorem Popping.refl (h : HoldCountsMatch s) : Popping s s where
  now := rfl
  groups g := by
    have hg : s.groups[g].holdCount = holds s g := h g
    have hnot : ¬(holds s g = 0 ∧ 0 < s.groups[g].holdCount ∧
        (s.groups[g].state = .retracting ∨ s.groups[g].state = .released)) := by omega
    rw [GroupRec.afterPops, if_neg hnot, ← hg]
  counts g := (h g).ge

theorem Popping.holdCount (h : Popping s u) (g : Fin 16) : u.groups[g].holdCount = holds u g := by
  rw [h.groups, GroupRec.afterPops]
  split
  · rename_i hc
    exact hc.1.symm
  · rfl

theorem Popping.holdCountsMatch (h : Popping s u) : HoldCountsMatch u := h.holdCount

/-- A group that an entry holds is still what it was. -/
theorem Popping.held (h : Popping s u) {g : Fin 16} (hg : holds u g ≠ 0) :
    u.groups[g] = { s.groups[g] with holdCount := holds u g } := by
  rw [h.groups, GroupRec.afterPops, if_neg fun hc => hg hc.1]

theorem Popping.withRing (h : Popping s u) (r : RingRec) : Popping s (withRing r u) := ⟨h.now, h.groups, h.counts⟩

/-- One entry fewer holds a group. -/
theorem afterPops_step (now n : Nat) (r : GroupRec) (hr : 0 < r.holdCount) :
    (if ({ r with holdCount := n + 1 } : GroupRec).returns then
      { r with state := .returning, stateTime := now, slow := false, holdCount := n + 1 - 1
               transition := (r.transition + 1) % 256 }
    else { r with holdCount := n + 1 - 1 }) = r.afterPops now n := by
  have hreturns : ({ r with holdCount := n + 1 } : GroupRec).returns = true ↔
      n = 0 ∧ 0 < r.holdCount ∧ (r.state = .retracting ∨ r.state = .released) := by
    simp [GroupRec.returns, hr]
  simp only [hreturns, GroupRec.afterPops, Nat.add_sub_cancel]
  by_cases hn : n = 0
  · simp [hn]
  · simp [hn]

theorem Popping.pop (h : Popping s u) (hu : u.stack.entries = e :: rest) : Popping s (popEntry u) := by
  have hkeys := (popEntry_aside hu).keys
  have hholds : ∀ g, holds (popEntry u) g = holds (popped e rest u) g := holds_of_keys hkeys
  refine ⟨by simp [h.now], fun g => ?_, fun g => ?_⟩
  · have hcons := holds_cons hu g
    have hcount := h.counts g
    rw [popEntry_groups hu, groups_popped, hholds]
    by_cases hg : g ∈ e.cover
    · rw [if_pos hg] at hcons ⊢
      rw [h.held (g := g) (by omega), hcons, h.now]
      exact afterPops_step _ _ _ (by omega)
    · rw [if_neg hg, Nat.add_zero] at hcons
      rw [if_neg hg, h.groups, hcons]
  · rw [hholds]
    have hcons := holds_cons hu g
    have hcount := h.counts g
    omega

theorem Popping.heldGroups_le (h : Popping s u) : heldGroups u ≤ heldGroups s :=
  heldGroups_le_of fun g hg => by
    rw [h.holdCount] at hg
    exact hg.trans_le (h.counts g)

end Groups

/-! ## Claims and selection while the entries are popped (R10, R167) -/

/-- A PENDING claim is granted once no group is held. -/
def ClaimDue (s : State) : Prop := ClaimWaits s.modes ∧ (activeProfile s).continuousAllowed = true

/-- The mode unit after the grant of a PENDING claim. -/
def ModeUnit.granted (m : ModeUnit) : ModeUnit :=
  { m with advance := .held, build := .held, mode := .continuous, haltOutput := false, cause := .grant }

/-- Claims and mode with some entries popped: unchanged, with groups still held where a claim is due, or granted. -/
def ModesPopped (s u : State) : Prop :=
  (u.modes = s.modes ∧ (ClaimDue s → heldGroups u = heldGroups s ∨ 0 < heldGroups u)) ∨
    (ClaimDue s ∧ heldGroups s ≠ 0 ∧ u.modes = s.modes.granted)

/-- The store with some entries popped: unchanged, with groups still held where a selection is due, or switched. -/
def StorePopped (s u : State) : Prop :=
  (u.store = s.store ∧ (∀ n, s.store.pendingProfile = some n → stands s.modes.mode = true →
      heldGroups u = heldGroups s ∨ 0 < heldGroups u)) ∨
    ∃ n, s.store.pendingProfile = some n ∧ stands s.modes.mode = true ∧ heldGroups s ≠ 0 ∧
      u.store = { s.store with active := n, pendingProfile := none }

section Handed
variable {s u : State} {e : StackEntry} {rest : List StackEntry}

theorem heldGroups_popEntry (hu : u.stack.entries = e :: rest) :
    heldGroups (popEntry u) = heldGroups (entryLeft e rest u) :=
  heldGroups_congr ((popEntry_groups hu).trans (entryLeft_inputs e rest u).groups.symm)

theorem heldGroups_entryLeft_le (e : StackEntry) (rest : List StackEntry) (u : State) :
    heldGroups (entryLeft e rest u) ≤ heldGroups u := by
  rw [heldGroups_congr (entryLeft_inputs e rest u).groups]
  exact heldGroups_popped e rest u

theorem not_claimWaits_of_stands (h : stands s.modes.mode = true) : ¬ClaimWaits s.modes := fun hw => by
  rcases hw.1 with hm | hm <;> simp [hm, stands] at h

theorem not_claimWaits_granted (m : ModeUnit) : ¬ClaimWaits m.granted := fun h => by
  rcases h.1 with hm | hm <;> exact Mode.noConfusion hm

theorem ModesPopped.stands_eq (h : ModesPopped s u) : stands u.modes.mode = stands s.modes.mode := by
  obtain ⟨h, -⟩ | ⟨hdue, -, h⟩ := h
  · rw [h]
  · rw [h, Bool.eq_false_iff.mpr fun hs => not_claimWaits_of_stands hs hdue.1]
    rfl

/-- Whether a pop grants a PENDING claim. -/
theorem exists_grants (e : StackEntry) (rest : List StackEntry) (u : State) : ∃ grants : Bool, grants = true ↔
    ClaimWaits u.modes ∧ mayStandTogether (entryLeft e rest u) = true ∧
      heldGroups (entryLeft e rest u) ≠ heldGroups u := by
  classical exact ⟨decide _, decide_eq_true_iff⟩

/-- A pop that makes no switch leaves the store alone. -/
theorem popEntry_store (hu : u.stack.entries = e :: rest)
    (hwait : ∀ n, u.store.pendingProfile = some n → heldGroups (entryLeft e rest u) < heldGroups u →
      stands u.modes.mode = true → u.store.profiles[n].releaseBuild < heldGroups (entryLeft e rest u)) :
    (popEntry u).store = u.store := by
  obtain ⟨grants, hgrants⟩ := exists_grants e rest u
  obtain ⟨v, hpop, hrun, -, -⟩ := popEntry_waits hu hgrants hwait
  rw [hpop, (sameInputs_refresh v).store]
  exact hrun.alters.store (by cases grants <;> simp)

theorem StorePopped.pop (h : StorePopped s u) (hm : ModesPopped s u) (hle : heldGroups u ≤ heldGroups s)
    (hu : u.stack.entries = e :: rest) : StorePopped s (popEntry u) := by
  have hheld := heldGroups_popEntry hu
  have hfall := heldGroups_entryLeft_le e rest u
  obtain ⟨hstore, hleft⟩ | ⟨n, hpend, hstand, hne, hstore⟩ := h
  · by_cases hdue : ∃ n, u.store.pendingProfile = some n ∧ heldGroups (entryLeft e rest u) < heldGroups u ∧
        stands u.modes.mode = true ∧ heldGroups (entryLeft e rest u) ≤ u.store.profiles[n].releaseBuild
    · obtain ⟨n, hpend, hlt, hstand, hlimit⟩ := hdue
      refine .inr ⟨n, hstore ▸ hpend, hm.stands_eq ▸ hstand, by omega, ?_⟩
      rw [popEntry_of_switch hu hpend hlt hstand hlimit, (sameInputs_refresh _).store, makeSwitch_store,
        (entryLeft_inputs e rest u).store, ← hstore]
      rfl
    · have hwait : ∀ n, u.store.pendingProfile = some n → heldGroups (entryLeft e rest u) < heldGroups u →
          stands u.modes.mode = true → u.store.profiles[n].releaseBuild < heldGroups (entryLeft e rest u) :=
        fun n hn hlt hs => Nat.not_le.mp fun hlimit => hdue ⟨n, hn, hlt, hs, hlimit⟩
      refine .inl ⟨(popEntry_store hu hwait).trans hstore, fun n hn hs => ?_⟩
      rw [hheld]
      by_cases hlt : heldGroups (entryLeft e rest u) < heldGroups u
      · have hlimit := hwait n (hstore ▸ hn) hlt (hm.stands_eq ▸ hs)
        omega
      · have hsame := hleft n hn hs
        omega
  · refine .inr ⟨n, hpend, hstand, hne, ?_⟩
    rw [popEntry_store hu fun k hk => by simp [hstore] at hk, hstore]

theorem ModesPopped.pop (h : ModesPopped s u) (hs : StorePopped s u) (hle : heldGroups u ≤ heldGroups s)
    (hu : u.stack.entries = e :: rest) : ModesPopped s (popEntry u) := by
  have hheld := heldGroups_popEntry hu
  have hfall := heldGroups_entryLeft_le e rest u
  obtain ⟨grants, hgrants⟩ := exists_grants e rest u
  have hmodes := popEntry_modes hu hgrants
  obtain ⟨hkept, hleft⟩ | ⟨hdue, hne, hgranted⟩ := h
  · have hprofile : ClaimWaits s.modes → activeProfile u = activeProfile s := fun hw => by
      obtain ⟨hstore, -⟩ | ⟨n, -, hstand, -⟩ := hs
      · exact activeProfile_of_store hstore
      · exact absurd hw (not_claimWaits_of_stands hstand)
    by_cases hg : grants = true
    · obtain ⟨hwaits, htogether, hchanged⟩ := hgrants.mp hg
      rw [hkept] at hwaits
      obtain ⟨hallowed, -⟩ := (mayStandTogether_entryLeft e rest u).mp htogether
      rw [hprofile hwaits] at hallowed
      refine .inr ⟨⟨hwaits, hallowed⟩, by omega, ?_⟩
      rw [hmodes, if_pos hg, hkept]
      rfl
    · rw [if_neg hg] at hmodes
      refine .inl ⟨hmodes.trans hkept, fun hdue => ?_⟩
      rw [hheld]
      by_cases hsame : heldGroups (entryLeft e rest u) = heldGroups u
      · have hstill := hleft hdue
        omega
      · have hmay : ¬mayStandTogether (entryLeft e rest u) = true := fun hmay =>
          hg (hgrants.mpr ⟨hkept ▸ hdue.1, hmay, hsame⟩)
        rw [mayStandTogether_entryLeft, hprofile hdue.1] at hmay
        have hlimit : ¬heldGroups (entryLeft e rest u) ≤ (activeProfile s).releaseContinuous := fun hc => hmay ⟨hdue.2, hc⟩
        omega
  · rw [if_neg fun hg => not_claimWaits_granted s.modes (hgranted ▸ (hgrants.mp hg).1)] at hmodes
    exact .inr ⟨hdue, hne, hmodes.trans hgranted⟩

end Handed

/-! ## All entries popped -/

/-- The part `u` is `s` with some of its entries popped, and what their fall has brought to claims and selection. -/
structure GivingUp (s u : State) : Prop where
  popping : Popping s u
  modes   : ModesPopped s u
  store   : StorePopped s u
  plan    : u.plan = s.plan

section All
variable {s u : State} {e : StackEntry} {rest : List StackEntry}

theorem GivingUp.refl (h : HoldCountsMatch s) : GivingUp s s :=
  ⟨.refl h, .inl ⟨rfl, fun _ => .inl rfl⟩, .inl ⟨rfl, fun _ _ _ => .inl rfl⟩, rfl⟩

theorem GivingUp.withRing (h : GivingUp s u) (r : RingRec) : GivingUp s (withRing r u) :=
  ⟨h.popping.withRing r, h.modes, h.store, h.plan⟩

theorem GivingUp.pop (h : GivingUp s u) : GivingUp s (popEntry u) := by
  cases hu : u.stack.entries with
  | nil => rwa [popEntry_nil hu]
  | cons e rest =>
    have hle := h.popping.heldGroups_le
    exact ⟨h.popping.pop hu, h.modes.pop h.store hle hu, h.store.pop h.modes hle hu,
      (popEntry_ring_plan u).2.trans h.plan⟩

theorem GivingUp.popMany (h : GivingUp s u) (n : Nat) : GivingUp s (popMany n u) := by
  induction n generalizing u with
  | zero => exact h
  | succ n ih => exact ih h.pop

end All

/-! ## The end of the pops -/

section Done
variable {s u : State}

theorem popMany_entries (s : State) : (popMany s.stack.entries.length s).stack.entries = [] := by
  have hpositions := stackPositions_popMany s.stack.entries.length s
  have hnone : (stackPositions s).drop s.stack.entries.length = [] := by simp [stackPositions]
  rw [hnone] at hpositions
  simpa [stackPositions] using hpositions

theorem Popping.done (h : Popping s u) (hu : u.stack.entries = []) :
    heldGroups u = 0 ∧ ∀ g : Fin 16, u.groups[g] = s.groups[g].afterPops s.now 0 := by
  have hholds : ∀ g, holds u g = 0 := fun g => by rw [holds, hu]; rfl
  refine ⟨?_, fun g => by rw [h.groups, hholds]⟩
  rw [heldGroups_eq_countP, List.countP_eq_zero]
  intro g _
  rw [h.holdCount, hholds]
  simp

theorem ModesPopped.done (h : ModesPopped s u) (hu : heldGroups u = 0) :
    (ClaimDue s ∧ heldGroups s ≠ 0 → u.modes = s.modes.granted) ∧
    (¬(ClaimDue s ∧ heldGroups s ≠ 0) → u.modes = s.modes) := by
  obtain ⟨hkept, hleft⟩ | ⟨hdue, hne, hgranted⟩ := h
  · refine ⟨fun ⟨hdue, hne⟩ => ?_, fun _ => hkept⟩
    have hstill := hleft hdue
    omega
  · exact ⟨fun _ => hgranted, fun hnot => absurd ⟨hdue, hne⟩ hnot⟩

theorem StorePopped.done (h : StorePopped s u) (hu : heldGroups u = 0) :
    (∀ n, s.store.pendingProfile = some n → stands s.modes.mode = true → heldGroups s ≠ 0 →
      u.store = { s.store with active := n, pendingProfile := none }) ∧
    (s.store.pendingProfile = none ∨ stands s.modes.mode = false ∨ heldGroups s = 0 → u.store = s.store) := by
  obtain ⟨hkept, hleft⟩ | ⟨k, hpend, hstand, hne, hswitched⟩ := h
  · refine ⟨fun n hn hs hne => ?_, fun _ => hkept⟩
    have hstill := hleft n hn hs
    omega
  · refine ⟨fun n hn _ _ => ?_, fun hnot => ?_⟩
    · obtain rfl : k = n := Option.some.inj (hpend.symm.trans hn)
      exact hswitched
    · rcases hnot with hnot | hnot | hnot
      · simp [hpend] at hnot
      · simp [hstand] at hnot
      · exact absurd hnot hne

/-- The ring record of a build given up, before it is seen whether the abort is complete (R88). -/
def RingRec.givenUp (r : RingRec) : RingRec :=
  { r with state := .aborting, queue := ringOrder r, setList := [], skips := Vector.replicate 7 0 }

/-- The part with its entries popped and the abort told. -/
def abortTold (cause : RingCause) (u : State) : State :=
  announceRing cause (withRing u.ring.givenUp (popMany u.stack.entries.length u))

theorem abortRing_eq (cause : RingCause) (u : State) : abortRing cause u = ringTest (abortTold cause u) := by
  have hring : (popMany u.stack.entries.length u).ring = u.ring := by simp
  unfold abortRing abortTold
  rw [← hring]
  rfl

theorem completionTest_iff (hu : u.stack.entries = []) : completionTest u = true ↔ Settled u := by
  rw [← settled_iff, completionTest, hu]
  simp

/-- An abort is complete where no group is then RETURNING or UNCERTAIN (R89). -/
theorem abortRing_cases (cause : RingCause) (u : State) :
    (Settled (abortRing cause u) ∧ abortRing cause u = completeAbort (abortTold cause u)) ∨
    (¬Settled (abortRing cause u) ∧ abortRing cause u = abortTold cause u) := by
  have hstate : (abortTold cause u).ring.state = .aborting := by simp [abortTold, withRing, RingRec.givenUp]
  have hempty : (abortTold cause u).stack.entries = [] := by simpa [abortTold, withRing] using popMany_entries u
  have hsettled : Settled (abortRing cause u) ↔ Settled (abortTold cause u) := by
    rw [abortRing_eq, Settled, Settled, (ringTest_frame _).2.2.2.2.1]
  have htest := completionTest_iff hempty
  rw [hsettled, abortRing_eq]
  by_cases hs : Settled (abortTold cause u)
  · exact .inl ⟨hs, ringTest_of_completes hstate (htest.mpr hs)⟩
  · refine .inr ⟨hs, ringTest_of_waits (fun h => ?_) fun h => hs (htest.mp h.2)⟩
    rw [hstate] at h
    exact RingState.noConfusion h.1

/-- What the records are once a build is given up. -/
structure GivenUp (failed : Bool) (s v : State) : Prop where
  entries : v.stack.entries = []
  plan    : v.plan = s.plan
  modes   : (ClaimDue s ∧ heldGroups s ≠ 0 → v.modes = s.modes.granted) ∧
    (¬(ClaimDue s ∧ heldGroups s ≠ 0) → v.modes = s.modes)
  store   : (∀ n, s.store.pendingProfile = some n → stands s.modes.mode = true → heldGroups s ≠ 0 →
      v.store = { s.store with active := n, pendingProfile := none }) ∧
    (s.store.pendingProfile = none ∨ stands s.modes.mode = false ∨ heldGroups s = 0 → v.store = s.store)
  groups  : ∀ g : Fin 16, v.groups[g] = s.groups[g].afterPops s.now 0
  armed   : Settled v → v.ring =
    { s.ring with
      queue := ringOrder s.ring, setList := [], skips := Vector.replicate 7 0, failed := s.ring.failed || failed
      state := .armed }
  waiting : ¬Settled v → v.ring =
    { s.ring with
      queue := ringOrder s.ring, setList := [], skips := Vector.replicate 7 0, failed := s.ring.failed || failed
      state := .aborting }

theorem abortRing_givenUp (cause : RingCause) {failed : Bool} (h : GivingUp s u)
    (hring : u.ring = { s.ring with failed := s.ring.failed || failed }) : GivenUp failed s (abortRing cause u) := by
  obtain ⟨hpopping, hmodes, hstore, hplan⟩ := h.popMany u.stack.entries.length
  obtain ⟨hheld, hgroups⟩ := hpopping.done (popMany_entries u)
  have hframe := ringTest_frame (abortTold cause u)
  rw [← abortRing_eq] at hframe
  obtain ⟨-, -, -, -, hg, hst, hp, -, -, -, hm, -⟩ := hframe
  have hs : (abortRing cause u).store = (popMany u.stack.entries.length u).store := by
    obtain ⟨-, he⟩ | ⟨-, he⟩ := abortRing_cases cause u <;> rw [he] <;> simp [completeAbort, abortTold, withRing]
  exact {
    entries := by
      rw [hst]
      simpa [abortTold, withRing] using popMany_entries u
    plan := by
      rw [hp]
      simpa [abortTold, withRing] using hplan
    modes := by
      have hkept : (abortRing cause u).modes = (popMany u.stack.entries.length u).modes := by
        rw [hm]
        simp [abortTold, withRing]
      rw [hkept]
      exact hmodes.done hheld
    store := by
      rw [hs]
      exact hstore.done hheld
    groups := fun g => by
      have hkept : (abortRing cause u).groups = (popMany u.stack.entries.length u).groups := by
        rw [hg]
        simp [abortTold, withRing]
      rw [hkept]
      exact hgroups g
    armed := fun hsettled => by
      obtain ⟨-, he⟩ | ⟨hnot, -⟩ := abortRing_cases cause u
      · rw [he]
        simp only [completeAbort, abortTold, withRing, announceRing_frame, RingRec.givenUp, hring]
        rfl
      · exact absurd hsettled hnot
    waiting := fun hnot => by
      obtain ⟨hsettled, -⟩ | ⟨-, he⟩ := abortRing_cases cause u
      · exact absurd hsettled hnot
      · rw [he]
        simp only [abortTold, withRing, announceRing_frame, RingRec.givenUp, hring]
        rfl }

end Done

/-! ## What the pops tell where nothing waits on them -/

section Told
variable {s u : State} {e : StackEntry} {rest : List StackEntry}

/-- No claim waits for a grant and no selection for a switch. -/
structure NothingWaits (s : State) : Prop where
  advance   : s.modes.advance ≠ .pending
  build     : s.modes.build ≠ .pending
  selection : s.store.pendingProfile = none

theorem NothingWaits.not_claimWaits (h : NothingWaits s) : ¬ClaimWaits s.modes := fun hw =>
  hw.2.elim (fun hc => h.advance hc.1) fun hc => h.build hc.1

theorem GivingUp.nothingWaits (h : GivingUp s u) (hs : NothingWaits s) :
    NothingWaits u ∧ u.store = s.store := by
  have hmodes : u.modes = s.modes := h.modes.elim And.left fun hc => absurd hc.1.1 hs.not_claimWaits
  have hstore : u.store = s.store := h.store.elim And.left fun ⟨n, hn, _⟩ => by simp [hs.selection] at hn
  exact ⟨⟨hmodes ▸ hs.advance, hmodes ▸ hs.build, hstore ▸ hs.selection⟩, hstore⟩

/-- The order that the pop of the topmost of some entries issues, told from the groups as they were. -/
def popTold (s : State) : List StackEntry → List Sent
  | [] => []
  | e :: rest =>
    let listed := e.cover.filter fun g =>
      (rest.all fun x => !x.cover.contains g) &&
        (s.groups[g].state = .retracting || s.groups[g].state = .released)
    if listed = [] then []
    else [noticeOn .drive
      (.extendOrder (listed.map fun g => (g, (s.groups[g].transition + 1) % 256)) (some e.position))]

theorem popTold_cons (s : State) (e : StackEntry) (rest : List StackEntry) {listed : List (Fin 16)}
    (h : listed = e.cover.filter fun g =>
      (rest.all fun x => !x.cover.contains g) &&
        (s.groups[g].state = .retracting || s.groups[g].state = .released)) :
    popTold s (e :: rest) = if listed = [] then []
      else [noticeOn .drive
        (.extendOrder (listed.map fun g => (g, (s.groups[g].transition + 1) % 256)) (some e.position))] := by
  rw [h]
  rfl

theorem Popping.popOrder (h : Popping s u) (hu : u.stack.entries = e :: rest) :
    popOrder e u = popTold s (e :: rest) := by
  have hgroup : ∀ g ∈ e.cover, u.groups[g] = { s.groups[g] with holdCount := holds u g } ∧
      (u.groups[g].returns = ((rest.all fun x => !x.cover.contains g) &&
        (s.groups[g].state = .retracting || s.groups[g].state = .released))) := by
    intro g hg
    have hcons := holds_cons hu g
    rw [if_pos hg] at hcons
    have hheld := h.held (g := g) (by omega)
    refine ⟨hheld, ?_⟩
    have hcount : holds (popped e rest u) g = rest.countP fun x => x.cover.contains g := rfl
    have hlast : decide (holds u g ≤ 1) = rest.all fun x => !x.cover.contains g := by
      rw [Bool.eq_iff_iff, decide_eq_true_iff, hcons, hcount, List.all_eq_true]
      have hzero : (rest.countP fun x => x.cover.contains g) = 0 ↔ ∀ x ∈ rest, (!x.cover.contains g) = true := by
        simp [List.countP_eq_zero]
      rw [← hzero]
      omega
    rw [hheld, ← hlast]
    rfl
  have hsent : sentByPop e u = e.cover.filter fun g => (rest.all fun x => !x.cover.contains g) &&
      (s.groups[g].state = .retracting || s.groups[g].state = .released) :=
    List.filter_congr fun g hg => (hgroup g hg).2
  have hitems : (sentByPop e u).map (fun g => (g, (u.groups[g].transition + 1) % 256)) =
      (sentByPop e u).map fun g => (g, (s.groups[g].transition + 1) % 256) := by
    refine List.map_congr_left fun g hg => ?_
    rw [(hgroup g (List.mem_filter.mp hg).1).1]
  rw [popTold_cons s e rest hsent, Machine.popOrder, hitems]

theorem popTold_place (s : State) (l : List StackEntry) : ∀ x ∈ popTold s l, x.message.place = 0 := by
  intro x hx
  cases l with
  | nil => exact absurd hx List.not_mem_nil
  | cons e rest =>
    rw [popTold_cons s e rest rfl] at hx
    split at hx
    · exact absurd hx List.not_mem_nil
    · obtain rfl := List.mem_singleton.mp hx
      rfl

/-- What a build given up changes. -/
def givenUpBlocks : List Block := [.groups, .stack, .ring, .chamber]

/-- The setpoint is as it was, or held down at the ceiling in force. -/
def ChamberDown (s u : State) : Prop := u.chamber = s.chamber ∨ u.chamber = heldDown s s

/-- One pop where nothing waits: the order, then the permits. -/
theorem GivingUp.pop_tells (h : GivingUp s u) (hs : NothingWaits s) (hu : u.stack.entries = e :: rest) :
    BlocksTell [permitsOf (entryLeft e rest u)] (popTold s (e :: rest)) givenUpBlocks u (popEntry u) ∧
      (popEntry u).stack.entries = rest ∧ (ChamberDown s u → ChamberDown s (popEntry u)) := by
  obtain ⟨hnone, hstore⟩ := h.nothingWaits hs
  have hin := entryLeft_inputs e rest u
  have hpop : popEntry u = refresh (entryLeft e rest u) := popEntry_of_stay hu (fun hc => hnone.not_claimWaits hc.1)
    fun n hn => by simp [hnone.selection] at hn
  have hacts := entryLeft_acts e rest u
  rw [h.popping.popOrder hu] at hacts
  refine ⟨?_, ?_, fun hc => ?_⟩
  · rw [hpop]
    exact ((hacts.mono (l' := givenUpBlocks) (by simp [givenUpBlocks])).run.toBlocksTell).refreshed
  · rw [hpop, (sameInputs_refresh _).stack, hin.stack]
    rfl
  · have hleft : (entryLeft e rest u).chamber = u.chamber := hacts.alters.chamber (by simp)
    have hkept : (entryLeft e rest u).store = s.store := hin.store.trans hstore
    rw [hpop]
    refine heldDown_settles (t := entryLeft e rest u) (hleft ▸ hc) ?_ (refresh_chamber _)
    rw [(sameInputs_refresh _).profile, activeProfile_of_store hkept]

/-- The pops one after another, from the top. -/
theorem GivingUp.popMany_tells (entries : List StackEntry) (h : GivingUp s u) (hs : NothingWaits s)
    (hu : u.stack.entries = entries) :
    ∃ steps : List Permits, steps.length = entries.length ∧
      BlocksTell steps (entries.tails.flatMap (popTold s)) givenUpBlocks u (Machine.popMany entries.length u) ∧
      (ChamberDown s u → ChamberDown s (Machine.popMany entries.length u)) := by
  induction entries generalizing u with
  | nil => exact ⟨[], rfl, (BlocksAct.refl givenUpBlocks u).run.toBlocksTell, id⟩
  | cons e rest ih =>
    obtain ⟨htells, hrest, hchamber⟩ := h.pop_tells hs hu
    obtain ⟨steps, hlength, hmany, hchambers⟩ := ih h.pop hrest
    refine ⟨permitsOf (entryLeft e rest u) :: steps, by simp [hlength], ?_, fun hc => hchambers (hchamber hc)⟩
    have hplace : ∀ x ∈ rest.tails.flatMap (popTold s), x.message.place = 0 := fun x hx => by
      obtain ⟨l, -, hl⟩ := List.mem_flatMap.mp hx
      exact popTold_place s l x hl
    exact htells.trans hmany hplace (by simp [givenUpBlocks])

/-- What an abort tells once its entries are popped. -/
def abortNotices (cause : RingCause) (settled : Bool) (r : RingRec) : List Sent :=
  noticeOn .erector (.ringState r.number .aborting cause (ringOrder r) []) ::
    if settled then [noticeOn .erector (.ringState r.number .armed .abortComplete (ringOrder r) [])] else []

theorem abortNotices_place (cause : RingCause) (settled : Bool) (r : RingRec) :
    ∀ x ∈ abortNotices cause settled r, x.message.place = 0 := by
  cases settled <;> simp [abortNotices, noticeOn, Message.place]

theorem abortRing_acts (cause : RingCause) {settled : Bool} (u : State)
    (h : settled = true ↔ Settled (abortRing cause u)) :
    BlocksAct (abortNotices cause settled u.ring) [.ring] (popMany u.stack.entries.length u) (abortRing cause u) := by
  have htold : BlocksAct [noticeOn .erector (.ringState u.ring.number .aborting cause (ringOrder u.ring) [])] [.ring]
      (popMany u.stack.entries.length u) (abortTold cause u) := by
    unfold abortTold withRing announceRing
    exact { alters := {}, sent := rfl }
  have hring : (abortTold cause u).ring = u.ring.givenUp := by simp [abortTold, withRing]
  obtain ⟨hs, he⟩ | ⟨hs, he⟩ := abortRing_cases cause u
  · obtain rfl := h.mpr hs
    have hcomplete := completeAbort_acts (abortTold cause u)
    rw [hring, ← he] at hcomplete
    exact htold.trans hcomplete
  · have hnot : settled = false := Bool.eq_false_iff.mpr fun hc => hs (h.mp hc)
    subst hnot
    rw [he]
    exact htold

/-- A build given up where nothing waits, from the part whose entries are popped. -/
theorem GivingUp.abort_tells (h : GivingUp s u) (hs : NothingWaits s) (cause : RingCause) {settled : Bool}
    (hsettled : settled = true ↔ Settled (abortRing cause u)) :
    ∃ steps : List Permits, steps.length = u.stack.entries.length ∧
      BlocksTell steps (u.stack.entries.tails.flatMap (popTold s) ++ abortNotices cause settled u.ring) givenUpBlocks u
        (abortRing cause u) ∧
      (ChamberDown s u → ChamberDown s (abortRing cause u)) := by
  obtain ⟨steps, hlength, hmany, hchamber⟩ := h.popMany_tells u.stack.entries hs rfl
  have hacts := abortRing_acts cause u hsettled
  refine ⟨steps, hlength, hmany.trans_act (hacts.mono (by simp [givenUpBlocks])) (abortNotices_place _ _ _)
    fun hc => absurd (by simp [givenUpBlocks]) hc, fun hc => ?_⟩
  have hkept : (abortRing cause u).chamber = (Machine.popMany u.stack.entries.length u).chamber :=
    hacts.alters.chamber (by simp)
  unfold ChamberDown
  rw [hkept]
  exact hchamber hc

end Told

end Sys2Proof.Machine

/-! RING ABORT and the third NOT SET (R83, R87 to R89). -/

namespace Sys2Proof.Machine

set_option Elab.async false

section Served
variable {s u : State}

theorem stands_abortRing (cause : RingCause) (u : State) : Stands u (abortRing cause u) := by
  constructor <;> simp

/-- The entries of `s` have been popped down to those of `u`, which is told where nothing waits. -/
structure PoppedTo (s u : State) : Prop where
  giving : GivingUp s u
  stands : Stands s u
  tells  : NothingWaits s → ChamberDown s u ∧ ∃ steps told, steps.length + u.stack.entries.length = s.stack.entries.length ∧
    BlocksTell steps told givenUpBlocks s u ∧
    told ++ u.stack.entries.tails.flatMap (popTold s) = s.stack.entries.tails.flatMap (popTold s)

theorem PoppedTo.refl (h : HoldCountsMatch s) : PoppedTo s s where
  giving := .refl h
  stands := ⟨rfl, rfl, rfl, rfl⟩
  tells _ := ⟨.inl rfl, [], [], by simp, (BlocksAct.refl givenUpBlocks s).run.toBlocksTell, rfl⟩

/-- One entry popped, and the ring record changed (R83). -/
theorem PoppedTo.first {e : StackEntry} {rest : List StackEntry} (h : HoldCountsMatch s) (hs : s.stack.entries = e :: rest)
    (r : RingRec) : PoppedTo s (withRing r (popEntry s)) where
  giving := (GivingUp.refl h).pop.withRing r
  stands := by constructor <;> simp [withRing]
  tells hnone := by
    obtain ⟨htells, hrest, hchamber⟩ := (GivingUp.refl h).pop_tells hnone hs
    have hring : BlocksAct [] [.ring] (popEntry s) (withRing r (popEntry s)) := by
      unfold withRing
      exact { alters := {} }
    have hentries : (withRing r (popEntry s)).stack.entries = rest := hrest
    refine ⟨hchamber (.inl rfl), [permitsOf (entryLeft e rest s)], popTold s (e :: rest), ?_, ?_, ?_⟩
    · rw [hentries, hs]
      simp [Nat.add_comm]
    · have hall := htells.trans_act (hring.mono (by simp [givenUpBlocks])) (List.forall_mem_nil _)
        fun hc => absurd (by simp [givenUpBlocks]) hc
      rwa [List.append_nil] at hall
    · rw [hentries, hs]
      rfl

/-- A request that gives the build up. -/
theorem exec_givenUp {α : Type} {n : Nat} {roles : List Port} {early : Bool} {reader : Reader α} {owner : α → State → Handled}
    {c : Instr} {p : Port} {f : Frame} {a : α} {fields : List Field} {cause : RingCause} {failed : Bool}
    (hx : exec c s = .next (request n roles early reader owner p s)) (hasks : Asks s p n reader f a)
    (hr : roles.contains p = true) (hc : commissioned s = true ∨ early = true)
    (he : owner a (taken p s) = .act (abortRing cause u) .done fields) (h : PoppedTo (taken p s) u)
    (hring : u.ring = { s.ring with failed := s.ring.failed || failed }) :
    ∃ t, exec c s = .next t ∧ Stands s t ∧ t.sent.head? = some (responseTo p f .done fields) ∧
      Carries (abortRing cause u) t ∧ GivenUp failed (taken p s) (abortRing cause u) ∧
      (NothingWaits s → ChamberDown s t ∧ ∃ steps : List Permits, steps.length = s.stack.entries.length ∧
        ∀ settled, (settled = true ↔ Settled (abortRing cause u)) →
          ServedBy steps p f .done fields
            (s.stack.entries.tails.flatMap (popTold s) ++ abortNotices cause settled s.ring) givenUpBlocks s t) := by
  have hstands : Stands (taken p s) (abortRing cause u) := by
    obtain ⟨hpowered, hnow, hpending, hchoices⟩ := h.stands
    constructor <;> simp [hpowered, hnow, hpending, hchoices]
  obtain ⟨t, ht, hst, hhead, hcarries, -⟩ := exec_works hx hasks hr hc he hstands
  have hgiven : GivenUp failed (taken p s) (abortRing cause u) := abortRing_givenUp cause h.giving hring
  refine ⟨t, ht, hst, hhead, hcarries, hgiven, fun hnone => ?_⟩
  have hwaits : NothingWaits (taken p s) := ⟨hnone.advance, hnone.build, hnone.selection⟩
  obtain ⟨hdown, steps, told, hlength, htold, hall⟩ := h.tells hwaits
  obtain ⟨settled, hsettled⟩ : ∃ b : Bool, b = true ↔ Settled (abortRing cause u) := by
    classical exact ⟨decide _, decide_eq_true_iff⟩
  obtain ⟨steps', hlength', htold', hdown'⟩ := h.giving.abort_tells hwaits cause hsettled
  have hstore : t.store = s.store := hcarries.store.trans (hgiven.store.2 (.inl hnone.selection))
  have hplace : ∀ x ∈ u.stack.entries.tails.flatMap (popTold (taken p s)) ++ abortNotices cause settled u.ring,
      x.message.place = 0 := fun x hx => (List.mem_append.mp hx).elim (fun hx => by
    obtain ⟨l, -, hl⟩ := List.mem_flatMap.mp hx
    exact popTold_place _ l x hl) (abortNotices_place _ _ _ x)
  have htells := htold.trans htold' hplace (by simp [givenUpBlocks])
  have hnotices : abortNotices cause settled u.ring = abortNotices cause settled s.ring := by
    rw [hring]
    rfl
  have hpops : popTold (taken p s) = popTold s := by
    funext l
    cases l <;> rfl
  rw [← List.append_assoc, hall, hnotices, hpops] at htells
  refine ⟨heldDown_settles (t := abortRing cause u) (hdown' hdown) (activeProfile_of_store hstore) hcarries.chamber,
    steps ++ steps', ?_, fun b hb => ?_⟩
  · rw [List.length_append, hlength']
    exact hlength
  · obtain rfl : b = settled := Bool.eq_iff_iff.mpr (hb.trans hsettled.symm)
    obtain ⟨t', ht', hserved, -⟩ := exec_tells hx hasks hr hc he htells fun x hx =>
      (List.mem_append.mp hx).elim (fun hx => by
        obtain ⟨l, -, hl⟩ := List.mem_flatMap.mp hx
        exact popTold_place _ l x hl) (abortNotices_place _ _ _ x)
    obtain rfl := Host.Outcome.next.inj (ht.symm.trans ht')
    exact hserved

end Served

/-! ## RING ABORT (R87) -/

theorem exec_ringAbort (p : Port) (s : State) :
    exec (.ringAbort p) s = .next (request 20 [.erector, .cabin] false readNothing takeRingAbort p s) := rfl

section Take
variable {s : State}

theorem takeRingAbort_of_idle (h : s.ring.state = .idle) : takeRingAbort () s = .answer .state [.u8 0] := by
  simp only [takeRingAbort, h]
  rfl

theorem takeRingAbort_of_aborting (h : s.ring.state = .aborting) : takeRingAbort () s = .answer .done [.u8 4] := by
  simp only [takeRingAbort, h]
  rfl

theorem takeRingAbort_of_armed (h : s.ring.state = .armed) : takeRingAbort () s =
    .act (announceRing .abort { s with ring := RingRec.initial s.ring.number }) .done [.u8 0] := by
  simp only [takeRingAbort, h]
  rfl

theorem takeRingAbort_of_build (h : s.ring.state = .building ∨ s.ring.state = .closing) :
    takeRingAbort () s = .act (abortRing .abort s) .done [.u8 (abortRing .abort s).ring.state.code] := by
  rcases h with h | h <;> simp only [takeRingAbort, h]

theorem takeSegmentClose_of_third {e : StackEntry} {rest : List StackEntry} (h : s.stack.entries = e :: rest)
    (hskips : 2 ≤ s.ring.skips[e.position]) {u : State}
    (hu : u = withRing { s.ring with failed := true } (popEntry s)) : takeSegmentClose (e.position.val, .notSet) s =
      .act (abortRing .ringFailed u) .done (closeFields e.position .notSet (abortRing .ringFailed u).ring) := by
  have hring : (popEntry s).ring = s.ring := by simp
  have hclose : closeNotSet e.position s = abortRing .ringFailed u := by
    rw [closeNotSet, if_neg (Nat.not_lt.mpr hskips), hu, ← hring]
    rfl
  simp [takeSegmentClose, Nat.le_of_lt_succ e.position.isLt, h, hclose]

end Take

section Told
variable {s v t : State}

/-- The ring record of a part whose build has been given up. -/
theorem GivenUp.ring {failed : Bool} (h : GivenUp failed s v) : v.ring =
    { s.ring with
      queue := ringOrder s.ring, setList := [], skips := Vector.replicate 7 0, failed := s.ring.failed || failed
      state := if ∀ g : Fin 16, v.groups[g].state ≠ .returning ∧ v.groups[g].state ≠ .uncertain then .armed
        else .aborting } := by
  split
  · exact h.armed ‹_›
  · exact h.waiting ‹_›

/-- An aborted ring is ARMED exactly when the abort is complete. -/
theorem GivenUp.armed_iff {failed : Bool} (h : GivenUp failed s v) : v.ring.state = .armed ↔ Settled v := by
  by_cases hs : Settled v
  · simp [h.armed hs, hs]
  · simp [h.waiting hs, hs]

theorem GivenUp.modes_eq {failed : Bool} (h : GivenUp failed s v) : v.modes =
    if (s.modes.mode = .advance ∨ s.modes.mode = .build) ∧ heldGroups s ≠ 0 ∧
        (activeProfile s).continuousAllowed = true ∧
        (s.modes.advance = .pending ∧ s.modes.build = .held ∨ s.modes.build = .pending ∧ s.modes.advance = .held) then
      { s.modes with advance := .held, build := .held, mode := .continuous, haltOutput := false, cause := .grant }
    else s.modes := by
  split
  next hc =>
    obtain ⟨hmode, hheld, hallowed, hclaims⟩ := hc
    exact h.modes.1 ⟨⟨⟨hmode, hclaims⟩, hallowed⟩, hheld⟩
  next hc => exact h.modes.2 fun ⟨⟨⟨hmode, hclaims⟩, hallowed⟩, hheld⟩ => hc ⟨hmode, hheld, hallowed, hclaims⟩

theorem GivenUp.group {failed : Bool} (h : GivenUp failed s v) (g : Fin 16) : v.groups[g] =
    if 0 < s.groups[g].holdCount ∧ (s.groups[g].state = .retracting ∨ s.groups[g].state = .released) then
      { s.groups[g] with
        state := .returning, stateTime := s.now, slow := false, holdCount := 0
        transition := (s.groups[g].transition + 1) % 256 }
    else { s.groups[g] with holdCount := 0 } := by
  rw [h.groups, GroupRec.afterPops]
  simp only [true_and]

theorem abortNotices_decide (cause : RingCause) (p : Prop) [Decidable p] (r : RingRec) :
    abortNotices cause (decide p) r = [noticeOn .erector (.ringState r.number .aborting cause (ringOrder r) [])] ++
      if p then [noticeOn .erector (.ringState r.number .armed .abortComplete (ringOrder r) [])] else [] := by
  by_cases hp : p <;> simp [abortNotices, hp]

theorem popTold_eq (s : State) : popTold s = fun l =>
    match l with
    | [] => []
    | e :: rest =>
      let listed := e.cover.filter fun g =>
        (rest.all fun x => !x.cover.contains g) &&
          (s.groups[g].state = .retracting || s.groups[g].state = .released)
      if listed = [] then []
      else [noticeOn .drive
        (.extendOrder (listed.map fun g => (g, (s.groups[g].transition + 1) % 256)) (some e.position))] := by
  funext l
  cases l <;> rfl

end Told

theorem announceArmed_acts (s : State) :
    BlocksAct [noticeOn .erector (.ringState s.ring.number .idle .abort [] [])] [.ring] s
      (announceRing .abort { s with ring := RingRec.initial s.ring.number }) := by
  unfold announceRing
  exact { alters := {}, sent := rfl }

theorem ringAbort_unbuilt {s : State} {f : Frame} {p : Port} (hp : p = .erector ∨ p = .cabin)
    (hasks : Asks s p 20 readNothing f ()) (hcomm : commissioned s = true) :
    (s.ring.state = .idle → exec (.ringAbort p) s = .next (answeredOnly p f .state [.u8 0] s)) ∧
    (s.ring.state = .aborting → exec (.ringAbort p) s = .next (answeredOnly p f .done [.u8 4] s)) ∧
    (s.ring.state = .armed → ∃ t, exec (.ringAbort p) s = .next t ∧
      Served p f .done [.u8 0] [noticeOn .erector (.ringState s.ring.number .idle .abort [] [])] [.ring] s t ∧
      CondsFollow s t ∧ t.ring = RingRec.initial s.ring.number) := by
  have hr : [Port.erector, .cabin].contains p = true := by
    rcases hp with rfl | rfl <;> rfl
  have hx := exec_ringAbort p s
  refine ⟨fun h => ?_, fun h => ?_, fun h => ?_⟩
  · exact exec_answers hx hasks hr (.inl hcomm) (takeRingAbort_of_idle (s := taken p s) h)
  · exact exec_answers hx hasks hr (.inl hcomm) (takeRingAbort_of_aborting (s := taken p s) h)
  · obtain ⟨t, ht, hserved, hconds, hcarries⟩ := exec_acts hx hasks hr (.inl hcomm)
      (takeRingAbort_of_armed (s := taken p s) h) (announceArmed_acts (taken p s)) (by simp [noticeOn, Message.place])
    exact ⟨t, ht, hserved, hconds, hcarries.ring.trans (by simp)⟩

/-- A build given up for `cause`: the request's answer, and the part from which the abort begins. -/
theorem exec_abort {s : State} {f : Frame} {p : Port} {i : Instr} {cause : RingCause}
    (h : (i = .ringAbort p ∧ cause = .abort ∧ (p = .erector ∨ p = .cabin) ∧ Asks s p 20 readNothing f () ∧
        (s.ring.state = .building ∨ s.ring.state = .closing)) ∨
      (i = .segmentClose p ∧ cause = .ringFailed ∧ p = .erector ∧ ∃ e rest, s.stack.entries = e :: rest ∧
        2 ≤ s.ring.skips[e.position] ∧ Asks s p 19 readSegmentClose f (e.position.val, .notSet)))
    (hcomm : commissioned s = true) (hcounts : HoldCountsMatch s) :
    ∃ t v fields, exec i s = .next t ∧ Stands s t ∧ t.sent.head? = some (responseTo p f .done fields) ∧
      Carries v t ∧ GivenUp (decide (cause = .ringFailed)) (taken p s) v ∧
      (cause = .abort → fields = [.u8 v.ring.state.code]) ∧
      (cause = .ringFailed →
        fields = [.u8 1, .u8 v.ring.state.code, .u8 0] ++ positionList v.ring.queue ++ positionList []) ∧
      (NothingWaits s → ChamberDown s t ∧ ∃ steps : List Permits, steps.length = s.stack.entries.length ∧
        ∀ settled, (settled = true ↔ Settled v) →
          ServedBy steps p f .done fields
            (s.stack.entries.tails.flatMap (popTold s) ++ abortNotices cause settled s.ring) givenUpBlocks s t) := by
  obtain ⟨rfl, rfl, hp, hasks, hstate⟩ | ⟨rfl, rfl, rfl, e, rest, hentries, hskips, hasks⟩ := h
  · have hr : [Port.erector, .cabin].contains p = true := by
      rcases hp with rfl | rfl <;> rfl
    obtain ⟨t, ht, hst, hhead, hcarries, hgiven, htold⟩ := exec_givenUp (failed := false) (exec_ringAbort p s) hasks hr
      (.inl hcomm) (takeRingAbort_of_build (s := taken p s) hstate) (.refl (s := taken p s) hcounts)
      (by rw [Bool.or_false]; rfl)
    exact ⟨t, _, _, ht, hst, hhead, hcarries, hgiven, fun _ => rfl, fun hc => RingCause.noConfusion hc, htold⟩
  · obtain ⟨r, hrdef⟩ : ∃ r, r = { s.ring with failed := true } := ⟨_, rfl⟩
    obtain ⟨u, hu⟩ : ∃ u, u = withRing r (popEntry (taken .erector s)) := ⟨_, rfl⟩
    have htake : takeSegmentClose (e.position.val, .notSet) (taken .erector s) = _ :=
      takeSegmentClose_of_third (s := taken .erector s) (u := u) hentries hskips (by rw [hu, hrdef]; rfl)
    have hring : u.ring = { s.ring with failed := s.ring.failed || true } := by
      rw [hu, Bool.or_true, ← hrdef]
      rfl
    obtain ⟨t, ht, hst, hhead, hcarries, hgiven, htold⟩ := exec_givenUp (failed := true) (exec_segmentClose .erector s)
      hasks rfl (.inl hcomm) htake (hu ▸ .first (s := taken .erector s) hcounts hentries r) hring
    refine ⟨t, _, _, ht, hst, hhead, hcarries, hgiven, fun hc => RingCause.noConfusion hc, fun _ => ?_, htold⟩
    have hrest : (abortRing .ringFailed u).ring.setList = [] ∧
        (abortRing .ringFailed u).ring.skips = Vector.replicate 7 0 := by
      rw [hgiven.ring]
      exact ⟨rfl, rfl⟩
    simp [closeFields, hrest, CloseOutcome.code]

/-- Settles O36: every entry is popped, one after another, and the ring record is then told; where nothing waits on the
held groups each pop sends its order and the permits, and nothing else changes. -/
theorem buildGivenUp : Obligations.BuildGivenUp := by
  refine ⟨fun s f p hp hasks hcomm => ringAbort_unbuilt hp hasks hcomm, fun s f p i cause hi hcomm hcounts => ?_⟩
  obtain ⟨t, v, fields, ht, hst, hhead, hcarries, hgiven, habort, hfailed, htold⟩ := exec_abort hi hcomm hcounts
  have hring : t.ring = v.ring := hcarries.ring
  refine ⟨t, fields, ht, hst, hhead, ?_, ?_, ?_, ?_, ?_, ?_, ?_, ?_, ?_, fun hadvance hbuild hselection => ?_⟩
  · rw [hring]
    exact habort
  · rw [hring]
    exact hfailed
  · rw [hcarries.stack, hgiven.entries]
  · exact hcarries.plan.trans hgiven.plan
  · exact hcarries.modes.trans hgiven.modes_eq
  · rw [hcarries.store]
    exact hgiven.store.1
  · rw [hcarries.store]
    exact hgiven.store.2
  · rw [hcarries.groups]
    exact hgiven.group
  · rw [hring, hcarries.groups]
    exact hgiven.ring
  · obtain ⟨hdown, steps, hlength, hserved⟩ := htold ⟨hadvance, hbuild, hselection⟩
    refine ⟨hdown, steps, hlength, ?_⟩
    have hall := hserved (decide (t.ring.state = .armed)) (by rw [decide_eq_true_iff, hring, hgiven.armed_iff])
    have hqueue : t.ring.queue = ringOrder s.ring := by
      rw [hring, hgiven.ring]
      rfl
    rw [popTold_eq, abortNotices_decide, ← List.append_assoc] at hall
    rw [hqueue]
    exact hall

end Sys2Proof.Machine

/-! The grout orders of a closure (R96, R98 to R100). -/

namespace Sys2Proof.Machine

set_option Elab.async false

/-! ## The pieces of an order (R96, R99) -/

/-- An amount in pieces of the cap, the last one what is left. -/
def piecesOf (cap m : Nat) : List Nat :=
  List.replicate (m / cap) cap ++ if m % cap = 0 then [] else [m % cap]

section Pieces
variable {cap m : Nat}

theorem piecesOf_pos (hm : m ≠ 0) (hcap : 0 < cap) : piecesOf cap m = min cap m :: piecesOf cap (m - min cap m) := by
  by_cases h : cap ≤ m
  · rw [min_eq_left h, piecesOf, piecesOf, ← Nat.mod_eq_sub_mod h, Nat.div_eq_sub_div hcap h, List.replicate_succ,
      List.cons_append]
  · have hlt : m < cap := Nat.not_le.mp h
    simp [piecesOf, min_eq_right hlt.le, Nat.div_eq_of_lt hlt, Nat.mod_eq_of_lt hlt, hm]

/-- The pieces that find a FREE descriptor are the first ones. -/
theorem cutPieces_eq (hcap : 0 < cap) (free m : Nat) : (cutPieces cap free m).1 = (piecesOf cap m).take free := by
  induction free generalizing m with
  | zero => rfl
  | succ n ih =>
    by_cases hm : m = 0
    · simp [cutPieces, hm, piecesOf]
    · rw [piecesOf_pos hm hcap, List.take_succ_cons, ← ih, cutPieces, if_neg hm]

theorem cutPieces_left {cap free : Nat} {order : Int} (h : 0 < order) :
    ((cutPieces cap free order.toNat).2 : Int) = order - ((cutPieces cap free order.toNat).1.sum : Nat) := by
  have hsum := cutPieces_sum cap free order.toNat
  omega

end Pieces

theorem openDescriptors_eq (l : Line) :
    openDescriptors l = l.descriptors.filter fun e => decide (e.state = .posted ∨ e.state = .taken) := by
  refine List.filter_congr fun e _ => ?_
  cases e.state <;> simp

/-- The cap of every capacity class is positive where the largest dose is in its range. -/
theorem lineCap_pos {p : Profile} (h : 1000 ≤ p.maxDose) (c : Capacity) : 0 < lineCap p c := by
  cases c <;> simp only [lineCap] <;> omega

/-! ## The order of one line (R98, R99) -/

section Order
variable {cap number limit : Nat} {order : Int} {l : Line}

theorem orderLine_of_nonpos (h : order ≤ 0) : orderLine cap number limit order l = ({ l with carry := order }, []) :=
  if_pos h

theorem orderLine_of_pos (h : 0 < order) (hcap : 0 < cap) {kept : List Descriptor} (hk : kept = openDescriptors l)
    {pieces : List Nat} (hp : pieces = (piecesOf cap order.toNat).take (4 - kept.length)) :
    orderLine cap number limit order l =
      ({ l with
          carry := order - (pieces.sum : Nat)
          nextSequence := (l.nextSequence + pieces.length) % 256
          descriptors := kept ++ (dosesOf l number limit pieces).map fun dose => { dose, state := .posted } },
        dosesOf l number limit pieces) := by
  subst hk
  have hcut : (cutPieces cap (4 - (openDescriptors l).length) order.toNat).1 = pieces := (cutPieces_eq hcap _ _).trans hp.symm
  have hleft := cutPieces_left (cap := cap) (free := 4 - (openDescriptors l).length) h
  rw [hcut] at hleft
  simp only [orderLine, if_neg (Int.not_le.mpr h), hcut, hleft]
  simp [dosesOf]

/-- What a line does with its part of the grout of a closure: a line out of service keeps its record. -/
def lineOrdered (p : Profile) (number : Nat) (target : Int) (i : Fin 6) (l : Line) : Line × List Dose :=
  if l.service = .inService then
    orderLine (lineCap p l.capacity) number p.pressureLimits[i] (target + l.carry) l
  else (l, [])

/-- The pieces that a line posts. -/
def linePieces (p : Profile) (target : Int) (l : Line) : List Nat :=
  if l.service = .inService ∧ 0 < target + l.carry then
    (piecesOf (lineCap p l.capacity) (target + l.carry).toNat).take (4 - (openDescriptors l).length)
  else []

theorem lineOrdered_doses {p : Profile} (h : 1000 ≤ p.maxDose) (number : Nat) (target : Int) (i : Fin 6) (l : Line) :
    (lineOrdered p number target i l).2 = dosesOf l number p.pressureLimits[i] (linePieces p target l) := by
  unfold lineOrdered linePieces
  by_cases hs : l.service = .inService
  · by_cases ho : 0 < target + l.carry
    · rw [if_pos hs, if_pos ⟨hs, ho⟩, orderLine_of_pos ho (lineCap_pos h _) rfl rfl]
    · rw [if_pos hs, if_neg fun hc => ho hc.2, orderLine_of_nonpos (Int.not_lt.mp ho)]
      rfl
  · rw [if_neg hs, if_neg fun hc => hs hc.1]
    rfl

end Order

/-! ## The orders of a closure (R97 to R100) -/

/-- The portions of the grout of a closure, with the pool carry. -/
def orderTargets (required : Nat) (s : State) : Vector Int 6 :=
  signedPortions (recipientShares (activeProfile s) s.grout fun _ => true) (required + s.grout.pool)

/-- The grout record after the orders. -/
def groutOrdered (number required : Nat) (s : State) : Grout :=
  { lines := updateEach s.grout.lines fun i l =>
      (lineOrdered (activeProfile s) number (orderTargets required s)[i] i l).1
    pool := 0, judged := true }

/-- The doses that the orders post, line by line. -/
def itemsOrdered (number required : Nat) (s : State) : List PostedItem :=
  (List.finRange 6).flatMap fun i =>
    (lineOrdered (activeProfile s) number (orderTargets required s)[i] i s.grout.lines[i]).2.map fun d : Dose =>
      { line := i, sector := (constantsOf s).lineSectors[i], sequence := d.sequence, target := d.target, limit := d.limit }

/-- What the orders tell (R99). -/
def ordersTold (number required : Nat) (s : State) : List Sent :=
  if itemsOrdered number required s = [] then []
  else [noticeOn .grout (.dosePosted number required (itemsOrdered number required s)
    (carriesOf (groutOrdered number required s)) 0 (debtOf (groutOrdered number required s)))]

section Closure
variable {number required : Nat} {s : State}

theorem groutClosure_of_none (h : sumNat (recipientShares (activeProfile s) s.grout fun _ => true) = 0) :
    groutClosure number required s =
      { s with grout := { s.grout with pool := s.grout.pool + required, judged := true } } :=
  if_pos h

theorem groutClosure_of_some (h : sumNat (recipientShares (activeProfile s) s.grout fun _ => true) ≠ 0) :
    groutClosure number required s =
      { s with grout := groutOrdered number required s, sent := s.sent ++ ordersTold number required s } := by
  have hlines : updateEach (updateEach s.grout.lines fun i l =>
      lineOrdered (activeProfile s) number (orderTargets required s)[i] i l) (fun _ o => o.1) =
      updateEach s.grout.lines fun i l => (lineOrdered (activeProfile s) number (orderTargets required s)[i] i l).1 := by
    ext i hi
    simp
  have hitems : ((List.finRange 6).flatMap fun i => (updateEach s.grout.lines fun i l =>
      lineOrdered (activeProfile s) number (orderTargets required s)[i] i l)[i].2.map fun d : Dose =>
      ({ line := i, sector := (constantsOf s).lineSectors[i], sequence := d.sequence, target := d.target
         limit := d.limit } : PostedItem)) = itemsOrdered number required s := by
    simp [itemsOrdered]
  have heq : groutClosure number required s =
      (if (itemsOrdered number required s).isEmpty then { s with grout := groutOrdered number required s }
      else tell .grout (.dosePosted number required (itemsOrdered number required s)
        (carriesOf (groutOrdered number required s)) 0 (debtOf (groutOrdered number required s)))
        { s with grout := groutOrdered number required s }) := by
    rw [groutOrdered, ← hlines, ← hitems]
    exact if_neg h
  rw [heq, ordersTold]
  by_cases hnone : itemsOrdered number required s = []
  · simp [hnone]
  · simp [hnone, tell, noticeOn]

/-- What the orders of a closure tell, with recipients or without. -/
def groutTold (number required : Nat) (s : State) : List Sent :=
  if sumNat (recipientShares (activeProfile s) s.grout fun _ => true) = 0 then [] else ordersTold number required s

theorem groutClosure_acts (number required : Nat) (s : State) :
    BlocksAct (groutTold number required s) [.grout] s (groutClosure number required s) := by
  unfold groutTold
  by_cases h : sumNat (recipientShares (activeProfile s) s.grout fun _ => true) = 0
  · rw [if_pos h, groutClosure_of_none h]
    exact { alters := {} }
  · rw [if_neg h, groutClosure_of_some h]
    exact { alters := {} }

theorem groutTold_place (number required : Nat) (s : State) : ∀ x ∈ groutTold number required s, x.message.place = 0 := by
  intro x hx
  unfold groutTold ordersTold at hx
  split at hx
  · exact absurd hx List.not_mem_nil
  · split at hx
    · exact absurd hx List.not_mem_nil
    · obtain rfl := List.mem_singleton.mp hx
      rfl

end Closure

end Sys2Proof.Machine

/-! The closure of one increment (R25 to R32, R98 to R100, R131). -/

namespace Sys2Proof.Machine

set_option Elab.async false

/-! ## What the orders leave (R98, R99) -/

section Posted
variable {number required : Nat} {s : State} {p : Profile} {pieces : Fin 6 → List Nat}

/-- The pieces that the lines post at a closure. -/
def closurePieces (required : Nat) (s : State) (i : Fin 6) : List Nat :=
  linePieces (activeProfile s) (orderTargets required s)[i] s.grout.lines[i]

theorem map_dosesOf {β : Type} (f : Dose → β) (l : Line) (number limit : Nat) (pieces : List Nat) :
    (dosesOf l number limit pieces).map f = pieces.mapIdx fun j piece =>
      f { sequence := (l.nextSequence + j) % 256, increment := number, target := piece, limit } := by
  apply List.ext_getElem <;> simp [dosesOf]

theorem itemsOrdered_eq (hp : p = activeProfile s) (hdose : 1000 ≤ p.maxDose) (hpieces : pieces = closurePieces required s) :
    itemsOrdered number required s = (List.finRange 6).flatMap fun i => (pieces i).mapIdx fun j piece =>
      { line := i, sector := (constantsOf s).lineSectors[i]
        sequence := (s.grout.lines[i].nextSequence + j) % 256, target := piece, limit := p.pressureLimits[i] } := by
  subst hp hpieces
  unfold itemsOrdered
  congr 1
  funext i
  rw [lineOrdered_doses hdose, map_dosesOf]
  rfl

theorem itemsOrdered_eq_nil (hdose : 1000 ≤ (activeProfile s).maxDose) (hpieces : pieces = closurePieces required s) :
    itemsOrdered number required s = [] ↔ ∀ i, pieces i = [] := by
  rw [itemsOrdered_eq rfl hdose hpieces]
  simp [List.flatMap_eq_nil_iff]

theorem groutOrdered_line (number required : Nat) (s : State) (i : Fin 6) : (groutOrdered number required s).lines[i] =
    (lineOrdered (activeProfile s) number (orderTargets required s)[i] i s.grout.lines[i]).1 := by
  simp [groutOrdered]

theorem closurePieces_out {i : Fin 6} (h : s.grout.lines[i].service ≠ .inService) :
    closurePieces required s i = [] ∧ (groutOrdered number required s).lines[i] = s.grout.lines[i] := by
  rw [groutOrdered_line, lineOrdered, if_neg h]
  exact ⟨if_neg fun hc => h hc.1, rfl⟩

theorem closurePieces_nonpos {i : Fin 6} {order : Int} (h : s.grout.lines[i].service = .inService)
    (ho : order = (orderTargets required s)[i] + s.grout.lines[i].carry) (hle : order ≤ 0) :
    closurePieces required s i = [] ∧
      (groutOrdered number required s).lines[i] = { s.grout.lines[i] with carry := order } := by
  subst ho
  rw [groutOrdered_line, lineOrdered, if_pos h, orderLine_of_nonpos hle]
  exact ⟨if_neg fun hc => absurd hc.2 (Int.not_lt.mpr hle), rfl⟩

theorem closurePieces_pos {i : Fin 6} {order : Int} {cap : Nat} {kept : List Descriptor}
    (hdose : 1000 ≤ (activeProfile s).maxDose) (h : s.grout.lines[i].service = .inService)
    (ho : order = (orderTargets required s)[i] + s.grout.lines[i].carry) (hpos : 0 < order)
    (hcap : cap = lineCap (activeProfile s) s.grout.lines[i].capacity) (hkept : kept = openDescriptors s.grout.lines[i]) :
    closurePieces required s i = (piecesOf cap order.toNat).take (4 - kept.length) ∧
      (groutOrdered number required s).lines[i] =
        { s.grout.lines[i] with
          carry := order - ((closurePieces required s i).sum : Nat)
          nextSequence := (s.grout.lines[i].nextSequence + (closurePieces required s i).length) % 256
          descriptors := kept ++ (closurePieces required s i).mapIdx fun j piece =>
            { dose :=
                { sequence := (s.grout.lines[i].nextSequence + j) % 256, increment := number, target := piece
                  limit := (activeProfile s).pressureLimits[i] }
              state := .posted } } := by
  have hpieces : closurePieces required s i = (piecesOf cap order.toNat).take (4 - kept.length) := by
    subst ho hcap hkept
    exact if_pos ⟨h, hpos⟩
  refine ⟨hpieces, ?_⟩
  subst hcap
  rw [groutOrdered_line, lineOrdered, if_pos h, ← ho, orderLine_of_pos hpos (lineCap_pos hdose _) hkept hpieces,
    map_dosesOf]

end Posted

/-! ## The account at a closure (R25 to R31, R131) -/

section Account
variable {s : State}

theorem nextIncrement_eq (n : Nat) : nextIncrement n = if n < 4294967295 then n + 1 else 1 := by
  have hlast : Config.lastIncrement = 4294967295 := rfl
  rw [nextIncrement, hlast]
  split <;> split <;> omega

theorem closedBetween_next {n : Nat} (h : n ≤ 4294967295) : closedBetween n (nextIncrement n) = 1 := by
  have hlast : Config.lastIncrement = 4294967295 := rfl
  rw [closedBetween, nextIncrement_eq, hlast]
  split <;> split <;> omega

theorem speedBasis_eq (a : Account) (now len : Nat) : speedBasis a now len =
    match a.increments.getLast? with
    | none => (none, len)
    | some r => if r.time < now then (some r.time, len) else (a.speedBase, a.instantLength + len) := by
  unfold speedBasis newestClosure
  cases a.increments.getLast? <;> rfl

/-- The account after a closure, in the figures of R26 to R30 and R131. -/
theorem closureEffects_account {number len v w x m inst lagged : Nat} {base : Option Nat} {p : Profile} {r : IncrementRec}
    (hnumber : number = nextIncrement s.account.counter) (hp : p = activeProfile s) (hlen : len = p.incrementLength)
    (hv : v = ((constantsOf s).excavationArea * len + s.account.remVolume) / 100)
    (hw : w = ((constantsOf s).tailVoidArea * len + s.account.remTail) / 100)
    (hx : x = (w * fillFactor s + s.account.remGrout) / 1000)
    (hm : m = (v * p.density + s.account.remMass) / 1000000)
    (hbasis : (base, inst) = speedBasis s.account s.now len)
    (hr : r = { number, time := s.now, length := len, volume := v, tailVoid := w, grout := x, mass := m
                mode := s.modes.mode })
    (hlagged : lagged = satAdd s.account.cycle.expected m -
      (((pushCapped 16 s.account.increments r).reverse.take
        (min p.spoilLag (satAdd s.account.cycle.increments 1))).map (·.mass)).sum) :
    (closureEffects s).account =
      { s.account with
        accumulator := s.account.accumulator - len
        remVolume := ((constantsOf s).excavationArea * len + s.account.remVolume) % 100
        remTail := ((constantsOf s).tailVoidArea * len + s.account.remTail) % 100
        remGrout := (w * fillFactor s + s.account.remGrout) % 1000
        remMass := (v * p.density + s.account.remMass) % 1000000
        counter := number
        increments := pushCapped 16 s.account.increments r
        cycle :=
          { s.account.cycle with
            increments := satAdd s.account.cycle.increments 1, volume := satAdd s.account.cycle.volume v
            tailVoid := satAdd s.account.cycle.tailVoid w, required := satAdd s.account.cycle.required x
            expected := satAdd s.account.cycle.expected m, lagged := some lagged
            verdict := some (verdictOf p s.account.cycle.measured lagged) }
        totals :=
          { s.account.totals with
            volume := s.account.totals.volume.add v, tailVoid := s.account.totals.tailVoid.add w
            required := s.account.totals.required.add x }
        speedBase := base, instantLength := inst
        speed := closureSpeed s.account s.now (base, inst) } := by
  have hbase : base = (speedBasis s.account s.now len).1 := congrArg Prod.fst hbasis
  have hinst : inst = (speedBasis s.account s.now len).2 := congrArg Prod.snd hbasis
  have hclose : (closureEffects s).account = (spoilBalance (accountClosure s)).account := by
    simp only [closureEffects, spoilBalance, activeProfile, groutClosure_frame]
  subst hbase hinst
  subst hlagged hr hm hx hw hv hlen hp hnumber
  rw [hclose]
  rfl

end Account

/-! ## The closure as a run of the blocks -/

/-- The grout that an increment requires (R28). -/
def closureGrout (s : State) : Nat := (incrementSums s (activeProfile s).incrementLength).grout

theorem closureEffects_acts (s : State) :
    BlocksAct (groutTold (accountClosure s).account.counter (closureGrout s) (accountClosure s)) [.account, .grout] s
      (closureEffects s) := by
  have haccount : BlocksAct [] [.account] s (accountClosure s) := { alters := {} }
  have hspoil : ∀ u : State, BlocksAct [] [.account] u (spoilBalance u) := fun u => { alters := {} }
  have hgrout := groutClosure_acts (accountClosure s).account.counter (closureGrout s) (accountClosure s)
  have hall := ((haccount.mono (l' := [.account, .grout]) (by simp)).trans (hgrout.mono (by simp))).trans
    ((hspoil _).mono (by simp))
  rwa [List.nil_append, List.append_nil] at hall

/-- One closure, after which no further one is due. -/
theorem closeAndTest_once {fuel : Nat} {s u : State} (hfuel : 0 < fuel) (hdue : closureDue s = true)
    (hu : switchTest (closeIncrement s) = u) (hshort : closureDue u = false) : closeAndTest fuel s = u := by
  obtain ⟨k, rfl⟩ : ∃ k, fuel = k + 1 := ⟨fuel - 1, by omega⟩
  rw [closeAndTest, hdue, hu]
  exact closeAndTest_of_short k hshort

end Sys2Proof.Machine

/-! STROKE REPORT that closes one increment (R24 to R32). -/

namespace Sys2Proof.Machine

set_option Elab.async false

/-! ## The part once a report is counted -/

/-- The part `c` is `s` with a report counted: the account, the strokes and the revolution in progress alone differ. -/
structure Counted (a : StrokeArgs) (counted : Nat) (s c : State) : Prop where
  now     : c.now = s.now
  store   : c.store = s.store
  stack   : c.stack = s.stack
  ring    : c.ring = s.ring
  plan    : c.plan = s.plan
  grout   : c.grout = s.grout
  chamber : c.chamber = s.chamber
  modes   : c.modes = s.modes
  motors  : c.cutter.motors = s.cutter.motors
  held    : heldGroups c = heldGroups s
  account : c.account =
    { s.account with
      residue := residueAfter s.account.residue (reportAdvance (contributions s a))
      accumulator := s.account.accumulator + counted
      cycle := { s.account.cycle with advance := satAdd s.account.cycle.advance counted }
      totals := { s.account.totals with advance := s.account.totals.advance.add counted } }

section Report
variable {a : StrokeArgs} {counted : Nat} {s c : State}

theorem counted_of_report (hc : c = strokesCounted a (taken .drive s)) (hn : counted = countedAdvance a (taken .drive s)) :
    Counted a counted s c := by
  subst hc hn
  have hacts := strokesCounted_acts a (taken .drive s)
  have hcutter := strokesCounted_cutter a (taken .drive s)
  have hkept : HoldsKept (taken .drive s) (strokesCounted a (taken .drive s)) :=
    .of_updateEach rfl (strokeRecord_holdCount _ a) rfl
  exact {
    now := hacts.alters.now
    store := hacts.alters.store (by simp)
    stack := hacts.alters.stack (by simp)
    ring := hacts.alters.ring (by simp)
    plan := hacts.alters.plan (by simp)
    grout := hacts.alters.grout (by simp)
    chamber := hacts.alters.chamber (by simp)
    modes := hacts.alters.modes (by simp)
    motors := by rw [hcutter]; rfl
    held := hkept.heldGroups
    account := strokesCounted_account a (taken .drive s) }

theorem Counted.profile (h : Counted a counted s c) : activeProfile c = activeProfile s := activeProfile_of_store h.store

theorem Counted.constants (h : Counted a counted s c) : constantsOf c = constantsOf s := by rw [constantsOf, h.store]; rfl

theorem Counted.fillFactor (h : Counted a counted s c) : fillFactor c = fillFactor s := by
  simp only [Machine.fillFactor, h.ring, h.profile]

theorem Counted.closureDue_iff (h : Counted a counted s c) : closureDue c = true ↔
    0 < (activeProfile s).incrementLength ∧ (activeProfile s).incrementLength ≤ s.account.accumulator + counted := by
  simp [closureDue, h.profile, h.account]

theorem countedAdvance_of_advancing (h : s.modes.mode = .advance ∨ s.modes.mode = .continuous) :
    countedAdvance a (taken .drive s) = leftOfAdvance s.account.residue (reportAdvance (contributions s a)) :=
  if_pos (by rcases h with h | h <;> simp [advancing, h])

end Report

/-! ## The account of the increment (R25 to R31) -/

section Increment
variable {a : StrokeArgs} {counted number len v w x m inst lagged : Nat} {base : Option Nat} {p : Profile} {r : IncrementRec}
  {s c : State}

theorem closureSpeed_eq (e : Account) (now : Nat) (base : Option Nat) (inst : Nat) : closureSpeed e now (base, inst) =
    match base with
    | some b => min (inst * 6000 / (now - b)) 999
    | none => e.speed := rfl

/-- The account after the closure of a counted report. -/
theorem Counted.closed (h : Counted a counted s c)
    (hnumber : number = nextIncrement s.account.counter) (hp : p = activeProfile s) (hlen : len = p.incrementLength)
    (hv : v = ((constantsOf s).excavationArea * len + s.account.remVolume) / 100)
    (hw : w = ((constantsOf s).tailVoidArea * len + s.account.remTail) / 100)
    (hx : x = (w * Machine.fillFactor s + s.account.remGrout) / 1000)
    (hm : m = (v * p.density + s.account.remMass) / 1000000)
    (hbasis : (base, inst) = speedBasis s.account s.now len)
    (hr : r = { number, time := s.now, length := len, volume := v, tailVoid := w, grout := x, mass := m
                mode := s.modes.mode })
    (hlagged : lagged = satAdd s.account.cycle.expected m -
      (((pushCapped 16 s.account.increments r).reverse.take
        (min p.spoilLag (satAdd s.account.cycle.increments 1))).map (·.mass)).sum) :
    (closureEffects c).account =
      { s.account with
        residue := residueAfter s.account.residue (reportAdvance (contributions s a))
        accumulator := s.account.accumulator + counted - len
        remVolume := ((constantsOf s).excavationArea * len + s.account.remVolume) % 100
        remTail := ((constantsOf s).tailVoidArea * len + s.account.remTail) % 100
        remGrout := (w * Machine.fillFactor s + s.account.remGrout) % 1000
        remMass := (v * p.density + s.account.remMass) % 1000000
        counter := number
        increments := pushCapped 16 s.account.increments r
        cycle :=
          { s.account.cycle with
            advance := satAdd s.account.cycle.advance counted
            increments := satAdd s.account.cycle.increments 1, volume := satAdd s.account.cycle.volume v
            tailVoid := satAdd s.account.cycle.tailVoid w, required := satAdd s.account.cycle.required x
            expected := satAdd s.account.cycle.expected m, lagged := some lagged
            verdict := some (verdictOf p s.account.cycle.measured lagged) }
        totals :=
          { s.account.totals with
            advance := s.account.totals.advance.add counted, volume := s.account.totals.volume.add v
            tailVoid := s.account.totals.tailVoid.add w, required := s.account.totals.required.add x }
        speedBase := base, instantLength := inst
        speed := closureSpeed s.account s.now (base, inst) } := by
  have hclosed := closureEffects_account (s := c) (number := number) (len := len) (v := v) (w := w) (x := x) (m := m)
    (inst := inst) (lagged := lagged) (base := base) (p := p) (r := r)
  simp only [h.account, h.constants, h.fillFactor, h.profile, h.now, h.modes] at hclosed
  exact hclosed hnumber hp hlen hv hw hx hm hbasis hr hlagged

/-- The record of the increment that a counted report closes (R25). -/
theorem Counted.closedIncrement (h : Counted a counted s c) (hp : p = activeProfile s) (hlen : len = p.incrementLength)
    (hv : v = ((constantsOf s).excavationArea * len + s.account.remVolume) / 100)
    (hw : w = ((constantsOf s).tailVoidArea * len + s.account.remTail) / 100) : Machine.closedIncrement c =
      { number := nextIncrement s.account.counter, time := s.now, length := len, volume := v, tailVoid := w
        grout := (w * Machine.fillFactor s + s.account.remGrout) / 1000
        mass := (v * p.density + s.account.remMass) / 1000000, mode := s.modes.mode } := by
  subst hv hw hlen hp
  simp only [Machine.closedIncrement, incrementSums, h.account, h.constants, h.fillFactor, h.profile, h.now, h.modes]

end Increment

end Sys2Proof.Machine

/-! STROKE REPORT that closes one increment, with no selection that becomes active (R24 to R32, R98 to R100, R131). -/

namespace Sys2Proof.Machine

set_option Elab.async false

/-- What a report that closes an increment changes. -/
def closureBlocks : List Block := [.account, .groups, .grout, .chamber, .cutter]

/-- The part after the closure of an increment is told, with the permits computed once more. -/
theorem strokeClosure_tells (a : StrokeArgs) (s : State) {c : State} (hc : c = strokesCounted a s) :
    BlocksTell [permitsOf (closureEffects c)]
      (groutTold (accountClosure c).account.counter (closureGrout c) (accountClosure c)) closureBlocks s
      (strokesEnded a s (closeIncrement c)) := by
  subst hc
  have hcounted := (strokesCounted_acts a s).mono (l' := closureBlocks) (by simp [closureBlocks])
  have hclosed := (closureEffects_acts (strokesCounted a s)).mono (l' := closureBlocks) (by simp [closureBlocks])
  have hended := (strokesEnded_acts a s (closeIncrement (strokesCounted a s))).mono (l' := closureBlocks)
    (by simp [closureBlocks])
  have hall := ((hcounted.trans hclosed).run.toBlocksTell.refreshed).trans_act hended (List.forall_mem_nil _)
    fun hc => absurd (by simp [closureBlocks]) hc
  rwa [List.append_nil] at hall

theorem strokesEnded_frame (a : StrokeArgs) (before t : State) :
    (strokesEnded a before t).store = t.store ∧ (strokesEnded a before t).chamber = t.chamber ∧
    (strokesEnded a before t).grout = t.grout ∧ (strokesEnded a before t).groups = t.groups ∧
    (strokesEnded a before t).account =
      { t.account with prev := Vector.ofFn (strokePrevious before a), thrustMean := meanOfThrust t.groups } := by
  and_intros <;> rfl

theorem strokesEnded_counter (a : StrokeArgs) (before t : State) :
    (strokesEnded a before t).account.counter = t.account.counter := rfl

section Closes
variable {a : StrokeArgs} {d : Int} {counted : Nat} {p : Profile} {s c : State} {f : Frame}

theorem closeIncrement_account (c : State) : (closeIncrement c).account = (closureEffects c).account :=
  (sameInputs_refresh _).account

/-- A closure takes the increment length from the accumulator and counts one increment (R24, R25). -/
theorem Counted.increment_closed (h : Counted a counted s c) :
    (closeIncrement c).account.accumulator = s.account.accumulator + counted - (activeProfile s).incrementLength ∧
      (closeIncrement c).account.counter = nextIncrement s.account.counter := by
  rw [closeIncrement_account, h.closed rfl rfl rfl rfl rfl rfl rfl rfl rfl rfl]
  exact ⟨rfl, rfl⟩

theorem Counted.closeIncrement_profile (h : Counted a counted s c) :
    activeProfile (closeIncrement c) = activeProfile s :=
  (activeProfile_of_store (by simp)).trans h.profile

/-- Where no selection becomes active a closure is all that the report brings (R10). -/
theorem Counted.closes_alone (h : Counted a counted s c)
    (hwait : ∀ n, s.store.pendingProfile = some n → releaseLimitIn s.store.profiles[n] s.modes.mode < heldGroups s)
    (hlen : 0 < (activeProfile s).incrementLength)
    (hdue : (activeProfile s).incrementLength ≤ s.account.accumulator + counted)
    (honce : s.account.accumulator + counted < 2 * (activeProfile s).incrementLength) :
    closeAndTest c.account.accumulator c = closeIncrement c := by
  have hheld : heldGroups (closeIncrement c) = heldGroups s := (heldGroups_congr (by simp)).trans h.held
  refine closeAndTest_once ?_ (h.closureDue_iff.mpr ⟨hlen, hdue⟩) (switchTest_of_waiting fun n hn => ?_) ?_
  · have hsum : c.account.accumulator = s.account.accumulator + counted := by rw [h.account]
    omega
  · rw [hheld]
    simp only [closeIncrement_frame, h.store, h.modes] at hn ⊢
    exact hwait n hn
  · rw [closureDue, h.increment_closed.1, h.closeIncrement_profile, Bool.and_eq_false_iff,
      decide_eq_false_iff_not (p := _ ≤ _)]
    exact .inr (by omega)

theorem Counted.closed_one (h : Counted a counted s c) (hcounter : s.account.counter ≤ 4294967295) :
    closedBetween s.account.counter (strokesEnded a (taken .drive s) (closeIncrement c)).account.counter = 1 := by
  rw [strokesEnded_counter, h.increment_closed.2, closedBetween_next hcounter]

/-- The answer to a report that closes an increment where the mode counts the advance (R17). -/
theorem takeStrokes_of_closure {number : Nat} {u : State} (hmode : s.modes.mode = .advance ∨ s.modes.mode = .continuous)
    (hd : d = reportAdvance (contributions s a)) (hcount : counted = leftOfAdvance s.account.residue d)
    (hu : strokesTaken a (taken .drive s) = u) (hnumber : closedBetween s.account.counter u.account.counter = number) :
    takeStrokes a (taken .drive s) = .act u .done
      [.u8 (contributions s a).length, .i16 d, .u16 counted, .u16 0, .u8 number, .u16 u.account.accumulator,
        .u16 u.account.residue] := by
  have htake := takeStrokes_eq a (taken .drive s)
  have hcontributions : contributions (taken .drive s) a = contributions s a := rfl
  have hresidue : (taken .drive s).account = s.account := rfl
  rw [hu, countedAdvance_of_advancing hmode, hcontributions, hresidue, ← hd, ← hcount, Nat.sub_self, hnumber] at htake
  exact htake

/-- A STROKE REPORT that closes one increment and finds no selection that becomes active. -/
theorem exec_strokeClosure (hasks : Asks s .drive 1 readStrokes f a) (hcomm : commissioned s = true)
    (hcounter : s.account.counter ≤ 4294967295)
    (hwait : ∀ n, s.store.pendingProfile = some n → releaseLimitIn s.store.profiles[n] s.modes.mode < heldGroups s)
    (hmode : s.modes.mode = .advance ∨ s.modes.mode = .continuous)
    (hd : d = reportAdvance (contributions s a)) (hcount : counted = leftOfAdvance s.account.residue d)
    (hlen : 0 < (activeProfile s).incrementLength)
    (hdue : (activeProfile s).incrementLength ≤ s.account.accumulator + counted)
    (honce : s.account.accumulator + counted < 2 * (activeProfile s).incrementLength) :
    ∃ t c, exec (.strokeReport .drive) s = .next t ∧ Counted a counted s c ∧
      ServedBy [permitsOf (closureEffects c)] .drive f .done
        [.u8 (contributions s a).length, .i16 d, .u16 counted, .u16 0, .u8 1, .u16 t.account.accumulator,
          .u16 t.account.residue]
        (groutTold (accountClosure c).account.counter (closureGrout c) (accountClosure c)) closureBlocks s t ∧
      (t.chamber = s.chamber ∨ t.chamber = heldDown s s) ∧
      t.grout = (closureEffects c).grout ∧
      t.account = { (closureEffects c).account with
        prev := t.account.prev, thrustMean := meanOfThrust t.groups } := by
  obtain ⟨c, hc⟩ : ∃ c, c = strokesCounted a (taken .drive s) := ⟨_, rfl⟩
  have hcounted : Counted a counted s c := counted_of_report hc (by rw [countedAdvance_of_advancing hmode, hcount, hd])
  have htaken : strokesTaken a (taken .drive s) = strokesEnded a (taken .drive s) (closeIncrement c) := by
    rw [strokesTaken_eq, ← hc, hcounted.closes_alone hwait hlen hdue honce]
  have htake := takeStrokes_of_closure hmode hd hcount htaken (hcounted.closed_one hcounter)
  obtain ⟨t, ht, hserved, hcarries⟩ := exec_tells (exec_strokeReport .drive s) hasks rfl (.inl hcomm) htake
    (strokeClosure_tells a (taken .drive s) hc) (groutTold_place _ _ _)
  rw [← hcarries.account] at hserved
  obtain ⟨hstoreE, hchamberE, hgroutE, hgroupsE, haccountE⟩ :=
    strokesEnded_frame a (taken .drive s) (closeIncrement c)
  have hstore : (closeIncrement c).store = s.store := by simp [hcounted.store]
  have hstoreT : t.store = s.store := by rw [hcarries.store, hstoreE, hstore]
  refine ⟨t, c, ht, hcounted, hserved, ?_, ?_, ?_⟩
  · have hclosed : (closeIncrement c).chamber = s.chamber ∨ (closeIncrement c).chamber = heldDown s s :=
      heldDown_settles (t := closureEffects c) (.inl (by simp [hcounted.chamber]))
        (activeProfile_of_store hstore) (refresh_chamber _)
    rw [← hchamberE] at hclosed
    exact heldDown_settles hclosed (activeProfile_of_store hstoreT) hcarries.chamber
  · rw [hcarries.grout, hgroutE]
    exact (sameInputs_refresh _).grout
  · rw [hcarries.account, haccountE, hcarries.groups, hgroupsE, closeIncrement_account]

end Closes

end Sys2Proof.Machine

/-! What the closure of one increment leaves of the grout unit, and the selection that follows it (R9 to R12). -/

namespace Sys2Proof.Machine

set_option Elab.async false

/-! ## The grout orders of a closure, told of the part before it -/

section Orders
variable {number required : Nat} {s k : State}

theorem groutTold_congr (hs : k.store = s.store) (hg : k.grout = s.grout) :
    groutTold number required k = groutTold number required s := by
  have hp : activeProfile k = activeProfile s := activeProfile_of_store hs
  have htargets : orderTargets required k = orderTargets required s := by simp only [orderTargets, hp, hg]
  have hordered : groutOrdered number required k = groutOrdered number required s := by
    simp only [groutOrdered, htargets, hp, hg]
  have hitems : itemsOrdered number required k = itemsOrdered number required s := by
    simp only [itemsOrdered, constantsOf, hs, htargets, hp, hg]
  simp only [groutTold, ordersTold, hordered, hitems, hp, hg]

/-- What the orders tell, from the pieces posted (R99). -/
theorem groutTold_of_some {p : Profile} {pieces : Fin 6 → List Nat} {g : Grout} (hp : p = activeProfile s)
    (hdose : 1000 ≤ p.maxDose) (hsome : sumNat (recipientShares (activeProfile s) s.grout fun _ => true) ≠ 0)
    (hpieces : pieces = closurePieces required s) (hg : g = groutOrdered number required s) :
    groutTold number required s =
      if ∀ i : Fin 6, pieces i = [] then []
      else
        [noticeOn .grout (.dosePosted number required
          ((List.finRange 6).flatMap fun i => (pieces i).mapIdx fun j piece =>
            { line := i, sector := (constantsOf s).lineSectors[i]
              sequence := (s.grout.lines[i].nextSequence + j) % 256, target := piece, limit := p.pressureLimits[i] })
          (Vector.ofFn fun i => g.lines[i].carry) 0 (debtOf g))] := by
  have hitems := itemsOrdered_eq (number := number) hp hdose hpieces
  have hnone := itemsOrdered_eq_nil (number := number) (hp ▸ hdose) hpieces
  rw [groutTold, if_neg hsome, ordersTold, ← hitems, ← hg]
  by_cases h : ∀ i, pieces i = []
  · rw [if_pos (hnone.mpr h), if_pos h]
  · rw [if_neg fun hc => h (hnone.mp hc), if_neg h]
    rfl

theorem groutClosure_grout_congr (hs : k.store = s.store) (hg : k.grout = s.grout) :
    (groutClosure number required k).grout = (groutClosure number required s).grout := by
  have hp : activeProfile k = activeProfile s := activeProfile_of_store hs
  by_cases h : sumNat (recipientShares (activeProfile s) s.grout fun _ => true) = 0
  · rw [groutClosure_of_none h, groutClosure_of_none (by rwa [hp, hg]), hg]
  · rw [groutClosure_of_some h, groutClosure_of_some (by rwa [hp, hg])]
    simp only [groutOrdered, orderTargets, hp, hg]

theorem Counted.closureGrout {a : StrokeArgs} {counted len w x : Nat} {c : State} (h : Counted a counted s c)
    (hlen : len = (activeProfile s).incrementLength)
    (hw : w = ((constantsOf s).tailVoidArea * len + s.account.remTail) / 100)
    (hx : x = (w * Machine.fillFactor s + s.account.remGrout) / 1000) : Machine.closureGrout c = x := by
  subst hx hw hlen
  simp only [Machine.closureGrout, incrementSums, h.account, h.constants, h.fillFactor, h.profile]

/-- The grout unit after a closure. -/
theorem Counted.grout_closed {a : StrokeArgs} {counted len w x : Nat} {c : State} (h : Counted a counted s c)
    (hnumber : number = nextIncrement s.account.counter) (hlen : len = (activeProfile s).incrementLength)
    (hw : w = ((constantsOf s).tailVoidArea * len + s.account.remTail) / 100)
    (hx : x = (w * Machine.fillFactor s + s.account.remGrout) / 1000) :
    (closureEffects c).grout = (groutClosure number x s).grout ∧
      groutTold (accountClosure c).account.counter (Machine.closureGrout c) (accountClosure c) = groutTold number x s := by
  have hstore : (accountClosure c).store = s.store := by simp [h.store]
  have hgrout : (accountClosure c).grout = s.grout := by simp [h.grout]
  have hcounter : (accountClosure c).account.counter = number := by
    rw [hnumber, ← h.increment_closed.2, closeIncrement_account]
    simp [closureEffects, spoilBalance]
  have hx' := h.closureGrout hlen hw hx
  rw [hcounter, hx']
  refine ⟨?_, groutTold_congr hstore hgrout⟩
  rw [closureEffects_grout, hcounter, ← hx']
  exact groutClosure_grout_congr hstore hgrout

end Orders

end Sys2Proof.Machine

/-! The selection that becomes active at a closure (R9 to R12). -/

namespace Sys2Proof.Machine

set_option Elab.async false

/-! ## What a change of mode keeps of screw and cutterhead -/

section Mode
variable (m : Mode) (cause : ModeCause) (s : State)

theorem forcedStop_integrator : (forcedStop s).chamber.integrator = s.chamber.integrator := by
  obtain e | e := forcedStop_chamber s <;> rw [e]

theorem changeMode_kept : (changeMode m cause s).chamber.integrator = s.chamber.integrator ∧
    (changeMode m cause s).cutter.torqueCeiling = s.cutter.torqueCeiling ∧
    inMotors (changeMode m cause s).cutter = inMotors s.cutter := by
  obtain ⟨e, -⟩ | ⟨-, t, rfl, ⟨-, e⟩ | ⟨-, e⟩⟩ := changeMode_cases m cause s
  · rw [e]
    exact ⟨rfl, rfl, rfl⟩
  · rw [e]
    exact ⟨rfl, rfl, rfl⟩
  · rw [e]
    exact ⟨forcedStop_integrator _, forcedStop_torqueCeiling _, inMotors_forcedStop _⟩

theorem disallowContinuous_kept : (disallowContinuous s).chamber.integrator = s.chamber.integrator ∧
    (disallowContinuous s).cutter.torqueCeiling = s.cutter.torqueCeiling ∧
    inMotors (disallowContinuous s).cutter = inMotors s.cutter := by
  obtain e | ⟨-, -, e⟩ := disallowContinuous_cases s
  · rw [e]
    exact ⟨rfl, rfl, rfl⟩
  · rw [e]
    exact changeMode_kept _ _ _

end Mode

/-- A profile that does not allow continuous advance makes the advance claim PENDING and the mode BUILD (R12). -/
theorem disallowContinuous_of_forbidden {s : State} (h : s.modes.mode = .continuous)
    (ha : (activeProfile s).continuousAllowed = false) :
    (disallowContinuous s).modes = ({ s.modes with advance := .pending } : ModeUnit).entered .build .profile := by
  rw [disallowContinuous, if_pos ⟨h, ha⟩, changeMode_modes (by simp [h])]

theorem disallowContinuous_of_allowed {s : State}
    (h : s.modes.mode ≠ .continuous ∨ (activeProfile s).continuousAllowed = true) : disallowContinuous s = s :=
  if_neg fun hc => h.elim (fun h => h hc.1) fun h => by simp [h] at hc

/-! ## A switch that brings no closure (R11) -/

section Switch
variable {n : Fin 4} {s : State}

/-- A switch after which no increment is due. -/
theorem makeSwitch_of_short (h : s.account.accumulator < s.store.profiles[n].incrementLength) : makeSwitch n s =
    refresh (disallowContinuous (judgeDebt (overtimeAtSwitch (switchUnits n s)))) := by
  have hshort : closureDue (judgeDebt (overtimeAtSwitch (switchUnits n s))) = false := by
    have haccount : (judgeDebt (overtimeAtSwitch (switchUnits n s))).account = s.account := by simp [judgeDebt]
    have hprofile : activeProfile (judgeDebt (overtimeAtSwitch (switchUnits n s))) = s.store.profiles[n] := by
      simp [activeProfile, judgeDebt]
    rw [closureDue, haccount, hprofile, Bool.and_eq_false_iff, decide_eq_false_iff_not (p := _ ≤ _)]
    exact .inr (Nat.not_le.mpr h)
  have hstay : ∀ (fuel : Nat) (u : State), closureDue u = false → closeWhile fuel u = u := fun fuel u hu => by
    cases fuel with
    | zero => rfl
    | succ k => rw [closeWhile, hu]; rfl
  rw [makeSwitch_eq, hstay _ _ hshort]

theorem makeSwitch_account_of_short (h : s.account.accumulator < s.store.profiles[n].incrementLength) :
    (makeSwitch n s).account = s.account := by
  rw [makeSwitch_of_short h]
  simp [judgeDebt]

theorem switchUnits_integrator :
    (switchUnits n s).chamber.integrator = min s.chamber.integrator (1000 * s.store.profiles[n].screwMax) := by
  rw [switchUnits_chamber]
  exact (screwAtSwitch_chamber (selected n s)).1

theorem makeSwitch_integrator_of_short (h : s.account.accumulator < s.store.profiles[n].incrementLength) :
    (makeSwitch n s).chamber.integrator = min s.chamber.integrator (1000 * s.store.profiles[n].screwMax) := by
  rw [makeSwitch_of_short h, (refresh_chamber_frame _).2.1, (disallowContinuous_kept _).1, ← switchUnits_integrator]
  simp [judgeDebt]

theorem makeSwitch_torqueCeiling_of_short (h : s.account.accumulator < s.store.profiles[n].incrementLength) :
    (makeSwitch n s).cutter.torqueCeiling = torqueCeilingOf (makeSwitch n s) := by
  have hunits : (judgeDebt (overtimeAtSwitch (switchUnits n s))).cutter = (switchUnits n s).cutter := by simp [judgeDebt]
  obtain ⟨-, hceiling, hmotors⟩ := disallowContinuous_kept (judgeDebt (overtimeAtSwitch (switchUnits n s)))
  have hcutter : (makeSwitch n s).cutter =
      (disallowContinuous (judgeDebt (overtimeAtSwitch (switchUnits n s)))).cutter := by
    rw [makeSwitch_of_short h]
    exact (sameInputs_refresh _).cutter
  rw [hcutter, hceiling, hunits, switchUnits_torqueCeiling]
  refine torqueCeilingOf_congr ?_ ?_ ?_
  · rw [activeProfile_makeSwitch, activeProfile_switchUnits]
  · simp only [constantsOf, makeSwitch_store, switchUnits_store]
  · rw [hcutter, hmotors, hunits]

theorem makeSwitch_modes_of_short (h : s.account.accumulator < s.store.profiles[n].incrementLength) :
    (s.modes.mode = .continuous → s.store.profiles[n].continuousAllowed = false →
      (makeSwitch n s).modes = ({ s.modes with advance := .pending } : ModeUnit).entered .build .profile) ∧
    (s.modes.mode ≠ .continuous ∨ s.store.profiles[n].continuousAllowed = true → (makeSwitch n s).modes = s.modes) := by
  have hmodes : (judgeDebt (overtimeAtSwitch (switchUnits n s))).modes = s.modes := by simp [judgeDebt]
  have hprofile : activeProfile (judgeDebt (overtimeAtSwitch (switchUnits n s))) = s.store.profiles[n] := by
    simp [activeProfile, judgeDebt]
  rw [makeSwitch_of_short h, (sameInputs_refresh _).modes]
  refine ⟨fun hm ha => ?_, fun ha => ?_⟩
  · rw [disallowContinuous_of_forbidden (hmodes ▸ hm) (hprofile ▸ ha), hmodes]
  · rw [disallowContinuous_of_allowed (by rwa [hmodes, hprofile]), hmodes]

end Switch

/-! ## A closure and the switch that follows it (R9, R10) -/

section Closes
variable {a : StrokeArgs} {counted : Nat} {s c : State} {n : Fin 4}

theorem Counted.closes_and_switches (h : Counted a counted s c) (hpend : s.store.pendingProfile = some n)
    (hheld : heldGroups s ≤ releaseLimitIn s.store.profiles[n] s.modes.mode)
    (hlen : 0 < (activeProfile s).incrementLength)
    (hdue : (activeProfile s).incrementLength ≤ s.account.accumulator + counted)
    (hshort : (closeIncrement c).account.accumulator < (closeIncrement c).store.profiles[n].incrementLength) :
    closeAndTest c.account.accumulator c = makeSwitch n (closeIncrement c) := by
  have hgroups : heldGroups (closeIncrement c) = heldGroups s := (heldGroups_congr (by simp)).trans h.held
  refine closeAndTest_once ?_ (h.closureDue_iff.mpr ⟨hlen, hdue⟩) (switchTest_of_due ?_ ?_) ?_
  · have hsum : c.account.accumulator = s.account.accumulator + counted := by rw [h.account]
    omega
  · simpa [h.store] using hpend
  · rw [hgroups]
    simpa [h.store, h.modes] using hheld
  · rw [closureDue, makeSwitch_account_of_short hshort, activeProfile_makeSwitch, Bool.and_eq_false_iff,
      decide_eq_false_iff_not (p := _ ≤ _)]
    exact .inr (Nat.not_le.mpr hshort)

theorem strokesEnded_aside (a : StrokeArgs) (before t : State) :
    (strokesEnded a before t).cutter = t.cutter ∧ (strokesEnded a before t).stack = t.stack ∧
    (strokesEnded a before t).ring = t.ring ∧ (strokesEnded a before t).plan = t.plan ∧
    (strokesEnded a before t).modes = t.modes := by
  and_intros <;> rfl

theorem strokesEnded_stands (before t : State) : Stands t (strokesEnded a before t) := by
  constructor <;> rfl

/-- The part once a counted report has closed its increment: what a switch then finds. -/
theorem Counted.closeIncrement_frame (h : Counted a counted s c) :
    (closeIncrement c).now = s.now ∧ (closeIncrement c).store = s.store ∧ (closeIncrement c).stack = s.stack ∧
    (closeIncrement c).ring = s.ring ∧ (closeIncrement c).plan = s.plan ∧ (closeIncrement c).modes = s.modes ∧
    (closeIncrement c).chamber.integrator = s.chamber.integrator := by
  have hint : (closeIncrement c).chamber.integrator = (closureEffects c).chamber.integrator := (refresh_chamber_frame _).2.1
  refine ⟨?_, ?_, ?_, ?_, ?_, ?_, ?_⟩
  · simp [h.now]
  · simp [h.store]
  · simp [h.stack]
  · simp [h.ring]
  · simp [h.plan]
  · simp [h.modes]
  · rw [hint]
    simp [h.chamber]

/-- A STROKE REPORT that closes one increment, after which a selection becomes active. -/
theorem exec_strokeSwitch {f : Frame} (hasks : Asks s .drive 1 readStrokes f a) (hcomm : commissioned s = true)
    (hpend : s.store.pendingProfile = some n) (hmode : s.modes.mode = .advance ∨ s.modes.mode = .continuous)
    (hheld : heldGroups s ≤ releaseLimitIn s.store.profiles[n] s.modes.mode)
    (hcount : counted = leftOfAdvance s.account.residue (reportAdvance (contributions s a)))
    (hlen : 0 < (activeProfile s).incrementLength)
    (hdue : (activeProfile s).incrementLength ≤ s.account.accumulator + counted)
    (hshort : s.account.accumulator + counted - (activeProfile s).incrementLength < s.store.profiles[n].incrementLength) :
    ∃ t c, exec (.strokeReport .drive) s = .next t ∧ Counted a counted s c ∧ Stands s t ∧
      (closeIncrement c).account.accumulator < (closeIncrement c).store.profiles[n].incrementLength ∧
      Carries (strokesEnded a (taken .drive s) (makeSwitch n (closeIncrement c))) t := by
  obtain ⟨c, hc⟩ : ∃ c, c = strokesCounted a (taken .drive s) := ⟨_, rfl⟩
  have hcounted : Counted a counted s c := counted_of_report hc (by rw [countedAdvance_of_advancing hmode, hcount])
  have hnext : (closeIncrement c).account.accumulator < (closeIncrement c).store.profiles[n].incrementLength := by
    rwa [hcounted.increment_closed.1, hcounted.closeIncrement_frame.2.1]
  have htaken : strokesTaken a (taken .drive s) =
      strokesEnded a (taken .drive s) (makeSwitch n (closeIncrement c)) := by
    rw [strokesTaken_eq, ← hc, hcounted.closes_and_switches hpend hheld hlen hdue hnext]
  have hcountedStands : Stands (taken .drive s) c := by
    rw [hc]
    constructor <;> rfl
  obtain ⟨hpowered, hnow, hpending, hchoices⟩ := hcountedStands
  have hstands : Stands (taken .drive s) (makeSwitch n (closeIncrement c)) := by
    constructor <;> simp [hpowered, hnow, hpending, hchoices]
  obtain ⟨hpoweredE, hnowE, hpendingE, hchoicesE⟩ := strokesEnded_stands (a := a) (taken .drive s)
    (makeSwitch n (closeIncrement c))
  obtain ⟨t, ht, hst, -, hcarries, -⟩ := exec_works (exec_strokeReport .drive s) hasks rfl (.inl hcomm)
    (takeStrokes_of_closure hmode rfl hcount htaken rfl)
    ⟨hpoweredE.trans hstands.powered, hnowE.trans hstands.now, hpendingE.trans hstands.pending,
      hchoicesE.trans hstands.choices⟩
  exact ⟨t, c, ht, hcounted, hst, hnext, hcarries⟩

/-- The end of an event keeps the integrator. -/
theorem Carries.integrator {t r : State} (h : Carries t r) : r.chamber.integrator = t.chamber.integrator := by
  rw [h.chamber]
  split <;> rfl

end Closes

end Sys2Proof.Machine

/-! STROKE REPORT that closes one increment: the two cases of R10. -/

namespace Sys2Proof.Machine

set_option Elab.async false

/-- Settles O26: a report counts, its closure is the account's and the grout unit's alone, and the switch test that follows
either finds no selection to make active or makes the switch, which closes nothing more. -/
theorem strokeReportCloses : Obligations.StrokeReportCloses := by
  refine ⟨?_, ?_⟩
  · intro s f a p d counted len v w x m inst base shares hasks hcomm hcounter hwait hmode hp hdose hd hcount hlen hpos
      hdue honce hv hw hx hm hbasis hshares
    have hbasis' : (base, inst) = speedBasis s.account s.now len := by
      rw [speedBasis_eq]
      refine hbasis.trans ?_
      cases s.account.increments.getLast? <;> rfl
    subst hp
    obtain ⟨t, c, ht, hcounted, hserved, hchamber, hgroutT, haccount⟩ := exec_strokeClosure hasks hcomm hcounter hwait
      hmode hd hcount (hlen ▸ hpos) (hlen ▸ hdue) (hlen ▸ honce)
    obtain ⟨number, hnumber⟩ : ∃ n, n = nextIncrement s.account.counter := ⟨_, rfl⟩
    obtain ⟨hgrout, htold⟩ := hcounted.grout_closed hnumber hlen hw hx
    obtain ⟨r, hr⟩ : ∃ r : IncrementRec, r =
        { number, time := s.now, length := len, volume := v, tailVoid := w, grout := x, mass := m
          mode := s.modes.mode } := ⟨_, rfl⟩
    obtain ⟨lagged, hlagged⟩ : ∃ n, n = satAdd s.account.cycle.expected m -
      (((pushCapped 16 s.account.increments r).reverse.take
        (min (activeProfile s).spoilLag (satAdd s.account.cycle.increments 1))).map (·.mass)).sum := ⟨_, rfl⟩
    have hclosed := hcounted.closed hnumber rfl hlen hv hw hx hm hbasis' hr hlagged
    rw [hclosed] at haccount
    rw [hgrout] at hgroutT
    rw [htold] at hserved
    have hrecipients : recipientShares (activeProfile s) s.grout (fun _ => true) = shares := by
      rw [hshares]
      simp [recipientShares]
    refine ⟨t, number, lagged, _, _, ht, hnumber.trans (nextIncrement_eq _), hserved, hchamber, ?_, ?_, ?_, ?_⟩
    · rw [hlagged, haccount]
    · rw [haccount]
      have hres : residueAfter s.account.residue (reportAdvance (contributions s a)) =
          if d < 0 then min (s.account.residue + d.natAbs) 500 else s.account.residue - d.toNat := by
        rw [hd]
        rfl
      rw [hres, hr]
      cases base <;> rfl
    · intro hnone
      rw [← hrecipients] at hnone
      refine ⟨if_pos hnone, ?_⟩
      rw [hgroutT, groutClosure_of_none hnone]
    · intro hsome
      rw [← hrecipients] at hsome
      have hordered : t.grout = groutOrdered number x s := by rw [hgroutT, groutClosure_of_some hsome]
      refine ⟨closurePieces x s, fun i h => ?_, fun i order cap kept hserv ho hcap hkept => ⟨fun hle => ?_, fun hlt => ?_⟩,
        ?_, ?_, ?_⟩
      · rw [hordered]
        exact closurePieces_out h
      · rw [hordered]
        rw [← hrecipients] at ho
        exact closurePieces_nonpos hserv ho hle
      · rw [hordered]
        rw [← hrecipients] at ho
        refine closurePieces_pos hdose hserv ho hlt ?_ (hkept.trans (openDescriptors_eq _).symm)
        rw [hcap]
        cases s.grout.lines[i].capacity <;> rfl
      · rw [hordered]
        rfl
      · rw [hordered]
        rfl
      · exact groutTold_of_some rfl hdose hsome rfl hordered
  · intro s f a n p q counted len v w hasks hcomm hpend hmode hp hq hheld hcount hlen hpos hdue hshort hv hw
    subst hp hq hlen
    obtain ⟨t, c, ht, hcounted, hst, hnext, hcarries⟩ := exec_strokeSwitch hasks hcomm hpend hmode hheld hcount hpos hdue
      hshort
    obtain ⟨u, hu⟩ : ∃ u, u = closeIncrement c := ⟨_, rfl⟩
    have hframe := hcounted.closeIncrement_frame
    have hclosed := hcounted.increment_closed.1
    have haccount := closeIncrement_account c
    rw [← hu] at hnext hcarries hframe hclosed haccount
    obtain ⟨hnowU, hstoreU, hstackU, hringU, hplanU, hmodesU, hintU⟩ := hframe
    obtain ⟨hstoreE, hchamberE, -, -, haccountE⟩ := strokesEnded_frame a (taken .drive s) (makeSwitch n u)
    obtain ⟨hcutterE, hstackE, hringE, hplanE, hmodesE⟩ := strokesEnded_aside a (taken .drive s) (makeSwitch n u)
    obtain ⟨hforbids, hallows⟩ := makeSwitch_modes_of_short hnext
    have hmodes : t.modes = (makeSwitch n u).modes := hcarries.modes.trans hmodesE
    rw [hstoreU, hmodesU] at hforbids hallows
    refine ⟨t, _, ht, hst, rfl, ?_, ?_, ?_, ?_, ?_, ?_, fun hm ha => ?_, fun ha => ?_, ?_, ?_⟩
    · rw [hcarries.store, hstoreE, makeSwitch_store, hstoreU]
    · rw [hcarries.account, haccountE, makeSwitch_account_of_short hnext, hclosed]
    · rw [hcarries.account, haccountE, makeSwitch_account_of_short hnext, haccount, (closureEffects_histories c).1,
        hcounted.account, hcounted.closedIncrement rfl rfl hv hw, nextIncrement_eq]
    · rw [hcarries.integrator, hchamberE, makeSwitch_integrator_of_short hnext, hintU, hstoreU]
    · rw [hcarries.cutter, hcutterE, makeSwitch_torqueCeiling_of_short hnext, hcarries.torqueCeilingOf]
      exact torqueCeilingOf_congr (activeProfile_of_store hstoreE).symm (by rw [constantsOf, constantsOf, hstoreE])
        (by rw [hcutterE])
    · rw [hcarries.stack, hstackE, makeSwitch_stack, hstackU, hstoreU, hnowU]
      rfl
    · rw [hmodes, hforbids hm ha]
      exact ⟨rfl, rfl, rfl⟩
    · rw [hmodes]
      refine hallows (ha.imp (fun hm hc => ?_) id)
      rw [hm] at hc
      exact Mode.noConfusion hc
    · rw [hcarries.ring, hringE, ← hringU]
      simp
    · rw [hcarries.plan, hplanE, ← hplanU]
      simp

end Sys2Proof.Machine
